-- ==== Sys2Proof/Word.lean ====
section
/-! DEFINITION. Bytes, and tables of a fixed number of like entries: the plainest data of the WK2440 model. -/

namespace Sys2Proof

/-- One byte of the control link (R174, R175). -/
abbrev Byte := BitVec 8

/-- A table of exactly `n` entries, held as a list with its length. -/
structure Table (α : Type) (n : Nat) where
  list : List α
  size : list.length = n
deriving DecidableEq, Repr

/-- The entry at position `i`. -/
def Table.get {α : Type} {n : Nat} (t : Table α n) (i : Fin n) : α := t.list.get (i.cast t.size.symm)

/-- The table with the entry at position `i` replaced. -/
def Table.set {α : Type} {n : Nat} (t : Table α n) (i : Fin n) (a : α) : Table α n :=
  ⟨t.list.set i a, by simp [t.size]⟩

/-- The table whose entry at position `i` is `f i`. -/
def Table.ofFn {α : Type} {n : Nat} (f : Fin n → α) : Table α n := ⟨List.ofFn f, by simp⟩

/-- The table with `a` at every position. -/
def Table.fill {α : Type} {n : Nat} (a : α) : Table α n := ⟨List.replicate n a, by simp⟩

/-- The table with every entry replaced by its image, which may depend on its position. -/
def Table.imap {α β : Type} {n : Nat} (t : Table α n) (f : Fin n → α → β) : Table β n :=
  Table.ofFn fun i => f i (t.get i)

/-- The lowest position whose entry satisfies `p`. -/
def Table.lowest {α : Type} {n : Nat} (t : Table α n) (p : α → Bool) : Option (Fin n) :=
  (List.finRange n).find? fun i => p (t.get i)

/-- The positions, ascending, whose entry satisfies `p`. -/
def Table.positions {α : Type} {n : Nat} (t : Table α n) (p : α → Bool) : List (Fin n) :=
  (List.finRange n).filter fun i => p (t.get i)

end Sys2Proof
end

