-- ==== Sys2Proof/Config.lean ====
section
/-! DEFINITION. The free values of the WK2440 model: what the manual gives no value for. Each is an opaque
constant, so that a claim about the model holds whatever the value is (log 11, log 12). -/

namespace Sys2Proof

/-- The 256 bits of the `n`-th random key drawn (R4, R10, R21, R75: "fresh random"). Free value (log 11). -/
opaque Config.drawnKeyBits : Nat → BitVec 256

/-- The 256 bits of the KEK derived from a credential, a salt and a work factor (R76). Free value (log 11). -/
opaque Config.kekBits : List Byte → Nat → Nat → BitVec 256

/-- The 256 bits of the device key, fixed at manufacture (R4). Free value (log 11). -/
opaque Config.deviceKeyBits : BitVec 256

/-- The words of a LOAD whose key the key cache does not hold, which R5 excludes. Free value (log 11). -/
opaque Config.absentKeyBits : BitVec 256

/-- The 16 bytes of the `n`-th random nonce drawn (R92). Free value (log 11). -/
opaque Config.nonceBits : Nat → BitVec 128

/-- The keyed digest of a nonce under a pairing secret (R92), whose construction the manual leaves out
of its scope. Free value (log 11). -/
opaque Config.pairingDigest : BitVec 256 → BitVec 128 → BitVec 256

/-- The byte that carries value number `i` of coded field number `t` in a payload. The manual gives the kind,
result and setting codes; it gives none for the other enumerated fields. Free value (log 12). -/
opaque Config.enumCode : Nat → Nat → Byte

/-- Word 1 of a lane frame: the operation (0 for LOAD, 1 for CLEAR) and the slot number (R57). The manual does not place them
in the word. Free value (log 11). -/
opaque Config.laneCommand : Nat → Nat → BitVec 16

/-- The serial number the model's reset gives the IDENTITY record. DESIGN CHOICE (log 2). -/
def Config.serial : BitVec 64 := 0

/-- The capacity C, in blocks, the model's reset gives the IDENTITY record: the greatest the manual
allows. DESIGN CHOICE (log 2). -/
def Config.capacity : Nat := 2 ^ 40

end Sys2Proof
end

