-- ==== Sys2Proof/Syntax.lean ====
section
/-! DEFINITION. The commands of the WK2440: one constructor of `Instr` for each row of the table of operations and
events, with the operands that the environment brings. A request's operands are its link header and its fields. -/

namespace Sys2Proof

/-- The trigger kinds, in the order of the capture table (R96, R111). -/
inductive TriggerKind
  | bay | caseSw | pairing | absence | clock | halt | budget | remote
deriving DecidableEq, Repr

/-- The two debounced lines (R98). -/
inductive Line
  | bay | caseSw
deriving DecidableEq, Repr

/-- The stored guard modes OPEN, STRAP and FIXED (R160). -/
inductive GuardMode
  | opened | strap | fixed
deriving DecidableEq, Repr

/-- The modes WRITE and ALL of LOCK_RANGE (R17). -/
inductive LockMode
  | write | all
deriving DecidableEq, Repr

/-- The modes READ, WRITE and BOTH of UNLOCK_RANGE (R15). -/
inductive UnlockMode
  | read | write | both
deriving DecidableEq, Repr

/-- The kinds READ and WRITE of RESOLVE (R28). -/
inductive Access
  | read | write
deriving DecidableEq, Repr

/-- The four flags of a range (R2). -/
structure RangeFlags where
  lockEnabled : Bool
  conceal : Bool
  concealOnWary : Bool
  lockOnStandby : Bool
deriving DecidableEq, Repr

/-- The start and length of a defined range, in blocks (R2). -/
structure Geometry where
  start : Nat
  length : Nat
deriving DecidableEq, Repr

/-- One item of CONFIGURE: a setting id and a value of 4 bytes (R163). -/
structure SettingItem where
  id : Nat
  value : Nat
deriving DecidableEq, Repr

/-- What a request brings beside its fields: its tag (R175); whether its payload reads wholly as those fields (R176: the owner
answers BAD_ARG where it does not; where in its checks: log 47); and, beside its frame, the level of the GUARD line as it
stands at the guard check, true where high (R160; log 4). -/
structure Header where
  tag : Byte
  sized : Bool
  strap : Bool
deriving DecidableEq, Repr

/-- The lines that have no row of their own, as a tick boundary finds them: BAY and CASE as sampled (R98), and the crystal
cycles seen on XI since the last boundary, gap or pulse, whichever came last (R140). DESIGN CHOICE (log 4). -/
structure Lines where
  bayOpen : Bool
  caseOpen : Bool
  xiCycles : Nat
deriving DecidableEq, Repr

/-- The commands. A field that is a number stands as the number its frame carries, in or out of range; an enumerated
field is `none` where its code is none of the field's codes. -/
inductive Instr
  | coldStart
  | powerLoss
  | integrityScan
  | selHeldLow
  | warmStartProceed
  | wakePulse
  | dpwrRise
  | dpwrFall
  | standby (h : Header)
  | restart (h : Header) (check : Nat)
  | inboundFrame (bytes : List Byte) (whole : Bool)
  | readPeriod (clocked : Nat) (whole : Bool)
  | linkReply
  | identify (h : Header)
  | status (h : Header)
  | readTime (h : Header)
  | configure (h : Header) (acting : Nat) (items : List SettingItem)
  | freeze (h : Header)
  | setGuard (h : Header) (acting : Nat) (mode : Option GuardMode)
  | provision (h : Header) (admin : List Byte) (rescue : Option (List Byte)) (adminSet rescueSet : List Nat)
  | authenticate (h : Header) (authority : Nat) (credential : List Byte)
  | signOut (h : Header) (authority : Nat)
  | setCredential (h : Header) (acting user : Nat) (credential : List Byte) (grantSet startupSet : List Nat)
  | disableAuthority (h : Header) (acting target : Nat)
  | grant (h : Header) (acting user range : Nat)
  | revoke (h : Header) (acting user range : Nat)
  | pairChallenge (h : Header)
  | pairProve (h : Header) (proof : List Byte)
  | setPairing (h : Header) (acting : Nat) (secret token : Option (List Byte))
  | defineRange (h : Header) (acting : Nat) (geometry : Geometry) (flags : RangeFlags)
  | modifyRange (h : Header) (acting index : Nat) (flags : RangeFlags) (geometry : Option Geometry)
  | modifyRangeGeometry (h : Header) (acting index : Nat) (geometry : Geometry)
  | deleteRange (h : Header) (acting index : Nat)
  | listRanges (h : Header) (acting : Option Nat)
  | lockRange (h : Header) (acting index : Nat) (mode : Option LockMode)
  | unlockRange (h : Header) (acting index : Nat) (mode : Option UnlockMode)
  | rekeyRange (h : Header) (acting index : Nat)
  | resolve (h : Header) (start countLessOne : Nat) (kind : Option Access)
  | release (h : Header) (ids : List Nat)
  | readSlots (h : Header) (acting : Option Nat)
  | readCaptures (h : Header)
  | clearCapture (h : Header) (acting : Nat) (kind : Option TriggerKind)
  | wipe (h : Header) (acting : Option Nat) (token : Option (List Byte))
  | verdictExpiry (id : Nat)
  | laneFrameSent
  | loadAck (good : Bool)
  | clearAck (good : Bool)
  | ackTimeout
  | syncError
  | purgePulseEnd
  | haltRise
  | haltFall
  | derivationComplete
  | backoffExpiry (authority : Nat)
  | pairingWindowExpiry
  | trigger (kind : TriggerKind)
  | debouncerSettle (line : Line)
  | absenceCheck
  | graceExpiry
  | bankErase (good wpcFirst : Bool)
  | recordWrite (good wpcFirst : Bool)
  | tickBoundary (lines : Lines)
  | pscPersistence
  | crystalGap
  | crystalLoss
  | crystalConfirmed
  | calibrationWindowStart
  | calibrationCount (m : Nat)
  | switchToCrystal
  | calibrationDeadline
  | uncalibratedWatch
  | stimulationDeadline
  | stimulationPulseEnd
  | selFall (sckHigh : Bool)
deriving DecidableEq, Repr

end Sys2Proof
end

