-- ==== Sys2Proof/WellFormed.lean ====
section
/-! DEFINITION. Well-formed commands: every number fits the field that carries it on the link. -/

namespace Sys2Proof

/-- A one-byte field: authorities, indices, users (R175; width PRESUMED where the manual gives none, log 12). -/
def fitsByte (n : Nat) : Bool := n < 2 ^ 8

/-- A 2-byte field: verdict ids, the RESTART check value, the RESOLVE count less one (R28, R43, R170). -/
def fitsTwo (n : Nat) : Bool := n < 2 ^ 16

/-- A 4-byte field: a setting's value (R163). -/
def fitsFour (n : Nat) : Bool := n < 2 ^ 32

/-- A 6-byte field: an LBA or a length (R10, R28). -/
def fitsSix (n : Nat) : Bool := n < 2 ^ 48

/-- A byte list that a payload of at most 240 bytes can hold (R175). -/
def fitsPayload (l : List Byte) : Bool := l.length ≤ 240

/-- Both numbers of a geometry fit their 6-byte fields. -/
def Geometry.fits (g : Geometry) : Bool := fitsSix g.start && fitsSix g.length

/-- A list of one-byte indices that a payload can hold. -/
def fitsIndices (l : List Nat) : Bool := l.all fitsByte && l.length ≤ 240

/-- The well-formedness of a command. -/
def Instr.wellFormed : Instr → Bool
  | .restart _ check => fitsTwo check
  | .inboundFrame bytes _ => !bytes.isEmpty
  | .configure _ acting items =>
      fitsByte acting && items.all (fun i => fitsByte i.id && fitsFour i.value) && items.length ≤ 48
  | .setGuard _ acting _ => fitsByte acting
  | .provision _ admin rescue adminSet rescueSet =>
      fitsPayload admin && rescue.all fitsPayload && fitsIndices adminSet && fitsIndices rescueSet
  | .authenticate _ authority credential => fitsByte authority && fitsPayload credential
  | .signOut _ authority => fitsByte authority
  | .setCredential _ acting user credential grantSet startupSet =>
      fitsByte acting && fitsByte user && fitsPayload credential && fitsIndices grantSet && fitsIndices startupSet
  | .disableAuthority _ acting target => fitsByte acting && fitsByte target
  | .grant _ acting user range => fitsByte acting && fitsByte user && fitsByte range
  | .revoke _ acting user range => fitsByte acting && fitsByte user && fitsByte range
  | .pairProve _ proof => fitsPayload proof
  | .setPairing _ acting secret token => fitsByte acting && secret.all fitsPayload && token.all fitsPayload
  | .defineRange _ acting geometry _ => fitsByte acting && geometry.fits
  | .modifyRange _ acting index _ geometry => fitsByte acting && fitsByte index && geometry.all Geometry.fits
  | .modifyRangeGeometry _ acting index geometry => fitsByte acting && fitsByte index && geometry.fits
  | .deleteRange _ acting index => fitsByte acting && fitsByte index
  | .listRanges _ acting => acting.all fitsByte
  | .lockRange _ acting index _ => fitsByte acting && fitsByte index
  | .unlockRange _ acting index _ => fitsByte acting && fitsByte index
  | .rekeyRange _ acting index => fitsByte acting && fitsByte index
  | .resolve _ start countLessOne _ => fitsSix start && fitsTwo countLessOne
  | .release _ ids => ids.all fitsTwo && ids.length ≤ 120
  | .readSlots _ acting => acting.all fitsByte
  | .clearCapture _ acting _ => fitsByte acting
  | .wipe _ acting token => acting.all fitsByte && token.all fitsPayload
  | .verdictExpiry id => fitsTwo id
  | .backoffExpiry authority => authority < 8
  | .calibrationCount m => fitsTwo m
  | .coldStart | .powerLoss | .integrityScan | .selHeldLow | .warmStartProceed | .wakePulse | .dpwrRise
  | .dpwrFall | .standby _ | .readPeriod _ _ | .linkReply | .identify _ | .status _ | .readTime _ | .freeze _
  | .pairChallenge _ | .readCaptures _ | .laneFrameSent | .loadAck _ | .clearAck _ | .ackTimeout | .syncError
  | .purgePulseEnd | .haltRise | .haltFall | .derivationComplete | .pairingWindowExpiry | .trigger _
  | .debouncerSettle _ | .absenceCheck | .graceExpiry | .bankErase _ _ | .recordWrite _ _ | .tickBoundary _
  | .pscPersistence | .crystalGap | .crystalLoss | .crystalConfirmed | .calibrationWindowStart
  | .switchToCrystal | .calibrationDeadline | .uncalibratedWatch | .stimulationDeadline
  | .stimulationPulseEnd | .selFall _ => true

end Sys2Proof
end

