-- ==== Sys2Proof/Decode.lean ====
section
/-! DEFINITION. What bytes and words spell: the inbound frame of the control link with its checks and its CRC (R175,
R176), the request that a frame's payload spells (R175), and the words of the opcode table, which gives no row any bits. -/

namespace Sys2Proof

/-- The command that a word of the opcode table spells. The table gives no row any bits, so none (log 41). -/
def decodeTableWord (_nbits _w : Nat) : Option Instr := none

/-- The reasons a frame fails its checks (R176). -/
inductive FrameReason
  | badStart | badLength | badSize | badCheck | partialPeriod
deriving DecidableEq, Repr

/-- The start byte C3h (R174). -/
def startByte : Byte := 0xC3

/-- The read marker 3Ch (R174). -/
def readMarker : Byte := 0x3C

/-- The EMPTY marker 5Ah (R174). -/
def emptyMarker : Byte := 0x5A

/-- The fill byte FFh (R174). -/
def fillByte : Byte := 0xFF

/-- One bit of the CRC with polynomial 1021h (R175). -/
def crcBit (crc : BitVec 16) : BitVec 16 :=
  if crc.msb then (crc <<< 1) ^^^ 0x1021 else crc <<< 1

/-- One byte of the CRC, most significant bit first (R175). -/
def crcByte (crc : BitVec 16) (b : Byte) : BitVec 16 :=
  crcBit (crcBit (crcBit (crcBit (crcBit (crcBit (crcBit (crcBit (crc ^^^ (b.zeroExtend 16 <<< 8)))))))))

/-- The CRC-16 with polynomial 1021h and initial value FFFFh over a list of bytes (R175). -/
def crc16 (bytes : List Byte) : BitVec 16 := bytes.foldl crcByte 0xFFFF

/-- The 2-byte check field of a frame, most significant byte first (R175). -/
def checkBytes (bytes : List Byte) : List Byte :=
  [(crc16 bytes).extractLsb' 8 8, (crc16 bytes).extractLsb' 0 8]

/-- A frame's bytes: start, kind, tag, length, payload and check (R175). -/
def frameBytes (kind tag : Byte) (payload : List Byte) : List Byte :=
  let body := kind :: tag :: BitVec.ofNat 8 payload.length :: payload
  startByte :: body ++ checkBytes body

/-- The checks of R176 in their order: the first failure decides the reason; a frame that passes yields its kind, tag
and payload. A frame too short to hold a length byte fails its size (log 14). -/
def checkFrame (bytes : List Byte) : Except FrameReason (Byte × Byte × List Byte) :=
  match bytes with
  | [] => .error .badStart
  | start :: body =>
    if start ≠ startByte then .error .badStart
    else match body with
      | kind :: tag :: length :: rest =>
        if 240 < length.toNat then .error .badLength
        else if rest.length ≠ length.toNat + 2 then .error .badSize
        else
          let payload := rest.take length.toNat
          if rest.drop length.toNat ≠ checkBytes (kind :: tag :: length :: payload) then .error .badCheck
          else .ok (kind, tag, payload)
      | _ => .error .badSize

/-- The tag a failed frame is answered under: its third byte, if at least three whole bytes were received and the start
byte was C3h, and 0 otherwise (R176). -/
def failedTag (bytes : List Byte) : Byte :=
  match bytes with
  | start :: _ :: tag :: _ => if start = startByte then tag else 0
  | _ => 0

/-- The request kinds of R175's table. -/
def requestKinds : List Byte :=
  [0x01, 0x02, 0x03, 0x04, 0x05, 0x06, 0x10, 0x11, 0x12, 0x13, 0x14, 0x15, 0x16, 0x17, 0x18, 0x19,
   0x20, 0x21, 0x22, 0x23, 0x24, 0x25, 0x26, 0x30, 0x31, 0x32, 0x34, 0x35, 0x38, 0x3A, 0x3B]

/-! ## Requests -/

/-- The header of a command that is a request, with its kind (R175). -/
def requestOf : Instr → Option (Byte × Header)
  | .identify h => some (0x01, h)
  | .status h => some (0x02, h)
  | .readTime h => some (0x03, h)
  | .configure h _ _ => some (0x04, h)
  | .freeze h => some (0x05, h)
  | .setGuard h _ _ => some (0x06, h)
  | .provision h _ _ _ _ => some (0x10, h)
  | .authenticate h _ _ => some (0x11, h)
  | .signOut h _ => some (0x12, h)
  | .setCredential h _ _ _ _ _ => some (0x13, h)
  | .disableAuthority h _ _ => some (0x14, h)
  | .grant h _ _ _ => some (0x15, h)
  | .revoke h _ _ _ => some (0x16, h)
  | .pairChallenge h => some (0x17, h)
  | .pairProve h _ => some (0x18, h)
  | .setPairing h _ _ _ => some (0x19, h)
  | .defineRange h _ _ _ => some (0x20, h)
  | .modifyRange h _ _ _ _ => some (0x21, h)
  | .modifyRangeGeometry h _ _ _ => some (0x21, h)
  | .deleteRange h _ _ => some (0x22, h)
  | .listRanges h _ => some (0x23, h)
  | .lockRange h _ _ _ => some (0x24, h)
  | .unlockRange h _ _ _ => some (0x25, h)
  | .rekeyRange h _ _ => some (0x26, h)
  | .resolve h _ _ _ => some (0x30, h)
  | .release h _ => some (0x31, h)
  | .readSlots h _ => some (0x32, h)
  | .readCaptures h => some (0x34, h)
  | .clearCapture h _ _ => some (0x35, h)
  | .wipe h _ _ => some (0x38, h)
  | .standby h => some (0x3A, h)
  | .restart h _ => some (0x3B, h)
  | .coldStart | .powerLoss | .integrityScan | .selHeldLow | .warmStartProceed | .wakePulse | .dpwrRise | .dpwrFall
  | .inboundFrame _ _ | .readPeriod _ _ | .linkReply | .verdictExpiry _ | .laneFrameSent | .loadAck _ | .clearAck _
  | .ackTimeout | .syncError | .purgePulseEnd | .haltRise | .haltFall | .derivationComplete | .backoffExpiry _
  | .pairingWindowExpiry | .trigger _ | .debouncerSettle _ | .absenceCheck | .graceExpiry | .bankErase _ _
  | .recordWrite _ _ | .tickBoundary _ | .pscPersistence | .crystalGap | .crystalLoss | .crystalConfirmed
  | .calibrationWindowStart | .calibrationCount _ | .switchToCrystal | .calibrationDeadline | .uncalibratedWatch
  | .stimulationDeadline | .stimulationPulseEnd | .selFall _ => none

/-- The entries of the outbound queue that a request's reply needs (R178). -/
def entriesNeeded (kind : Byte) : Nat := if kind = 0x23 then 2 else 1

/-- The level of the GUARD line that a request brings to its guard check (R160; log 4). -/
def Instr.strap (c : Instr) : Bool := (requestOf c).any fun r => r.2.strap

/-- A request with another header. -/
def Instr.mapHeader (f : Header → Header) : Instr → Instr
  | .standby h => .standby (f h)
  | .restart h check => .restart (f h) check
  | .identify h => .identify (f h)
  | .status h => .status (f h)
  | .readTime h => .readTime (f h)
  | .configure h acting items => .configure (f h) acting items
  | .freeze h => .freeze (f h)
  | .setGuard h acting mode => .setGuard (f h) acting mode
  | .provision h admin rescue adminSet rescueSet => .provision (f h) admin rescue adminSet rescueSet
  | .authenticate h authority credential => .authenticate (f h) authority credential
  | .signOut h authority => .signOut (f h) authority
  | .setCredential h acting user credential grantSet startupSet => .setCredential (f h) acting user credential grantSet startupSet
  | .disableAuthority h acting target => .disableAuthority (f h) acting target
  | .grant h acting user range => .grant (f h) acting user range
  | .revoke h acting user range => .revoke (f h) acting user range
  | .pairChallenge h => .pairChallenge (f h)
  | .pairProve h proof => .pairProve (f h) proof
  | .setPairing h acting secret token => .setPairing (f h) acting secret token
  | .defineRange h acting geometry flags => .defineRange (f h) acting geometry flags
  | .modifyRange h acting index flags geometry => .modifyRange (f h) acting index flags geometry
  | .modifyRangeGeometry h acting index geometry => .modifyRangeGeometry (f h) acting index geometry
  | .deleteRange h acting index => .deleteRange (f h) acting index
  | .listRanges h acting => .listRanges (f h) acting
  | .lockRange h acting index mode => .lockRange (f h) acting index mode
  | .unlockRange h acting index mode => .unlockRange (f h) acting index mode
  | .rekeyRange h acting index => .rekeyRange (f h) acting index
  | .resolve h start countLessOne kind => .resolve (f h) start countLessOne kind
  | .release h ids => .release (f h) ids
  | .readSlots h acting => .readSlots (f h) acting
  | .readCaptures h => .readCaptures (f h)
  | .clearCapture h acting kind => .clearCapture (f h) acting kind
  | .wipe h acting token => .wipe (f h) acting token
  | c => c

/-- A command as its frame alone gives it: the GUARD line is no part of a frame, so its level stands as low. -/
def Instr.framed (c : Instr) : Instr := c.mapHeader fun h => { h with strap := false }

/-- A request's payload reads wholly as its fields (R176); of no other command is anything said. -/
def Instr.sized (c : Instr) : Bool := (requestOf c).all fun r => r.2.sized

/-! ## The request that a payload spells (R175; widths and codes: log 12) -/

/-- What is read from the front of a payload; it fails where the payload is too short or a field has no such value. -/
abbrev Reader (α : Type) := StateT (List Byte) Option α

/-- One byte. -/
def readByte : Reader Byte := fun
  | [] => none
  | b :: rest => some (b, rest)

/-- A number of `n` bytes, most significant byte first, after those already read. -/
def readOn : Nat → Nat → Reader Nat
  | acc, 0 => pure acc
  | acc, n + 1 => do readOn (acc * 256 + (← readByte).toNat) n

/-- A number of `n` bytes, most significant byte first. -/
def readNum (n : Nat) : Reader Nat := readOn 0 n

/-- A flag or a presence byte: 00h or 01h. -/
def readFlag : Reader Bool := do
  let b ← readByte
  if b = 0x00 then pure false else if b = 0x01 then pure true else failure

/-- A field behind its presence byte. -/
def readOption {α : Type} (item : Reader α) : Reader (Option α) := do
  if ← readFlag then some <$> item else pure none

/-- `n` items. -/
def readTimes {α : Type} (item : Reader α) : Nat → Reader (List α)
  | 0 => pure []
  | n + 1 => do return (← item) :: (← readTimes item n)

/-- A list behind its count; a credential, a secret, a token or a proof is a list of bytes. -/
def readList {α : Type} (item : Reader α) : Reader (List α) := do readTimes item (← readByte).toNat

/-- An enumerated field: the value whose code the byte is, if any (log 12). -/
def readEnum {α : Type} (field : Nat) (values : List α) : Reader (Option α) := do
  let b ← readByte
  return ((values.zipIdx).find? fun v => Config.enumCode field v.2 == b).map Prod.fst

/-- The four flags of a range, in the order of R2. -/
def readFlags : Reader RangeFlags := do
  return { lockEnabled := ← readFlag, conceal := ← readFlag, concealOnWary := ← readFlag, lockOnStandby := ← readFlag }

/-- A start and a length of 6 bytes each (R10). -/
def readGeometry : Reader Geometry := do return { start := ← readNum 6, length := ← readNum 6 }

/-- One item of CONFIGURE: its id and a value of 4 bytes (R163). -/
def readSetting : Reader SettingItem := do return { id := ← readNum 1, value := ← readNum 4 }

/-- MODIFY_RANGE carries its flags, its geometry or both (R11, R12); a payload with neither is read as one of the wrong size (log 59). -/
def modification (h : Header) (acting index : Nat) : Option RangeFlags → Option Geometry → Option Instr
  | some flags, geometry => some (.modifyRange h acting index flags geometry)
  | none, some geometry => some (.modifyRangeGeometry h acting index geometry)
  | none, none => none

/-- The trigger kinds in the order of their codes (R111). -/
def triggerKinds : List TriggerKind := [.bay, .caseSw, .pairing, .absence, .clock, .halt, .budget, .remote]

/-- The fields of a request of each kind, in the order its rule lists them (R175). -/
def requestReader (h : Header) (kind : Nat) : Reader Instr :=
  match kind with
  | 0x01 => pure (.identify h)
  | 0x02 => pure (.status h)
  | 0x03 => pure (.readTime h)
  | 0x04 => do return .configure h (← readNum 1) (← readList readSetting)
  | 0x05 => pure (.freeze h)
  | 0x06 => do return .setGuard h (← readNum 1) (← readEnum 4 [.opened, .strap, .fixed])
  | 0x10 => do
    return .provision h (← readList readByte) (← readOption (readList readByte)) (← readList (readNum 1))
      (← readList (readNum 1))
  | 0x11 => do return .authenticate h (← readNum 1) (← readList readByte)
  | 0x12 => do return .signOut h (← readNum 1)
  | 0x13 => do
    return .setCredential h (← readNum 1) (← readNum 1) (← readList readByte) (← readList (readNum 1))
      (← readList (readNum 1))
  | 0x14 => do return .disableAuthority h (← readNum 1) (← readNum 1)
  | 0x15 => do return .grant h (← readNum 1) (← readNum 1) (← readNum 1)
  | 0x16 => do return .revoke h (← readNum 1) (← readNum 1) (← readNum 1)
  | 0x17 => pure (.pairChallenge h)
  | 0x18 => do return .pairProve h (← readList readByte)
  | 0x19 => do
    return .setPairing h (← readNum 1) (← readOption (readList readByte)) (← readOption (readList readByte))
  | 0x20 => do return .defineRange h (← readNum 1) (← readGeometry) (← readFlags)
  | 0x21 => do
    match modification h (← readNum 1) (← readNum 1) (← readOption readFlags) (← readOption readGeometry) with
    | some c => pure c
    | none => failure
  | 0x22 => do return .deleteRange h (← readNum 1) (← readNum 1)
  | 0x23 => do return .listRanges h (← readOption (readNum 1))
  | 0x24 => do return .lockRange h (← readNum 1) (← readNum 1) (← readEnum 32 [.write, .all])
  | 0x25 => do return .unlockRange h (← readNum 1) (← readNum 1) (← readEnum 33 [.read, .write, .both])
  | 0x26 => do return .rekeyRange h (← readNum 1) (← readNum 1)
  | 0x30 => do return .resolve h (← readNum 6) (← readNum 2) (← readEnum 34 [.read, .write])
  | 0x31 => do return .release h (← readList (readNum 2))
  | 0x32 => do return .readSlots h (← readOption (readNum 1))
  | 0x34 => pure (.readCaptures h)
  | 0x35 => do return .clearCapture h (← readNum 1) (← readEnum 30 triggerKinds)
  | 0x38 => do return .wipe h (← readOption (readNum 1)) (← readOption (readList readByte))
  | 0x3A => pure (.standby h)
  | 0x3B => do return .restart h (← readNum 2)
  | _ => failure

/-- The request that a frame's kind, tag and payload spell, if the payload reads wholly as its fields (R175, R176). -/
def readRequest (kind tag : Byte) (payload : List Byte) : Option Instr :=
  match (requestReader { tag := tag, sized := true, strap := false } kind.toNat).run payload with
  | some (c, []) => some c
  | some (_, _ :: _) => none
  | none => none

/-- A frame that has passed its checks spells this request. A payload that does not read as its kind's fields is spelled by the
requests of that kind and tag whose payload has not the size of their fields (R176; log 13). -/
def spells (kind tag : Byte) (payload : List Byte) (c : Instr) : Bool :=
  (requestOf c).any fun r =>
    r.1 == kind && r.2.tag == tag &&
      match readRequest kind tag payload with
      | some d => d == c.framed
      | none => !r.2.sized

end Sys2Proof
end

