-- ==== Sys2Proof/Machine/State.lean ====
section
/-! DEFINITION. The state of the WK2440 as plain data, block by block, and its value after reset. -/

namespace Sys2Proof.Machine

/-! ## Positions -/

/-- A range index 0 to 15 (R1). -/
abbrev RangeIx := Fin 16
/-- A cipher slot 0 to 7 (R50). -/
abbrev SlotIx := Fin 8
/-- An authority: ADMIN 0, USER1 to USER6 1 to 6, RESCUE 7 (R71). -/
abbrev AuthIx := Fin 8
/-- An envelope position 0 to 47 (R6). -/
abbrev EnvIx := Fin 48
/-- A deferred-reply entry 0 to 3 (R180). -/
abbrev DeferIx := Fin 4

/-- The position of a trigger kind in the capture table (R111). -/
def kindIx : TriggerKind → Fin 8
  | .bay => 0 | .caseSw => 1 | .pairing => 2 | .absence => 3
  | .clock => 4 | .halt => 5 | .budget => 6 | .remote => 7

/-- The trigger kind at a position of the capture table (R111). -/
def kindAt (i : Fin 8) : TriggerKind :=
  match i.val with
  | 0 => .bay | 1 => .caseSw | 2 => .pairing | 3 => .absence
  | 4 => .clock | 5 => .halt | 6 => .budget | _ => .remote

/-! ## Keys and credentials -/

/-- A key, by what it is: the device key, the `n`-th random key drawn, or a KEK derived from a credential, the salt of draw
`salt` and a work factor (R4, R76). Two keys are equal exactly when they are the same key (log 9). -/
inductive Key
  | device
  | drawn (n : Nat)
  | kek (credential : List Byte) (salt factor : Nat)
deriving DecidableEq, Repr

/-- A wrapped key: the key it is wrapped under, the key it holds, and whether its integrity check holds (R4). -/
structure Wrapped where
  under : Key
  holds : Key
  intact : Bool
deriving DecidableEq, Repr

/-- What a credential, a salt and a work factor derive as their check value (R71, R76; log 10). -/
structure Verifier where
  credential : List Byte
  salt : Nat
  factor : Nat
deriving DecidableEq, Repr

/-- The salt, verifier and work factor an authority holds, set together (R71). -/
structure Credential where
  salt : Nat
  verifier : Verifier
  factor : Nat
deriving DecidableEq, Repr

/-- The digest of a wipe token (R90, R118; log 10). -/
structure TokenDigest where
  token : List Byte
deriving DecidableEq, Repr

/-- What an envelope opens: a range or the domain (R6). -/
inductive Target
  | range (r : RangeIx)
  | domain
deriving DecidableEq, Repr

/-- An envelope (R6). -/
structure Envelope where
  authority : AuthIx
  target : Target
  wrapped : Wrapped
deriving DecidableEq, Repr

/-! ## Enumerations of the blocks -/

/-- Key states (R2). -/
inductive KeyState
  | keyed | erased
deriving DecidableEq, Repr

/-- Lock states (R3). -/
inductive LockState
  | opened | readOnly | locking | locked
deriving DecidableEq, Repr

/-- Lifecycles (R72). -/
inductive Lifecycle
  | unprovisioned | provisioned | wiped
deriving DecidableEq, Repr

/-- Threat levels (R95). -/
inductive Level
  | calm | wary | alarm | wiping
deriving DecidableEq, Repr

/-- Responses (R96). -/
inductive Response
  | record | wary | alarm | wipe
deriving DecidableEq, Repr

/-- Time qualities (R139). -/
inductive Quality
  | uncalibrated | true_ | holdover
deriving DecidableEq, Repr

/-- Debug-halt policies (R66). -/
inductive HaltPolicy
  | purge | finish | ignore
deriving DecidableEq, Repr

/-- ATTN modes (R181). -/
inductive AttnMode
  | any | notice
deriving DecidableEq, Repr

/-- Wipe phases held in COUNTERS (R117). -/
inductive WipePhase
  | none | erasing | rewriting
deriving DecidableEq, Repr

/-- The key banks, the only banks that are erased (R153). -/
inductive Bank
  | k0 | k1 | k2 | k3
deriving DecidableEq, Repr

/-- The blocks that own deferred replies (R180). -/
inductive Block
  | rmg | aut | thm | sto
deriving DecidableEq, Repr

/-- Result codes 00h to 10h in order (R175). -/
inductive ResultCode
  | ok | accepted | busy | reject | denied | notPaired | lockedOut | disabled | failed | threat | badArg | noRoom
  | guarded | wrongState | wiping | stale | storeFault
deriving DecidableEq, Repr

/-! ## Records of the retained store (R153) -/

/-- The IDENTITY record. -/
structure IdentityRec where
  serial : BitVec 64
  capacity : Nat
deriving DecidableEq, Repr

/-- The POLICY record: the settings of R163 in id order. -/
structure Policy where
  verdictLifetime : Nat
  haltPolicy : HaltPolicy
  failureLimit : Nat
  tryLimit : Nat
  workFactor : Nat
  pairWindow : Nat
  responseBay : Response
  responseCase : Response
  responsePairing : Response
  responseAbsence : Response
  responseClock : Response
  responseHalt : Response
  absenceLimit : Nat
  grace : Nat
  stimulation : Bool
  attnMode : AttnMode
deriving DecidableEq, Repr

/-- The PAIRING record (R89). -/
structure PairingRec where
  secret : Option (BitVec 256)
  token : Option TokenDigest
deriving DecidableEq, Repr

/-- The COUNTERS record (R153). -/
structure CountersRec where
  lifecycle : Lifecycle
  tryCount : Nat
  lastSignIn : Nat
  level : Level
  grace : Option Nat
  psc : Nat
  phase : WipePhase
  next : Option Bank
deriving DecidableEq, Repr

/-- An AUTHORITY record (R71). -/
structure AuthorityRec where
  enabled : Bool
  credential : Option Credential
  failures : Nat
  limit : Nat
  startup : List RangeIx
deriving DecidableEq, Repr

/-- A RANGE record: geometry and flags. Without a geometry, an index 1 to 15 is undefined (R2). -/
structure RangeRec where
  geometry : Option Geometry
  flags : RangeFlags
deriving DecidableEq, Repr

/-- A RANGE KEY record (R4). -/
structure RangeKeyRec where
  state : KeyState
  generation : Nat
  domainWrap : Option Wrapped
  deviceWrap : Option Wrapped
deriving DecidableEq, Repr

/-- The fields of a filled CAPTURE record (R111). -/
structure Capture where
  psc : Nat
  tick : Nat
  quality : Quality
  before : Level
  count : Nat
deriving DecidableEq, Repr

/-- The retained contents of one record: sound, blank after an erase, or invalid (R154, R155). -/
inductive Kept (α : Type)
  | sound (a : α)
  | blank
  | invalid
deriving DecidableEq, Repr

/-- The 101 records (R153). -/
structure Records where
  identity : Kept IdentityRec
  guard : Kept GuardMode
  policy : Kept Policy
  pairing : Kept PairingRec
  counters : Kept CountersRec
  authority : Table (Kept AuthorityRec) 8
  range : Table (Kept RangeRec) 16
  rangeKey : Table (Kept RangeKeyRec) 16
  envelope : Table (Kept (Option Envelope)) 48
  capture : Table (Kept (Option Capture)) 8
deriving DecidableEq, Repr

/-- The name of one record (R153). -/
inductive RecordId
  | identity | guard | policy | pairing | counters
  | authority (a : AuthIx)
  | range (r : RangeIx)
  | rangeKey (r : RangeIx)
  | envelope (p : EnvIx)
  | capture (i : Fin 8)
deriving DecidableEq, Repr

/-- A record with the content written into it (R153). -/
inductive RecContent
  | identity (c : IdentityRec)
  | guard (c : GuardMode)
  | policy (c : Policy)
  | pairing (c : PairingRec)
  | counters (c : CountersRec)
  | authority (a : AuthIx) (c : AuthorityRec)
  | range (r : RangeIx) (c : RangeRec)
  | rangeKey (r : RangeIx) (c : RangeKeyRec)
  | envelope (p : EnvIx) (c : Option Envelope)
  | capture (i : Fin 8) (c : Option Capture)
deriving DecidableEq, Repr

/-! ## Link frames -/

/-- Dispositions of a segment (R34), with what each carries. -/
inductive WaitReason
  | loading | slotsPinned | verdictsFull
deriving DecidableEq, Repr

/-- Dispositions of a segment (R34), with what each carries. -/
inductive Disposition
  | pass (slot : SlotIx)
  | wait (reason : WaitReason)
  | deny | blank | void | beyond
deriving DecidableEq, Repr

/-- A segment of a resolved span (R31, R39). -/
structure Segment where
  first : Nat
  count : Nat
  range : Option RangeIx
  disposition : Disposition
deriving DecidableEq, Repr

/-- Slot states (R50). -/
inductive SlotState
  | empty | loading | loaded | clearing | unknown
deriving DecidableEq, Repr

/-- A range and the generation of its key (R50). -/
structure Occupant where
  range : RangeIx
  generation : Nat
deriving DecidableEq, Repr

/-- One entry of the slot table (R50). -/
structure Slot where
  state : SlotState
  occupant : Option Occupant
  next : Option Occupant
  pins : Nat
  lastUse : Nat
deriving DecidableEq, Repr

/-- The operations of a lane frame (R56). -/
inductive LaneOp
  | load | clear
deriving DecidableEq, Repr

/-- A lane frame: its operation, its slot, and the key its tag names (R56, R57). -/
structure LaneFrame where
  op : LaneOp
  slot : SlotIx
  key : Option Occupant
deriving DecidableEq, Repr

/-- Lane states (R58), with the frame in flight. -/
inductive Lane
  | idle
  | sending (f : LaneFrame)
  | awaitAck (f : LaneFrame)
  | fault
deriving DecidableEq, Repr

/-- Lane faults (R63). -/
inductive LaneFault
  | clearBad | loadBad | ackTimeout | syncError
deriving DecidableEq, Repr

/-- Causes of a purge as the VOID notice names them (R48). -/
inductive VoidCause
  | laneFault (f : LaneFault)
  | alarm | wiping | halt | rekey
deriving DecidableEq, Repr

/-- Causes of a THREAT notice (R109). -/
inductive ThreatCause
  | trigger (k : TriggerKind)
  | grace | signIn | wipeComplete | start
deriving DecidableEq, Repr

/-- Causes of a CLOCK notice (R148). -/
inductive ClockCause
  | crystalLost | calibrated | calibrationBand | uncalibrated | start
deriving DecidableEq, Repr

/-- The rewrite groups of phase 2 (R124). -/
inductive RewriteGroup
  | rangeKeys | authorities | pairing
deriving DecidableEq, Repr

/-- The operation a WIPE notice reports as just completed (R126). -/
inductive WipeLast
  | entry
  | erased (b : Bank)
  | progress
  | group (g : RewriteGroup)
  | final
deriving DecidableEq, Repr

/-- The phase a WIPE notice reports (R126). -/
inductive WipeReport
  | entry | erasing | rewriting | complete
deriving DecidableEq, Repr

/-- The operation a STORE notice reports (R155). -/
inductive StoreReport
  | write (r : RecordId)
  | erase (b : Bank)
deriving DecidableEq, Repr

/-- Notices (R48, R109, R112, R126, R148, R155). -/
inductive Notice
  | threat (level previous : Level) (cause : ThreatCause) (authority : Option AuthIx)
      (grace : Option (Nat × Nat)) (mapGen : Nat)
  | void (mapGen : Nat) (cause : VoidCause)
  | wipe (phase : WipeReport) (last : Option WipeLast) (next : Option Bank) (resumed : Bool) (faulty : Nat)
  | clock (quality previous : Quality) (cause : ClockCause) (measured accepted : Option Nat)
      (divisor psc uptime : Nat)
  | capture (kind : TriggerKind) (record : Capture)
  | store (report : StoreReport) (faulty : Nat)
deriving DecidableEq, Repr

/-- Power states (R165); `unpowered` while the supply is below its threshold. -/
inductive Power
  | unpowered | starting | active | standby
deriving DecidableEq, Repr

/-- Reset causes (R166). -/
inductive ResetCause
  | cold | linkHeld | restart
deriving DecidableEq, Repr

/-- The states of the derivation engine as STATUS names them (R76). -/
inductive EngineState
  | idle | charging | deriving_ | finishing
deriving DecidableEq, Repr

/-- The settled states of a debouncer (R98). -/
inductive Settled
  | opened | closed | unsettled
deriving DecidableEq, Repr

/-- The crystal supervisor (R140). -/
inductive Supervisor
  | confirming (count : Nat)
  | confirmed
  | inUse
deriving DecidableEq, Repr

/-- What the absence field of READ_CAPTURES says (R113). -/
inductive AbsenceState
  | off | armed | fired
deriving DecidableEq, Repr

/-- What one range of a grant set came to (R87). -/
inductive GrantResult
  | position (p : EnvIx)
  | noRoom
  | wrongState
deriving DecidableEq, Repr

/-- What a STORE_FAULT reply names (R9): a range, an envelope position, or nothing. -/
inductive FaultAbout
  | range (r : RangeIx)
  | envelope (p : EnvIx)
  | none
deriving DecidableEq, Repr

/-- One entry of the LIST_RANGES reply (R14). -/
structure ListedRange where
  index : RangeIx
  geometry : Option Geometry
  flags : RangeFlags
  keyState : KeyState
  generation : Nat
  lock : LockState
  slot : Option SlotIx
  concealed : Bool
deriving DecidableEq, Repr

/-- One slot entry of the READ_SLOTS reply (R68). -/
structure ListedSlot where
  state : SlotState
  occupant : Option Occupant
  next : Option Occupant
  concealed : Bool
  pins : Nat
  lastUse : Nat
deriving DecidableEq, Repr

/-- The fields of a reply after its result code. -/
inductive ReplyBody
  | empty
  | rejected (reason : FrameReason)
  | unknownKind (kind : Byte)
  | identify (serial : BitVec 64) (capacity visible : Nat) (lifecycle : Lifecycle) (cause : ResetCause)
      (guard : GuardMode) (frozen : Bool) (faulty : List RecordId)
  | status (power : Power) (level : Level) (lifecycle : Lifecycle) (mapGen : Nat) (overrun : Bool)
      (outbound pendingSet : Nat) (deferred : List (Byte × Byte × Bool)) (engine : EngineState)
      (storeBusy : Bool) (dirty : Nat)
  | time (psc seconds tick : Nat) (quality : Quality) (crystal : Supervisor) (accepted : Option Nat)
      (measured : Option (Nat × Bool)) (divisor : Nat) (stimulation : Bool)
  | configured (clamped : List (Nat × Nat × Nat))
  | frozen (mode : GuardMode) (frozen : Bool)
  | guardMode (mode : GuardMode)
  | provisioned (lifecycle : Lifecycle) (generations : List (RangeIx × Nat))
  | signedIn (authority : AuthIx) (level : Level) (opened failed : List RangeIx) (domainKey : Option Bool)
  | attemptFailed (failures limit delay : Nat) (disabled : Bool)
  | lockedOut (seconds : Nat)
  | granted (results : List GrantResult)
  | nonce (draw : Nat)
  | rangeDefined (index : RangeIx) (generation : Nat)
  | rekeyed (generation : Nat)
  | ranges (part total mapGen visible : Nat) (entries : List ListedRange)
  | lockState (lock : LockState)
  | position (p : Option EnvIx)
  | resolved (mapGen id : Nat) (lifetime resume : Option Nat) (segments : List Segment)
  | released (results : List Bool)
  | slots (mapGen : Nat) (lane : Nat) (held purging : Bool) (policy : HaltPolicy) (badRun : Nat)
      (queue : List (LaneOp × SlotIx)) (entries : List ListedSlot)
  | captures (level : Level) (grace remaining : Option Nat) (psc lastSignIn : Nat) (absence : AbsenceState)
      (bay caseSw : Settled) (halt : Bool) (records : List (Option Capture))
  | wipeAccepted (byToken : Bool)
  | fault (about : FaultAbout)
deriving DecidableEq, Repr

/-- A reply: its result code and its fields (R175). -/
structure Reply where
  result : ResultCode
  body : ReplyBody
deriving DecidableEq, Repr

/-- A frame of the outbound queue (R178). -/
inductive OutFrame
  | reply (kind tag : Byte) (r : Reply)
  | notice (n : Notice)
deriving DecidableEq, Repr

/-- What the waiting position holds (R177): a frame that passed its checks, byte for byte; a request, as its command gave its
fields (log 13); or a frame that failed its checks. -/
inductive Waiting
  | frame (kind tag : Byte) (payload : List Byte)
  | request (c : Instr)
  | failed (reason : FrameReason) (tag : Byte)
deriving DecidableEq, Repr

/-- A select period in progress (R174): its SPI mode, the frame at the head of the outbound queue at its fall, and
whether that frame's content has been replaced since (R178). -/
structure Period where
  modeThree : Bool
  head : Option OutFrame
  replaced : Bool
deriving DecidableEq, Repr

/-! ## Waits on the store and deferred replies -/

/-- A wait for a write of `record` that starts after the mark it follows (R156): `started` once that write has
started. -/
structure Wait where
  record : RecordId
  started : Bool
deriving DecidableEq, Repr

/-- What the owner of a WORKING entry still works on (R9, R18, R21, R76): the lock of a range; record writes,
and for a REKEY_RANGE its forced lock too; or a job of the derivation engine. -/
inductive Work
  | lock (r : RangeIx)
  | writes (waits : List Wait) (lock : Option RangeIx) (done fault : Reply)
  | engine
deriving DecidableEq, Repr

/-- The state of a deferred-reply entry (R180). -/
inductive DeferState
  | working (w : Work)
  | ready (r : Reply)
deriving DecidableEq, Repr

/-- One entry of the deferred-reply table in use (R180), with the range its request named, if any. -/
structure Deferred where
  kind : Byte
  tag : Byte
  owner : Block
  range : Option RangeIx
  state : DeferState
deriving DecidableEq, Repr

/-! ## The blocks' states -/

/-- LNK (chapter 10). -/
structure Lnk where
  waiting : Option Waiting
  outbound : List OutFrame
  reserved : Nat
  pendingSet : List Notice
  deferred : Table (Option Deferred) 4
  readyOrder : List DeferIx
  overrun : Bool
  period : Option Period
  sdo : List Byte
deriving DecidableEq, Repr

/-- One entry of the range table (R2). -/
structure RangeEntry where
  geometry : Option Geometry
  flags : RangeFlags
  keyState : KeyState
  generation : Nat
  domainWrap : Option Wrapped
  deviceWrap : Option Wrapped
  lock : LockState
  slot : Option SlotIx
deriving DecidableEq, Repr

/-- RMG (chapter 1): the range table, the key cache, the envelope table and the map generation, and the
GRANT writes outstanding (R22). -/
structure Rmg where
  ranges : Table RangeEntry 16
  domainKey : Option Key
  rangeKeys : Table (Option Key) 16
  keks : Table (Option Key) 8
  envelopes : Table (Option Envelope) 48
  mapGen : Nat
  grants : List Wait
deriving DecidableEq, Repr

/-- A verdict (R39). -/
structure Verdict where
  id : Nat
  issued : Nat
  expiry : Nat
  segments : List Segment
deriving DecidableEq, Repr

/-- SRV (chapter 2). -/
structure Srv where
  verdicts : List Verdict
  lastId : Nat
deriving DecidableEq, Repr

/-- KLN (chapter 3), with the PURGE line and the words of the last frame begun on LDO, held from its start (log 61). -/
structure Kln where
  slots : Table Slot 8
  queue : List LaneFrame
  lane : Lane
  badRun : Nat
  hold : Bool
  purgePulse : Bool
  ldo : List (BitVec 16)
deriving DecidableEq, Repr

/-- One entry of the authority table (R71): its retained part, and membership of the signed-in set. -/
structure Authority where
  kept : AuthorityRec
  signedIn : Bool
deriving DecidableEq, Repr

/-- A PROVISION job (R74, R76): its credentials and start-up sets, the work factor as it stood at acceptance, and
whether the ADMIN derivation has completed. -/
structure ProvisionJob where
  admin : List Byte
  rescue : Option (List Byte)
  adminSet : List RangeIx
  rescueSet : List RangeIx
  factor : Nat
  adminDone : Bool
deriving DecidableEq, Repr

/-- A job of the derivation engine (R76). -/
inductive Job
  | authenticate (a : AuthIx) (credential : List Byte)
  | setCredential (u : AuthIx) (credential : List Byte) (salt factor : Nat) (grantSet startup : List RangeIx)
  | provision (p : ProvisionJob)
deriving DecidableEq, Repr

/-- The stages of PROVISION (R75). -/
inductive Stage
  | authorities | lifecycle | rangeKeys
deriving DecidableEq, Repr

/-- The derivation engine (R76): IDLE; CHARGING with the charge writes it waits on; DERIVING; FINISHING with the
domain key PROVISION created and the stage's writes it waits on. -/
inductive Engine
  | idle
  | charging (j : Job) (waits : List Wait)
  | deriving_ (j : Job)
  | finishing (stage : Stage) (domain : Key) (waits : List Wait)
deriving DecidableEq, Repr

/-- AUT (chapter 4). Backoff and window deadlines are entries of TMB's deadline list. -/
structure Aut where
  auth : Table Authority 8
  lifecycle : Lifecycle
  tryCount : Nat
  lastSignIn : Nat
  engine : Engine
  secret : Option (BitVec 256)
  token : Option TokenDigest
  paired : Bool
  nonce : Option Nat
deriving DecidableEq, Repr

/-- A line debouncer (R98). -/
structure Debouncer where
  settled : Settled
  run : Nat
  runOpen : Bool
deriving DecidableEq, Repr

/-- THM (chapter 5), with the triggers raised and not yet taken, and what R109 and R112 keep for the next opening of the
link. -/
structure Thm where
  level : Level
  grace : Option Nat
  raised : List TriggerKind
  captures : Table (Option Capture) 8
  bay : Debouncer
  caseSw : Debouncer
  armed : Bool
  lastCause : ThreatCause
  lastAuthority : Option AuthIx
  levelAtClose : Level
  changedClosed : Bool
  filledClosed : List TriggerKind
deriving DecidableEq, Repr

/-- The wipe step (R117). REWRITING holds the number, 0 to 24, of the phase-2 record being written (R124). -/
inductive WipeStep
  | idle
  | entry
  | erasing (b : Bank)
  | rewriting (n : Fin 25)
  | closing
deriving DecidableEq, Repr

/-- WPC (chapter 6), with what its notices report (R126). -/
structure Wpc where
  step : WipeStep
  phase : WipePhase
  next : Option Bank
  waits : List Wait
  resumed : Bool
  failed : List RecordId
  last : Option WipeLast
  completedClosed : Bool
deriving DecidableEq, Repr

/-- The purposes of the deadline list (R149). -/
inductive Purpose
  | backoff (a : AuthIx)
  | pairing
  | verdict (id : Nat)
  | laneAck
  | grace
  | absence
  | calibration
  | watch
  | stimulation
  | persistence
deriving DecidableEq, Repr

/-- One entry of the deadline list (R149). Its kind follows from its purpose. -/
structure Deadline where
  purpose : Purpose
  due : Nat
deriving DecidableEq, Repr

/-- The source of the ticks (R135). -/
inductive TickSource
  | crystal | rc
deriving DecidableEq, Repr

/-- The two calibration windows (R142). -/
inductive Window
  | periodic | confirmation
deriving DecidableEq, Repr

/-- An accepted confirmation calibration waiting for its tick boundary (R145). -/
structure Switch where
  measured : Nat
  boundary : Bool
deriving DecidableEq, Repr

/-- The last occurrence R148 lists. -/
structure ClockEvent where
  cause : ClockCause
  previous : Quality
  measured : Option Nat
deriving DecidableEq, Repr

/-- TMB (chapter 7). -/
structure Tmb where
  uptime : Nat
  psc : Option Nat
  quality : Quality
  source : TickSource
  divisorInUse : Nat
  cycles : Nat
  supervisor : Supervisor
  acceptedM : Option Nat
  measuredM : Option (Nat × Bool)
  divisor : Nat
  window : Option Window
  awaitEdge : Bool
  switchTo : Option Switch
  xoPulse : Bool
  deadlines : List Deadline
  fallen : List Deadline
  lastClock : ClockEvent
  clockClosed : Bool
deriving DecidableEq, Repr

/-- An entry of the dirty list (R156). -/
structure DirtyEntry where
  record : RecordId
  urgent : Bool
  mark : Nat
deriving DecidableEq, Repr

/-- The operation in flight (R154, R155): a write with the content it started with, or a bank erase; whether it is the
retry; and for a write whether it is one of WPC's. -/
inductive StoreOp
  | write (c : RecContent) (retry forWipe : Bool)
  | erase (b : Bank) (retry : Bool)
deriving DecidableEq, Repr

/-- A wipe operation waiting for the store (R157). -/
inductive WipeOp
  | write (r : RecordId)
  | erase (b : Bank)
deriving DecidableEq, Repr

/-- STO (chapter 8), with the volatile images of GUARD, POLICY and IDENTITY, and the records that have joined the faulty set
while the link was closed and still stand in it (R164). -/
structure Sto where
  records : Records
  dirty : List DirtyEntry
  inFlight : Option StoreOp
  waitingWipe : Option WipeOp
  faulty : List RecordId
  guard : GuardMode
  frozen : Bool
  policy : Policy
  identity : IdentityRec
  gained : List RecordId
deriving DecidableEq, Repr

/-- Where the start sequence stands (R167 to R169): a warm start waiting for the store; the integrity scan of a cold or
warm start; the wait for the PSC charge's write; or done. -/
inductive StartStage
  | waitStore
  | scanning (cold : Bool)
  | charging
  | done
deriving DecidableEq, Repr

/-- PWC (chapter 9), with a low of SEL being timed (R171). -/
structure Pwc where
  power : Power
  resetCause : ResetCause
  stage : StartStage
  waits : List Wait
  selTimed : Bool
deriving DecidableEq, Repr

/-- The input lines whose level outlasts the command that reports it (the list of lines in the scope chapter). -/
structure Pins where
  halt : Bool
  dpwr : Bool
  selLow : Bool
  bayOpen : Bool
  caseOpen : Bool
deriving DecidableEq, Repr

/-- The model's own counters: random values drawn (log 9), whether the map generation has been incremented in the present
occurrence (R7), and marks made (R156: the time of a first mark). -/
structure Model where
  draws : Nat
  bumped : Bool
  marks : Nat
deriving DecidableEq, Repr

/-- The state of the part, and the queue of commands that wait. -/
structure State where
  lnk : Lnk
  rmg : Rmg
  srv : Srv
  kln : Kln
  aut : Aut
  thm : Thm
  wpc : Wpc
  tmb : Tmb
  sto : Sto
  pwc : Pwc
  pins : Pins
  model : Model
  pending : List Instr
deriving DecidableEq, Repr

/-- Why a step stops with a fault. The part has no such condition: see the constructor. -/
inductive Fault
  /-- Raised by nobody: every condition of the manual is a reply, a notice, a lane FAULT or a faulty record, and the part
  goes on (log 40). Safe. -/
  | neverRaised
deriving DecidableEq, Repr

/-- Why a command is refused. -/
inductive Refusal
  /-- Raised by `exec` for a command that has no meaning yet; no arm does. Safe. -/
  | notModelled (mnemonic : String)
deriving DecidableEq, Repr

/-! ## Values as the part leaves the factory and after reset -/

/-- Every setting at its default (R163). -/
def Policy.default : Policy :=
  { verdictLifetime := 10, haltPolicy := .purge, failureLimit := 10, tryLimit := 0, workFactor := 64,
    pairWindow := 120, responseBay := .wary, responseCase := .alarm, responsePairing := .wary,
    responseAbsence := .wipe, responseClock := .record, responseHalt := .alarm, absenceLimit := 0,
    grace := 300, stimulation := true, attnMode := .any }

/-- The flags of an entry that nothing has set: `lock_on_standby` defaults to true (R2). -/
def flagsAtFactory : RangeFlags :=
  { lockEnabled := false, conceal := false, concealOnWary := false, lockOnStandby := true }

/-- An AUTHORITY record as the part leaves the factory (R71). -/
def AuthorityRec.factory : AuthorityRec :=
  { enabled := false, credential := none, failures := 0, limit := 10, startup := [] }

/-- A RANGE KEY record as the part leaves the factory, and as a blank one reads (R2, R155). -/
def RangeKeyRec.erased : RangeKeyRec :=
  { state := .erased, generation := 0, domainWrap := none, deviceWrap := none }

/-- COUNTERS as the part leaves the factory (R95, R117; PSC, last-sign-in PSC and G: log 2). -/
def CountersRec.factory : CountersRec :=
  { lifecycle := .unprovisioned, tryCount := 0, lastSignIn := 0, level := .calm, grace := none, psc := 0,
    phase := .none, next := none }

/-- The IDENTITY record of the model's part (log 2). -/
def IdentityRec.factory : IdentityRec := { serial := Config.serial, capacity := Config.capacity }

/-- The 101 records as the part leaves the factory (R2, R71, R89, R95, R111, R117, R160, R163). -/
def Records.factory : Records :=
  { identity := .sound .factory, guard := .sound .opened, policy := .sound .default,
    pairing := .sound { secret := none, token := none }, counters := .sound .factory,
    authority := .fill (.sound .factory), range := .fill (.sound { geometry := none, flags := flagsAtFactory }),
    rangeKey := .fill (.sound .erased), envelope := .fill (.sound none), capture := .fill (.sound none) }

/-- A range table entry before any record is read: undefined, ERASED, LOCKED, no slot. -/
def RangeEntry.bare : RangeEntry :=
  { geometry := none, flags := flagsAtFactory, keyState := .erased, generation := 0, domainWrap := none,
    deviceWrap := none, lock := .locked, slot := none }

/-- An EMPTY slot (R50, R69). -/
def Slot.bare : Slot := { state := .empty, occupant := none, next := none, pins := 0, lastUse := 0 }

/-- LNK after a start has discarded what it held (R181). -/
def Lnk.cleared : Lnk :=
  { waiting := none, outbound := [], reserved := 0, pendingSet := [], deferred := .fill none, readyOrder := [],
    overrun := false, period := none, sdo := [] }

/-- RMG with nothing read from the records (R26). -/
def Rmg.bare : Rmg :=
  { ranges := .fill .bare, domainKey := none, rangeKeys := .fill none, keks := .fill none,
    envelopes := .fill none, mapGen := 1, grants := [] }

/-- KLN as a start's purge leaves it, PURGE low (R69). -/
def Kln.bare : Kln :=
  { slots := .fill .bare, queue := [], lane := .idle, badRun := 0, hold := false, purgePulse := false,
    ldo := [] }

/-- AUT with nothing read from the records (R93). -/
def Aut.bare : Aut :=
  { auth := .fill { kept := .factory, signedIn := false }, lifecycle := .unprovisioned, tryCount := 0,
    lastSignIn := 0, engine := .idle, secret := none, token := none, paired := false, nonce := none }

/-- A debouncer at a start (R98). -/
def Debouncer.fresh : Debouncer := { settled := .unsettled, run := 0, runOpen := false }

/-- THM with nothing read from the records (R115). What it remembers of the kinds filled while the link was closed is gone at a cold start,
with no CAPTURE notice of them at its opening (log 53). -/
def Thm.bare : Thm :=
  { level := .calm, grace := none, raised := [], captures := .fill none, bay := .fresh, caseSw := .fresh,
    armed := false, lastCause := .start, lastAuthority := none, levelAtClose := .calm, changedClosed := false,
    filledClosed := [] }

/-- WPC at a start (R117). What it would report of a wipe is gone at a cold start, a completion while the link was closed included
(log 23). -/
def Wpc.bare : Wpc :=
  { step := .idle, phase := .none, next := none, waits := [], resumed := false, failed := [], last := none,
    completedClosed := false }

/-- TMB at a cold start (R152, R167). The last occurrence stands as START from UNCALIBRATED, which a wake before any of R148's
occurrences reports (log 24). -/
def Tmb.cold : Tmb :=
  { uptime := 0, psc := none, quality := .uncalibrated, source := .rc, divisorInUse := 544, cycles := 0,
    supervisor := .confirming 0, acceptedM := none, measuredM := none, divisor := 544, window := none,
    awaitEdge := false, switchTo := none, xoPulse := false, deadlines := [{ purpose := .watch, due := 8192 }],
    fallen := [], lastClock := { cause := .start, previous := .uncalibrated, measured := none },
    clockClosed := false }

/-- STO at step 1 of a cold start over the given records (R164). -/
def Sto.cold (records : Records) : Sto :=
  { records := records, dirty := [], inFlight := none, waitingWipe := none, faulty := [], guard := .opened,
    frozen := false, policy := .default, identity := .factory, gained := [] }

/-- PWC at step 1 of a cold start (R166, R167). -/
def Pwc.cold : Pwc :=
  { power := .starting, resetCause := .cold, stage := .scanning true, waits := [], selTimed := false }

/-- Step 1 of a cold start (R167): every volatile state of every block at its value, over the records, the
lines, the model's counters and the queue given (log 8). -/
def State.cold (records : Records) (pins : Pins) (model : Model) (pending : List Instr) : State :=
  { lnk := .cleared, rmg := .bare, srv := { verdicts := [], lastId := 0 }, kln := .bare, aut := .bare, thm := .bare,
    wpc := .bare, tmb := .cold, sto := .cold records, pwc := .cold, pins := pins, model := model,
    pending := pending }

/-- The lines at reset: the drive controller powered, running and selecting nothing, the drive in its bay, the case closed.
DESIGN CHOICE (log 3). -/
def Pins.quiet : Pins :=
  { halt := false, dpwr := true, selLow := false, bayOpen := false, caseOpen := false }

/-- The part right after step 1 of the cold start of a part as it leaves the factory (log 1). -/
def State.reset : State :=
  .cold .factory .quiet { draws := 0, bumped := false, marks := 0 } []

/-! ## Updates, block by block -/

def State.onLnk (s : State) (f : Lnk → Lnk) : State := { s with lnk := f s.lnk }
def State.onRmg (s : State) (f : Rmg → Rmg) : State := { s with rmg := f s.rmg }
def State.onSrv (s : State) (f : Srv → Srv) : State := { s with srv := f s.srv }
def State.onKln (s : State) (f : Kln → Kln) : State := { s with kln := f s.kln }
def State.onAut (s : State) (f : Aut → Aut) : State := { s with aut := f s.aut }
def State.onThm (s : State) (f : Thm → Thm) : State := { s with thm := f s.thm }
def State.onWpc (s : State) (f : Wpc → Wpc) : State := { s with wpc := f s.wpc }
def State.onTmb (s : State) (f : Tmb → Tmb) : State := { s with tmb := f s.tmb }
def State.onSto (s : State) (f : Sto → Sto) : State := { s with sto := f s.sto }
def State.onPwc (s : State) (f : Pwc → Pwc) : State := { s with pwc := f s.pwc }
def State.onPins (s : State) (f : Pins → Pins) : State := { s with pins := f s.pins }
def State.onModel (s : State) (f : Model → Model) : State := { s with model := f s.model }
def State.setPending (s : State) (q : List Instr) : State := { s with pending := q }

end Sys2Proof.Machine
end

