-- ==== Sys2Proof/Machine/Flags.lean ====
section
/-! DEFINITION. The conditions the blocks compute from their state: the link, concealment, the visible capacity, ranks, delays,
the divisor, ATTN. -/

namespace Sys2Proof

/-- The first block above a defined range. -/
def Geometry.after (g : Geometry) : Nat := g.start + g.length

/-- Two geometries share a block (R10). -/
def Geometry.overlaps (g h : Geometry) : Bool := g.start < h.after && h.start < g.after

/-- A geometry lies wholly below C and holds at least one block (R2, R10). -/
def Geometry.below (g : Geometry) (c : Nat) : Bool := 1 ≤ g.length && g.after ≤ c

end Sys2Proof

namespace Sys2Proof.Machine

/-- The link is open in ACTIVE and in no other power state (R165). -/
def State.linkOpen (s : State) : Bool := s.pwc.power == .active

/-- The supply is above its threshold (R165). -/
def State.powered (s : State) : Bool := s.pwc.power != .unpowered

/-- THM has restored the level: the start sequence is past step 5, or a warm start still waits for the store, before its
step 1 (R97, R168). -/
def State.thmWorks (s : State) : Bool :=
  s.powered && (s.pwc.stage == .done || s.pwc.stage == .waitStore)

/-- STO may start an operation: not while a warm start waits for it, nor during the scan (R164, R169). -/
def State.stoMayStart (s : State) : Bool :=
  s.powered && (s.pwc.stage == .done || s.pwc.stage == .charging)

/-- The PSC as it stands, 0 where it holds no value yet (R137). -/
def State.pscNow (s : State) : Nat := s.tmb.psc.getD 0

/-- Ranks of the threat levels (R95). -/
def Level.rank : Level → Nat
  | .calm => 0 | .wary => 1 | .alarm => 2 | .wiping => 3

/-- Ranks of the responses (R96). -/
def Response.rank : Response → Nat
  | .record => 0 | .wary => 1 | .alarm => 2 | .wipe => 3

/-- The response of a trigger kind by the policy; BUDGET and REMOTE are fixed at WIPE (R96). -/
def Policy.response (p : Policy) : TriggerKind → Response
  | .bay => p.responseBay
  | .caseSw => p.responseCase
  | .pairing => p.responsePairing
  | .absence => p.responseAbsence
  | .clock => p.responseClock
  | .halt => p.responseHalt
  | .budget => .wipe
  | .remote => .wipe

/-- The effective response: RECORD in lifecycles UNPROVISIONED and WIPED (R96). -/
def State.response (s : State) (k : TriggerKind) : Response :=
  if s.aut.lifecycle = .provisioned then s.sto.policy.response k else .record

/-- Levels under which ranges with `lock_enabled` false open from their device wraps (R16, R95). -/
def Level.opensPlain : Level → Bool
  | .calm => true | .wary => true | .alarm => false | .wiping => false

/-! ## Authorities -/

/-- A USER: entries 1 to 6 (R71). -/
def isUser (a : AuthIx) : Bool := a ≠ 0 && a ≠ 7

/-- An admin authority: ADMIN or RESCUE. -/
def isAdmin (a : AuthIx) : Bool := a = 0 || a = 7

/-- The authority a field's number names, if it lies in 0 to 7. -/
def authorityAt (n : Nat) : Option AuthIx := if h : n < 8 then some ⟨n, h⟩ else none

/-- The authority a field's number names is signed in. -/
def State.signedIn (s : State) (n : Nat) : Bool :=
  match authorityAt n with
  | some a => (s.aut.auth.get a).signedIn
  | none => false

/-- The number names ADMIN or RESCUE. -/
def namesAdmin (n : Nat) : Bool := n = 0 || n = 7

/-- The number names ADMIN or RESCUE, and that authority is signed in. -/
def State.adminActs (s : State) (n : Nat) : Bool := namesAdmin n && s.signedIn n

/-- delay(f) in seconds (R82). -/
def delay (f : Nat) : Nat := if f < 3 then 0 else min (2 ^ (f - 3)) 3600

/-! ## Ranges -/

/-- The range is defined; index 0 always is (R1). -/
def State.defined (s : State) (r : RangeIx) : Bool :=
  r = 0 || (s.rmg.ranges.get r).geometry.isSome

/-- The range is read-locked: LOCKING or LOCKED (R3). -/
def LockState.readLocked : LockState → Bool
  | .opened => false | .readOnly => false | .locking => true | .locked => true

/-- The range is concealed (R24). -/
def State.concealed (s : State) (r : RangeIx) : Bool :=
  let e := s.rmg.ranges.get r
  r ≠ 0 && e.geometry.isSome && e.lock.readLocked &&
    (e.flags.conceal || (s.thm.level == .wary && e.flags.concealOnWary))

/-- The concealed defined range whose end is `p - 1`, if any (R25). -/
def State.concealedEndingAt (s : State) (p : Nat) : Option Geometry :=
  ((List.finRange 16).filterMap fun r =>
    if s.concealed r then (s.rmg.ranges.get r).geometry else none).find? fun g => g.after = p

/-- R25, step 3: the run of concealed ranges extended downward from `p`, at most `fuel` ranges. -/
def State.runDown (s : State) : Nat → Nat → Nat
  | 0, p => p
  | fuel + 1, p =>
    match s.concealedEndingAt p with
    | some g => s.runDown fuel g.start
    | none => p

/-- The visible capacity V (R25). A run has at most the 15 defined ranges. -/
def State.visibleCapacity (s : State) : Nat := s.runDown 15 s.sto.identity.capacity

/-- A geometry overlaps no defined range other than `except` (R10, R12). -/
def State.clearOf (s : State) (g : Geometry) (except : Option RangeIx) : Bool :=
  (List.finRange 16).all fun r =>
    decide (r = 0) || decide (some r = except) ||
      ((s.rmg.ranges.get r).geometry.all fun h => !(g.overlaps h))

/-! ## Link, time, store -/

/-- SEL is high again. -/
def State.selRises (s : State) : State := s.onPins fun p => { p with selLow := false }

/-- SEL rises: the select period is over, and PWC's timing of the low with it; `sdo` is what SDO carried (R171, R174). -/
def State.periodEnds (sdo : List Byte) (s : State) : State :=
  (s.onLnk fun l => { l with period := none, sdo := sdo }).onPwc fun p => { p with selTimed := false }

/-- A frame is a notice. -/
def OutFrame.isNotice : OutFrame → Bool
  | .notice _ => true
  | .reply _ _ _ => false

/-- ATTN (R181). -/
def State.attn (s : State) : Bool :=
  s.linkOpen &&
    match s.sto.policy.attnMode with
    | .any => !s.lnk.outbound.isEmpty
    | .notice => s.lnk.outbound.any OutFrame.isNotice

/-- D for an accepted count M (R143). -/
def divisorOf (m : Nat) : Nat := (17 * m + 511) / 512

/-- The acceptance band of a calibration count (R143). -/
def inBand (m : Nat) : Bool := 4096 ≤ m && m ≤ 16384

/-- The guard check of R160, with the GUARD line at this level. -/
def State.guardPasses (s : State) (strap : Bool) : Bool :=
  !s.sto.frozen &&
    match s.sto.guard with
    | .opened => true
    | .strap => strap
    | .fixed => false

end Sys2Proof.Machine
end

