-- ==== Sys2Proof/Machine/Ops.lean ====
section
/-! DEFINITION. The shared operations nearest the state: records and their contents, deadlines, notices and the outbound queue, deferred
replies, marks and the start of store operations, the map generation, random draws. -/

namespace Sys2Proof.Machine

/-! ## Records (R153 to R155) -/

/-- The record a content is written into. -/
def RecContent.id : RecContent → RecordId
  | .identity _ => .identity
  | .guard _ => .guard
  | .policy _ => .policy
  | .pairing _ => .pairing
  | .counters _ => .counters
  | .authority a _ => .authority a
  | .range r _ => .range r
  | .rangeKey r _ => .rangeKey r
  | .envelope p _ => .envelope p
  | .capture i _ => .capture i

/-- The records with one written whole (R154). -/
def Records.write (rs : Records) : RecContent → Records
  | .identity c => { rs with identity := .sound c }
  | .guard c => { rs with guard := .sound c }
  | .policy c => { rs with policy := .sound c }
  | .pairing c => { rs with pairing := .sound c }
  | .counters c => { rs with counters := .sound c }
  | .authority a c => { rs with authority := rs.authority.set a (.sound c) }
  | .range r c => { rs with range := rs.range.set r (.sound c) }
  | .rangeKey r c => { rs with rangeKey := rs.rangeKey.set r (.sound c) }
  | .envelope p c => { rs with envelope := rs.envelope.set p (.sound c) }
  | .capture i c => { rs with capture := rs.capture.set i (.sound c) }

/-- The records with one left invalid, its check value not matching (R154). -/
def Records.spoil (rs : Records) : RecordId → Records
  | .identity => { rs with identity := .invalid }
  | .guard => { rs with guard := .invalid }
  | .policy => { rs with policy := .invalid }
  | .pairing => { rs with pairing := .invalid }
  | .counters => { rs with counters := .invalid }
  | .authority a => { rs with authority := rs.authority.set a .invalid }
  | .range r => { rs with range := rs.range.set r .invalid }
  | .rangeKey r => { rs with rangeKey := rs.rangeKey.set r .invalid }
  | .envelope p => { rs with envelope := rs.envelope.set p .invalid }
  | .capture i => { rs with capture := rs.capture.set i .invalid }

/-- The bank of an envelope position (R6). -/
def envelopeBank (p : EnvIx) : Bank :=
  if p.val < 16 then .k1 else if p.val < 32 then .k2 else .k3

/-- The records of a key bank, in index order (R122, R153). -/
def Bank.records : Bank → List RecordId
  | .k0 => (List.finRange 16).map .rangeKey
  | .k1 => ((List.finRange 48).filter fun p => envelopeBank p = .k1).map .envelope
  | .k2 => ((List.finRange 48).filter fun p => envelopeBank p = .k2).map .envelope
  | .k3 => ((List.finRange 48).filter fun p => envelopeBank p = .k3).map .envelope

/-- The records with those of a bank blank after an erase, or invalid after one that was cut off (R155) or failed its verify twice
(log 52). -/
def Records.eraseBank (rs : Records) (b : Bank) (complete : Bool) : Records :=
  match b with
  | .k0 => { rs with rangeKey := .fill (if complete then .blank else .invalid) }
  | .k1 | .k2 | .k3 =>
    { rs with
      envelope := rs.envelope.imap fun p e =>
        if envelopeBank p = b then (if complete then .blank else .invalid) else e }

/-- What COUNTERS is written with. In step CLOSING it is the final write's content (R125); otherwise each field as
it stands (R138, R153; log 35). -/
def State.countersImage (s : State) : CountersRec :=
  if s.wpc.step = .closing then
    { lifecycle := .wiped, tryCount := 0, lastSignIn := s.aut.lastSignIn, level := .calm, grace := none,
      psc := s.pscNow, phase := .none, next := none }
  else
    { lifecycle := s.aut.lifecycle, tryCount := s.aut.tryCount, lastSignIn := s.aut.lastSignIn,
      level := s.thm.level, grace := s.thm.grace, psc := s.pscNow, phase := s.wpc.phase, next := s.wpc.next }

/-- The content a record's owner holds for it (R153). -/
def State.content (s : State) : RecordId → RecContent
  | .identity => .identity s.sto.identity
  | .guard => .guard s.sto.guard
  | .policy => .policy s.sto.policy
  | .pairing => .pairing { secret := s.aut.secret, token := s.aut.token }
  | .counters => .counters s.countersImage
  | .authority a => .authority a (s.aut.auth.get a).kept
  | .range r => .range r { geometry := (s.rmg.ranges.get r).geometry, flags := (s.rmg.ranges.get r).flags }
  | .rangeKey r =>
    .rangeKey r
      { state := (s.rmg.ranges.get r).keyState, generation := (s.rmg.ranges.get r).generation,
        domainWrap := (s.rmg.ranges.get r).domainWrap, deviceWrap := (s.rmg.ranges.get r).deviceWrap }
  | .envelope p => .envelope p (s.rmg.envelopes.get p)
  | .capture i => .capture i (s.thm.captures.get i)

/-! ## Deadlines (R149, R150) -/

/-- The purposes of kind SECOND; the others are of kind TICK (R149). -/
def Purpose.inSeconds : Purpose → Bool
  | .grace | .absence | .persistence => true
  | .backoff _ | .pairing | .verdict _ | .laneAck | .calibration | .watch | .stimulation => false

/-- TICK entries stand before SECOND entries, each kind in ascending order of its due value (R149). -/
def Deadline.before (d e : Deadline) : Bool :=
  match d.purpose.inSeconds, e.purpose.inSeconds with
  | false, true => true
  | true, false => false
  | _, _ => d.due < e.due

/-- A deadline put in its place. -/
def insertDeadline (d : Deadline) : List Deadline → List Deadline
  | [] => [d]
  | e :: l => if d.before e then d :: e :: l else e :: insertDeadline d l

/-- Withdraws every purpose that satisfies `p` from the list; of an entry that has already fallen due a withdrawal finds nothing
(R150). -/
def State.withdrawAll (p : Purpose → Bool) (s : State) : State :=
  s.onTmb fun t => { t with deadlines := t.deadlines.filter fun d => !(p d.purpose) }

/-- Withdraws every purpose that satisfies `p` where the rule says that no expiry of it follows: with the entry goes an
occurrence of it that its owner has not yet taken (R44, R47, R59, R64, R92, R97, R106; log 16). -/
def State.cancelAll (p : Purpose → Bool) (s : State) : State :=
  (s.withdrawAll p).onTmb fun t => { t with fallen := t.fallen.filter fun d => !(p d.purpose) }

/-- Withdraws one purpose (R149). -/
def State.withdraw (p : Purpose) (s : State) : State := s.withdrawAll (fun q => q == p)

/-- Withdraws one purpose of which no expiry follows. -/
def State.cancel (p : Purpose) (s : State) : State := s.cancelAll (fun q => q == p)

/-- Enters a purpose with a due value, replacing an entry already present (R149). -/
def State.enter (p : Purpose) (due : Nat) (s : State) : State :=
  (s.withdraw p).onTmb fun t => { t with deadlines := insertDeadline { purpose := p, due := due } t.deadlines }

/-- The due value of a purpose in the list. -/
def State.deadline (s : State) (p : Purpose) : Option Nat :=
  (s.tmb.deadlines.find? fun d => d.purpose == p).map Deadline.due

/-- The owner takes the occurrence of a deadline that has fallen due; with it, the boundary's uptime at which it fell
due (R150). None where it has not fallen due. -/
def State.takeFallen (p : Purpose) (s : State) : Option (State × Nat) :=
  match s.tmb.fallen.find? fun d => d.purpose == p with
  | some d => some (s.onTmb fun t => { t with fallen := t.fallen.filter fun d => !(d.purpose == p) }, d.due)
  | none => none

/-! ## Notices and the outbound queue (R178, R179) -/

/-- The order of the notices of R178, and their identity of kind. -/
def Notice.rank : Notice → Nat
  | .threat _ _ _ _ _ _ => 0
  | .void _ _ => 1
  | .wipe _ _ _ _ _ => 2
  | .clock _ _ _ _ _ _ _ _ => 3
  | .capture _ _ => 4
  | .store _ _ => 5

/-- A queued frame is a notice of the same kind as `n`. -/
def OutFrame.ofKind (n : Notice) : OutFrame → Bool
  | .notice m => m.rank = n.rank
  | .reply _ _ _ => false

/-- Entries of the outbound queue that are neither filled nor reserved (R178). -/
def Lnk.free (l : Lnk) : Nat := 8 - (l.outbound.length + l.reserved)

/-- Entries of the outbound queue that hold notices (R178). -/
def Lnk.notices (l : Lnk) : Nat := (l.outbound.filter OutFrame.isNotice).length

/-- The pending set in the order of R178. -/
def insertNotice (n : Notice) : List Notice → List Notice
  | [] => [n]
  | m :: l => if n.rank < m.rank then n :: m :: l else m :: insertNotice n l

/-- A notice raised while the link is open (R179). It is queued at once where an entry is free and no notice is pending; behind a
pending one it joins the pending set, whose notices take the free entries in their order (R178). It takes also an entry that its own
occurrence has released, ahead of a READY deferred reply, to which the occurrence's end grants entries (log 58). A notice whose replaced
content stands at the head while a period is open stays there after the period (R178). -/
def Lnk.raise (n : Notice) (l : Lnk) : Lnk :=
  if l.outbound.any (OutFrame.ofKind n) then
    { l with
      outbound := l.outbound.map fun f => if f.ofKind n then .notice n else f
      period := l.period.map fun p =>
        { p with replaced := p.replaced || l.outbound.head?.any (OutFrame.ofKind n) } }
  else if l.pendingSet.any (fun m => m.rank = n.rank) then
    { l with pendingSet := l.pendingSet.map fun m => if m.rank = n.rank then n else m }
  else if l.pendingSet.isEmpty && 0 < l.free && l.notices < 6 then
    { l with outbound := l.outbound ++ [.notice n] }
  else
    { l with pendingSet := insertNotice n l.pendingSet }

/-- A notice goes to LNK only while the link is open (R179). -/
def State.notify (n : Notice) (s : State) : State :=
  if s.linkOpen then s.onLnk (Lnk.raise n) else s

/-- A deferred entry is READY. -/
def isReady : Option Deferred → Bool
  | some d => match d.state with
    | .ready _ => true
    | .working _ => false
  | none => false

/-- Entries newly READY join the order of readiness; those made ready in one occurrence go in ascending order of their
position (R178). -/
def Lnk.collectReady (l : Lnk) : Lnk :=
  { l with
    readyOrder := l.readyOrder ++ (l.deferred.positions isReady).filter fun i => !(l.readyOrder.contains i) }

/-- The outbound entries a waiting frame's reply needs: two for LIST_RANGES (R178). -/
def Waiting.needs : Waiting → Nat
  | .frame kind _ _ => entriesNeeded kind
  | .request c => ((requestOf c).map fun r => entriesNeeded r.1).getD 1
  | .failed _ _ => 1

/-- R178's second and third claimants: a READY deferred reply, then the waiting frame. -/
def Lnk.grantReply (l : Lnk) : Option Lnk :=
  match l.readyOrder with
  | i :: rest =>
    match l.deferred.get i with
    | some { kind := kind, tag := tag, owner := _, range := _, state := .ready r } =>
      some { l with
        outbound := l.outbound ++ [.reply (kind + 0x80) tag r]
        deferred := l.deferred.set i none
        readyOrder := rest }
    | _ => some { l with readyOrder := rest }
  | [] =>
    match l.waiting with
    | some w => if l.reserved = 0 && w.needs ≤ l.free then some { l with reserved := w.needs } else none
    | none => none

/-- One grant of a free entry, in the order of R178; none when there is no entry or no claimant. -/
def Lnk.grantOne (l : Lnk) : Option Lnk :=
  if l.free = 0 then none
  else
    match l.pendingSet with
    | n :: rest =>
      if l.notices < 6 then some { l with outbound := l.outbound ++ [.notice n], pendingSet := rest }
      else l.grantReply
    | [] => l.grantReply

/-- Grants while there are any, at most `fuel` of them. -/
def Lnk.grantAll : Nat → Lnk → Lnk
  | 0, l => l
  | fuel + 1, l =>
    match l.grantOne with
    | some l' => l'.grantAll fuel
    | none => l

/-- A request's reply takes the entry reserved for it (R177); an entry reserved beyond it is released. It is queued as it is filled, behind
any notice queued since the entry's grant (log 13). -/
def State.answer (kind tag : Byte) (r : Reply) (s : State) : State :=
  s.onLnk fun l => { l with outbound := l.outbound ++ [.reply (kind + 0x80) tag r], reserved := 0 }

/-- A reply that carries a result code alone. -/
def Reply.plain (c : ResultCode) : Reply := { result := c, body := .empty }

/-- The reserved entry is released without a reply (R177). -/
def State.noAnswer (s : State) : State := s.onLnk fun l => { l with reserved := 0 }

/-- The lowest free entry of the deferred-reply table (R180). -/
def State.freeDeferred (s : State) : Option DeferIx := s.lnk.deferred.lowest Option.isNone

/-- A request takes a deferred-reply entry in state WORKING, and its reserved outbound entry is released (R177, R180). -/
def State.defer (i : DeferIx) (kind tag : Byte) (owner : Block) (range : Option RangeIx) (w : Work)
    (s : State) : State :=
  s.onLnk fun l =>
    { l with
      deferred := l.deferred.set i
        (some { kind := kind, tag := tag, owner := owner, range := range, state := .working w })
      reserved := 0 }

/-- Rewrites the work of every WORKING entry; an entry whose work is done becomes READY with its reply (R180). -/
def Lnk.onWork (f : Work → DeferState) (l : Lnk) : Lnk :=
  { l with
    deferred := l.deferred.imap fun _ e => e.map fun d =>
      match d.state with
      | .working w => { d with state := f w }
      | .ready _ => d }

/-- The entry of the derivation engine's job becomes READY with its reply; nothing where the entry is gone (R180). -/
def State.answerJob (r : Reply) (s : State) : State :=
  s.onLnk (Lnk.onWork fun w => match w with
    | .engine => .ready r
    | w => .working w)

/-! ## Waits (R156) -/

/-- A write of `r` starts: the waits for it are served by that write. -/
def startWait (r : RecordId) (ws : List Wait) : List Wait :=
  ws.map fun w => if w.record = r then { w with started := true } else w

/-- The waits that remain when a write of `r` completes. -/
def servedWait (r : RecordId) (ws : List Wait) : List Wait :=
  ws.filter fun w => !(w.record == r && w.started)

/-- A wait is served by the write of `r` that completes. -/
def waitsOn (r : RecordId) (ws : List Wait) : Bool :=
  ws.any fun w => w.record == r && w.started

/-- Waits for the writes of records not yet marked. -/
def waitsFor (rs : List RecordId) : List Wait := rs.map fun r => { record := r, started := false }

/-- Tells every waiting request and block that a write of `r` starts. -/
def State.startWaits (r : RecordId) (s : State) : State :=
  (((((s.onLnk (Lnk.onWork fun w => match w with
    | .writes ws lock done fault => .working (.writes (startWait r ws) lock done fault)
    | w => .working w)).onRmg fun m => { m with grants := startWait r m.grants }).onAut fun a =>
    { a with
      engine := match a.engine with
        | .charging j ws => .charging j (startWait r ws)
        | .finishing st k ws => .finishing st k (startWait r ws)
        | e => e }).onWpc fun w => { w with waits := startWait r w.waits }).onPwc fun p =>
    { p with waits := startWait r p.waits })

/-! ## The dirty list and the operation in flight (R156, R157) -/

/-- URGENT entries stand before ROUTINE ones, each class in the order of first marks (R156). -/
def DirtyEntry.before (d e : DirtyEntry) : Bool :=
  match d.urgent, e.urgent with
  | true, false => true
  | false, true => false
  | _, _ => d.mark < e.mark

/-- A dirty-list entry put in its place. -/
def insertDirty (d : DirtyEntry) : List DirtyEntry → List DirtyEntry
  | [] => [d]
  | e :: l => if d.before e then d :: e :: l else e :: insertDirty d l

/-- The dirty list without a record. -/
def dropDirty (r : RecordId) (l : List DirtyEntry) : List DirtyEntry := l.filter fun e => !(e.record == r)

/-- The dirty list after a mark of `r` at time `now` (R156): a record not on it joins; an URGENT mark promotes a ROUTINE
entry, which keeps the time of its first mark. -/
def markDirty (r : RecordId) (urgent : Bool) (now : Nat) (l : List DirtyEntry) : List DirtyEntry :=
  match l.find? fun e => e.record == r with
  | some e =>
    if urgent && !e.urgent then insertDirty { e with urgent := true } (dropDirty r l) else l
  | none => insertDirty { record := r, urgent := urgent, mark := now } l

/-- With no operation in flight STO starts the waiting wipe operation, else the head of the dirty list; a write carries the
content that stands when it starts (R153, R157). -/
def State.beginOp (s : State) : State :=
  if s.stoMayStart && s.sto.inFlight.isNone then
    match s.sto.waitingWipe with
    | some (.erase b) =>
      s.onSto fun t => { t with inFlight := some (.erase b false), waitingWipe := none }
    | some (.write r) =>
      (s.onSto fun t =>
        { t with
          inFlight := some (.write (s.content r) false true), waitingWipe := none
          dirty := dropDirty r t.dirty }).startWaits r
    | none =>
      match s.sto.dirty with
      | [] => s
      | e :: rest =>
        (s.onSto fun t =>
          { t with inFlight := some (.write (s.content e.record) false false), dirty := rest }).startWaits e.record
  else s

/-- A mark of class URGENT or ROUTINE; if STO is idle the write starts at once (R156, R157). -/
def State.markAs (urgent : Bool) (r : RecordId) (s : State) : State :=
  ((s.onSto fun t => { t with dirty := markDirty r urgent s.model.marks t.dirty }).onModel fun m =>
    { m with marks := m.marks + 1 }).beginOp

/-- The class in which a record's owner marks it: COUNTERS and AUTHORITY are URGENT (R156). -/
def RecordId.urgent : RecordId → Bool
  | .counters | .authority _ => true
  | .identity | .guard | .policy | .pairing | .range _ | .rangeKey _ | .envelope _ | .capture _ => false

/-- A mark by the record's owner (R156). -/
def State.mark (r : RecordId) (s : State) : State := s.markAs r.urgent r

/-- Marks made in one occurrence, in the order their rule lists them (R156). -/
def State.markAll (rs : List RecordId) (s : State) : State := rs.foldl (fun s r => s.mark r) s

/-- WPC asks the store for an operation; an idle store starts it at once (R157). -/
def State.askStore (op : WipeOp) (s : State) : State :=
  (s.onSto fun t => { t with waitingWipe := some op }).beginOp

/-- A record enters the faulty set (R158). While the link is closed STO remembers the records added, the last of them last
(R164). -/
def State.addFaulty (r : RecordId) (s : State) : State :=
  if s.sto.faulty.contains r then s
  else
    s.onSto fun t =>
      { t with faulty := t.faulty ++ [r], gained := if s.linkOpen then t.gained else t.gained ++ [r] }

/-! ## Map generation and random draws -/

/-- The count after an increment: after 4,294,967,295 it continues at 1 (R7). -/
def nextMapGen (g : Nat) : Nat := if 4294967295 ≤ g then 1 else g + 1

/-- Increments the map generation, once in the occurrence (R7). -/
def State.bump (s : State) : State :=
  if s.model.bumped then s
  else (s.onRmg fun m => { m with mapGen := nextMapGen m.mapGen }).onModel fun m => { m with bumped := true }

/-- A new occurrence begins within the same command: the next increment counts again (R7). -/
def State.newOccurrence (s : State) : State := s.onModel fun m => { m with bumped := false }

/-- One more random value has been drawn; its number is `s.model.draws` (log 9). -/
def State.draw (s : State) : State := s.onModel fun m => { m with draws := m.draws + 1 }

/-- A trigger is raised; THM takes it in an occurrence of its own (R97, R100). -/
def State.raiseTrigger (k : TriggerKind) (s : State) : State :=
  s.onThm fun t => { t with raised := t.raised ++ [k] }

end Sys2Proof.Machine
end

