-- ==== Sys2Proof/Machine/Locks.lean ====
section
/-! DEFINITION. The shared operations over ranges, keys, slots, the lane and verdicts: opening without sign-in, allocation, clears, lock
completion, the purge, forced locks, the removal of a verdict, and the end of an occurrence. -/

namespace Sys2Proof.Machine

/-! ## Entries of the tables -/

def State.onRange (r : RangeIx) (f : RangeEntry → RangeEntry) (s : State) : State :=
  s.onRmg fun m => { m with ranges := m.ranges.set r (f (m.ranges.get r)) }

def State.onSlot (i : SlotIx) (f : Slot → Slot) (s : State) : State :=
  s.onKln fun k => { k with slots := k.slots.set i (f (k.slots.get i)) }

/-- A range key enters or leaves the key cache (R5). -/
def State.cacheKey (r : RangeIx) (k : Option Key) (s : State) : State :=
  s.onRmg fun m => { m with rangeKeys := m.rangeKeys.set r k }

/-- What a wrapped key yields under a key: nothing under the wrong key or where it is damaged (R4). -/
def unwrap (w : Option Wrapped) (under : Option Key) : Option Key :=
  match w, under with
  | some w, some k => if w.intact && w.under = k then some w.holds else none
  | _, _ => none

/-- A key wrapped under another (R4). -/
def wrapped (under holds : Key) : Wrapped := { under := under, holds := holds, intact := true }

/-- The range of slot `i` is the one its slot field names: the slot field of `r` is removed where it names `i`. -/
def State.removeSlotField (r : RangeIx) (i : SlotIx) (s : State) : State :=
  s.onRange r fun e => if e.slot = some i then { e with slot := none } else e

/-! ## Allocation (R52, R53, R55) -/

/-- The occupant a range's key makes of a slot (R50). -/
def State.occupantOf (s : State) (r : RangeIx) : Occupant :=
  { range := r, generation := (s.rmg.ranges.get r).generation }

/-- Step 1 of R52: an EMPTY slot takes the range's key, and a LOAD joins the queue. -/
def State.assignSlot (i : SlotIx) (r : RangeIx) (s : State) : State :=
  let o := s.occupantOf r
  ((s.onSlot i fun _ =>
      { state := .loading, occupant := some o, next := none, pins := 0, lastUse := s.tmb.uptime }).onKln fun k =>
      { k with queue := k.queue ++ [{ op := .load, slot := i, key := some o }] }).onRange r fun e =>
    { e with slot := some i }

/-- The lowest-numbered EMPTY slot (R52). -/
def State.emptySlot (s : State) : Option SlotIx := s.kln.slots.lowest fun l => l.state == .empty

/-- Eviction candidates: LOADED slots with pin count 0 (R52). -/
def Slot.evictable (l : Slot) : Bool := l.state == .loaded && l.pins == 0

/-- The candidate with the oldest last use, ties going to the lowest slot number (R52). -/
def State.oldestCandidate (s : State) : Option SlotIx :=
  (s.kln.slots.positions Slot.evictable).foldl (fun best i =>
    match best with
    | none => some i
    | some b => if (s.kln.slots.get i).lastUse < (s.kln.slots.get b).lastUse then some i else some b) none

/-- Eviction of slot `i` for range `r` (R53). -/
def State.evict (i : SlotIx) (r : RangeIx) (s : State) : State :=
  let o := s.occupantOf r
  let gone := match (s.kln.slots.get i).occupant with
    | some old => s.removeSlotField old.range i
    | none => s
  ((gone.onSlot i fun l => { l with state := .clearing, next := some o, lastUse := s.tmb.uptime }).onKln fun k =>
      { k with
        queue := k.queue ++ [{ op := .clear, slot := i, key := none },
          { op := .load, slot := i, key := some o }] }).onRange r fun e =>
    { e with slot := some i }

/-- An allocation for a range with no slot; none where it is refused (R52). -/
def State.allocate (r : RangeIx) (s : State) : Option State :=
  match s.emptySlot with
  | some i => some (s.assignSlot i r)
  | none =>
    match s.oldestCandidate with
    | some i => some (s.evict i r)
    | none => none

/-- An eager load: step 1 of R52 alone, for a range with no slot; otherwise the request lapses (R55). -/
def State.eagerLoad (r : RangeIx) (s : State) : State :=
  if (s.rmg.ranges.get r).slot.isSome then s
  else
    match s.emptySlot with
    | some i => s.assignSlot i r
    | none => s

/-- The eager loads of one occurrence, in ascending order of range index (R55). -/
def State.eagerLoads (opened : List RangeIx) (s : State) : State :=
  (List.finRange 16).foldl (fun s r => if opened.contains r then s.eagerLoad r else s) s

/-! ## Opening (R15, R16, R81) -/

/-- A range opens with a key: the key enters the cache and the lock state becomes the one given. -/
def State.openWith (r : RangeIx) (k : Key) (lock : LockState) (s : State) : State :=
  (s.cacheKey r (some k)).onRange r fun e => { e with lock := lock }

/-- A range that R16 lets open: `lock_enabled` false, KEYED, with a device wrap, the level CALM or WARY, and a lock state
that opens. -/
def State.opensPlain (s : State) (from_ : LockState → Bool) (r : RangeIx) : Bool :=
  let e := s.rmg.ranges.get r
  s.defined r && !e.flags.lockEnabled && e.keyState == .keyed && e.deviceWrap.isSome && s.thm.level.opensPlain &&
    from_ e.lock

/-- R16 for one range: opens it from its device wrap, or reports its RANGE KEY record among the faulty ones. With it,
the ranges opened so far. -/
def openPlainStep (from_ : LockState → Bool) (acc : State × List RangeIx) (r : RangeIx) : State × List RangeIx :=
  if acc.1.opensPlain from_ r then
    match unwrap (acc.1.rmg.ranges.get r).deviceWrap (some .device) with
    | some k => (acc.1.openWith r k .opened, acc.2 ++ [r])
    | none => (acc.1.addFaulty (.rangeKey r), acc.2)
  else acc

/-- A lock state that every opening of R16 takes: LOCKED. -/
def LockState.isLocked (l : LockState) : Bool := l == .locked

/-- R16 for ranges in ascending order of index, their eager loads, and one increment of the map generation if any opened. -/
def State.openPlain (from_ : LockState → Bool) (rs : List RangeIx) (s : State) : State :=
  let acc := rs.foldl (openPlainStep from_) (s, [])
  if acc.2.isEmpty then acc.1 else (acc.1.eagerLoads acc.2).bump

/-! ## Lock completion (R19) -/

/-- The reply of a completed lock. -/
def lockedReply : Reply := { result := .ok, body := .lockState .locked }

/-- A record-waiting reply is READY when nothing is left to wait for (R9). -/
def writesState (ws : List Wait) (lock : Option RangeIx) (done fault : Reply) : DeferState :=
  if ws.isEmpty && lock.isNone then .ready done else .working (.writes ws lock done fault)

/-- A lock of `r` completes: the LOCK_RANGE waiting on it is answered OK with LOCKED; a REKEY_RANGE no longer waits on it. -/
def lockDone (r : RangeIx) : Work → DeferState
  | .lock q => if q = r then .ready lockedReply else .working (.lock q)
  | .writes ws lock done fault =>
    if lock = some r then writesState ws none done fault else .working (.writes ws lock done fault)
  | .engine => .working .engine

/-- The key leaves the cache, the slot field is absent, the range is LOCKED, and what waits on the lock is told (R19). -/
def State.finishLock (r : RangeIx) (s : State) : State :=
  (((s.cacheKey r none).onRange r fun e => { e with lock := .locked, slot := none }).onLnk
    (Lnk.onWork (lockDone r)))

/-- KLN reports the clear of slot `i` complete (R19 case 1, R54, R60, R61): the slot field that names it is removed, and a
range whose lock waits on it completes. -/
def State.clearComplete (i : SlotIx) (s : State) : State :=
  match (List.finRange 16).find? fun r => (s.rmg.ranges.get r).slot == some i with
  | some r =>
    if (s.rmg.ranges.get r).lock = .locking then (s.finishLock r).bump.openPlain LockState.isLocked [r]
    else s.removeSlotField r i
  | none => s

/-! ## Clear requests (R54) -/

/-- The frame in flight, if any (R58). -/
def Lane.inFlight : Lane → Option LaneFrame
  | .sending f => some f
  | .awaitAck f => some f
  | .idle => none
  | .fault => none

/-- The queue without the frames of one operation for one slot (R54, R60). -/
def unqueue (op : LaneOp) (i : SlotIx) (q : List LaneFrame) : List LaneFrame :=
  q.filter fun f => !(f.op == op && f.slot == i)

/-- The queue holds a frame of one operation for one slot. -/
def queued (op : LaneOp) (i : SlotIx) (q : List LaneFrame) : Bool := q.any fun f => f.op == op && f.slot == i

/-- RMG asks KLN to clear the slot of range `r` (R54). -/
def State.clearRequest (r : RangeIx) (s : State) : State :=
  match (s.rmg.ranges.get r).slot with
  | none => s
  | some i =>
    match (s.kln.slots.get i).state with
    | .loaded =>
      (s.onSlot i fun l => { l with state := .clearing }).onKln fun k =>
        { k with queue := k.queue ++ [{ op := .clear, slot := i, key := none }] }
    | .loading =>
      if queued .load i s.kln.queue then
        ((s.onKln fun k => { k with queue := unqueue .load i k.queue }).onSlot i fun l =>
          { l with state := .empty, occupant := none, next := none, pins := 0 }).clearComplete i
      else
        (s.onSlot i fun l => { l with state := .clearing }).onKln fun k =>
          { k with queue := k.queue ++ [{ op := .clear, slot := i, key := none }] }
    | .clearing =>
      if (s.kln.slots.get i).next.any (fun o => o.range = r) then
        (s.onKln fun k => { k with queue := unqueue .load i k.queue }).onSlot i fun l => { l with next := none }
      else s
    | .empty | .unknown => s

/-! ## The purge (R64) and forced locks (R20) -/

/-- A slot as a purge leaves it; its last use stands (log 42). -/
def Slot.emptied (l : Slot) : Slot := { l with state := .empty, occupant := none, next := none, pins := 0 }

/-- A purpose that a purge withdraws: the lane's acknowledgement and every verdict's expiry (R47, R64). -/
def Purpose.purged : Purpose → Bool
  | .laneAck | .verdict _ => true
  | .backoff _ | .pairing | .grace | .absence | .calibration | .watch | .stimulation | .persistence => false

/-- The effects of a purge at issue, but for the map generation and the notice (R47, R64): the frame in flight is aborted,
the queue, the slots, the slot fields, the bad-load run and the verdict table are emptied, and every LOCKING range
completes; one with `lock_enabled` false then opens by R16 and takes an eager load's slot, at standby entry too, beside
R27's "every range's slot field is absent" (log 30). -/
def State.purgeEffects (toFault : Bool) (s : State) : State :=
  let lane := if toFault then Lane.fault else Lane.idle
  let locking := (List.finRange 16).filter fun r => (s.rmg.ranges.get r).lock == .locking
  let s1 := (s.onKln fun k =>
    { k with
      slots := k.slots.imap fun _ l => l.emptied
      queue := [], lane := lane, badRun := 0, purgePulse := true }).cancelAll Purpose.purged
  let s2 := (s1.onSrv fun v => { v with verdicts := [] }).onRmg fun m =>
    { m with ranges := m.ranges.imap fun _ e => { e with slot := none } }
  (locking.foldl (fun s r => s.finishLock r) s2).openPlain LockState.isLocked locking

/-- A purge in its own occurrence, with its VOID notice (R48, R64). -/
def State.purge (cause : VoidCause) (toFault : Bool) (s : State) : State :=
  let t := (s.purgeEffects toFault).bump
  t.notify (.void t.rmg.mapGen cause)

/-- A forced lock of ranges at a purge: each becomes LOCKED, and its key leaves the cache (R20). -/
def State.forceLocked (p : RangeIx → RangeEntry → Bool) (s : State) : State :=
  s.onRmg fun m =>
    { m with
      ranges := m.ranges.imap fun r e => if p r e then { e with lock := .locked } else e
      rangeKeys := m.rangeKeys.imap fun r k => if p r (m.ranges.get r) then none else k }

/-- The forced lock of every range with its purge, but for the map generation and the notice (R20, R104, R120). -/
def State.forceAll (s : State) : State := (s.purgeEffects false).forceLocked fun _ _ => true

/-! ## Lane faults (R61 to R63) -/

/-- Entry into FAULT (R62, R63): the frame's slot becomes UNKNOWN, its next occupant is dropped with the requesting range's
slot field, and the purge of the same occurrence empties it (log 18). The words on LDO stand (log 61). -/
def State.laneFault (i : SlotIx) (f : LaneFault) (s : State) : State :=
  let s1 := match (s.kln.slots.get i).next with
    | some o => s.removeSlotField o.range i
    | none => s
  (s1.onSlot i fun l => { l with state := .unknown, next := none }).purge (.laneFault f) true

/-! ## Verdicts (R42 to R45) -/

/-- The slots a list of segments passes, each once (R39). -/
def passedSlots (segments : List Segment) : List SlotIx :=
  (List.finRange 8).filter fun i => segments.any fun g => g.disposition == .pass i

/-- The consequence of a pin count that has fallen to 0: a LOCKING range has its slot cleared (R45). -/
def State.unpinned (i : SlotIx) (s : State) : State :=
  match (s.kln.slots.get i).occupant with
  | some o =>
    if (s.kln.slots.get i).pins = 0 && (s.rmg.ranges.get o.range).lock = .locking then s.clearRequest o.range else s
  | none => s

/-- A verdict leaves the table by release or expiry: its pins are dropped, each slot whose count reaches 0 is handled, and its
deadline is withdrawn (R42, R43, R45). Where several CLEARs follow they are queued in ascending order of slot (log 49). -/
def State.dropVerdict (v : Verdict) (s : State) : State :=
  let s1 := ((s.onSrv fun t => { t with verdicts := t.verdicts.filter fun w => !(w.id == v.id) }).cancel
    (.verdict v.id)).onKln fun k =>
      { k with
        slots := k.slots.imap fun i l =>
          if (passedSlots v.segments).contains i then { l with pins := l.pins - 1 } else l }
  (passedSlots v.segments).foldl (fun s i => s.unpinned i) s1

/-! ## The end of an occurrence -/

/-- The bits a LOAD carries (R57). -/
def Key.bits : Key → BitVec 256
  | .device => Config.deviceKeyBits
  | .drawn n => Config.drawnKeyBits n
  | .kek c salt factor => Config.kekBits c salt factor

/-- A 256-bit key as 16 words, most significant first (R57). -/
def keyWords (b : BitVec 256) : List (BitVec 16) :=
  (List.range 16).map fun i => b.extractLsb' (240 - 16 * i) 16

/-- The words of a lane frame on LDO (R57): operation and slot, the tag with the range in its upper 4 bits and the key generation in
its lower 12 (log 11), and for a LOAD the key the cache holds. -/
def State.laneWords (s : State) (f : LaneFrame) : List (BitVec 16) :=
  let tag := match f.key with
    | some o => BitVec.ofNat 16 (o.range.val * 4096 + o.generation % 4096)
    | none => 0
  match f.op with
  | .clear => [Config.laneCommand 1 f.slot.val, tag]
  | .load =>
    let bits := match f.key.bind fun o => s.rmg.rangeKeys.get o.range with
      | some k => k.bits
      | none => Config.absentKeyBits
    [Config.laneCommand 0 f.slot.val, tag] ++ keyWords bits

/-- The lane takes the head of the queue: IDLE, no purge pulse, not held, and not in STANDBY (R58, R67, R70). The tag of a CLEAR names the
key the slot's fields name (R57). LDO holds all the words of the frame from its start, and keeps them if a sync error or a purge aborts it
in SENDING: how far it went R62 and R64 leave open (log 61). -/
def State.laneStart (s : State) : State :=
  if s.pwc.power != .standby && s.kln.lane == .idle && !s.kln.purgePulse && !s.kln.hold then
    match s.kln.queue with
    | [] => s
    | f :: rest =>
      let g := match f.op with
        | .load => f
        | .clear => { f with key := (s.kln.slots.get f.slot).occupant }
      s.onKln fun k => { k with queue := rest, lane := .sending g, ldo := s.laneWords g }
  else s

/-- The absence check's three conditions (R101), the same in every power state. -/
def State.absenceApplies (s : State) : Bool :=
  s.aut.lifecycle == .provisioned && s.sto.policy.absenceLimit != 0 && s.thm.armed

/-- The absence check's entry follows its three conditions: while they hold it is due at the next second boundary, where a PSC that has
reached its end stands still; it is withdrawn when one ceases (R101, R137). -/
def State.syncAbsence (s : State) : State :=
  if s.absenceApplies then
    if (s.deadline .absence).isSome then s else s.enter .absence (min (s.pscNow + 1) 4294967295)
  else s.withdraw .absence

/-- LNK grants free entries while the link is open (R178). -/
def State.grantLink (s : State) : State :=
  if s.linkOpen then s.onLnk fun l => l.collectReady.grantAll 16 else s

/-- The end of an occurrence: grants, the lane's next frame, the absence check's entry; the next occurrence's increment
of the map generation counts anew. -/
def State.settle (s : State) : State := s.grantLink.laneStart.syncAbsence.newOccurrence

/-- An occurrence of a powered part. An unpowered part takes none (R165; log 7). -/
def State.occur (f : State → State) (s : State) : Host.Outcome State Fault Refusal :=
  if s.powered then .next (f s).settle else .next s

end Sys2Proof.Machine
end

