-- ==== Sys2Proof/Machine/Levels.lean ====
section
/-! DEFINITION. The shared operations over the signed-in set, the derivation engine's job and the threat level: leaving the set, aborts,
captures, the entries of WARY, ALARM and WIPING, phase 0 of the wipe, and the taking of a trigger. -/

namespace Sys2Proof.Machine

/-! ## Authorities -/

def State.onAuthority (a : AuthIx) (f : AuthorityRec → AuthorityRec) (s : State) : State :=
  s.onAut fun t => { t with auth := t.auth.set a { t.auth.get a with kept := f (t.auth.get a).kept } }

/-- Membership of the signed-in set (R71). -/
def State.setSignedIn (a : AuthIx) (b : Bool) (s : State) : State :=
  s.onAut fun t => { t with auth := t.auth.set a { t.auth.get a with signedIn := b } }

/-- ADMIN or RESCUE is signed in (R5). -/
def State.adminSignedIn (s : State) : Bool := (s.aut.auth.get 0).signedIn || (s.aut.auth.get 7).signedIn

/-- An authority leaves the signed-in set: a user's KEK leaves the key cache; the domain key leaves with the last of ADMIN and
RESCUE (R5, R85). -/
def State.leaveSet (a : AuthIx) (s : State) : State :=
  let t := s.setSignedIn a false
  t.onRmg fun m =>
    { m with
      keks := if isUser a then m.keks.set a none else m.keks
      domainKey := if t.adminSignedIn then m.domainKey else none }

/-- The signed-in set is emptied; the domain key and every KEK leave the key cache (R5, R85). -/
def State.emptySet (s : State) : State :=
  (s.onAut fun t => { t with auth := t.auth.imap fun _ e => { e with signedIn := false } }).onRmg fun m =>
    { m with domainKey := none, keks := .fill none }

/-- The backoff deadline from the uptime as it stands (R77, R79, R82). -/
def State.setBackoff (a : AuthIx) (s : State) : State :=
  s.enter (.backoff a) (s.tmb.uptime + delay (s.aut.auth.get a).kept.failures * 1024)

/-- The job of the engine while it charges or derives (R76). -/
def Engine.job : Engine → Option Job
  | .charging j _ => some j
  | .deriving_ j => some j
  | .idle => none
  | .finishing _ _ _ => none

/-- An aborted AUTHENTICATE keeps its charge and sets the backoff from the abort (R77). -/
def State.abortBackoff (s : State) : State :=
  match s.aut.engine.job with
  | some (.authenticate a _) => s.setBackoff a
  | some (.setCredential _ _ _ _ _ _) => s
  | some (.provision _) => s
  | none => s

/-- The job is aborted with the abort's reply; the engine is IDLE (R77). -/
def State.abortJob (r : Reply) (s : State) : State :=
  (s.abortBackoff.onAut fun t => { t with engine := .idle }).answerJob r

/-- ALARM entry aborts a USER's AUTHENTICATE and any SET_CREDENTIAL, with THREAT; other jobs continue (R77, R104). -/
def State.abortForAlarm (s : State) : State :=
  match s.aut.engine.job with
  | some (.authenticate a _) => if isUser a then s.abortJob (.plain .threat) else s
  | some (.setCredential _ _ _ _ _ _) => s.abortJob (.plain .threat)
  | some (.provision _) => s
  | none => s

/-- Standby entry aborts a job that charges or derives, without a reply; PROVISION past its derivations continues
(R77, R94). -/
def State.abortForStandby (s : State) : State :=
  match s.aut.engine.job with
  | some _ => s.abortBackoff.onAut fun t => { t with engine := .idle }
  | none => s

/-! ## The threat level -/

/-- The level changes; what R109 reports at an opening of the link is kept. -/
def State.setLevel (l : Level) (cause : ThreatCause) (who : Option AuthIx) (s : State) : State :=
  s.onThm fun t =>
    { t with
      level := l, lastCause := cause, lastAuthority := who
      changedClosed := t.changedClosed || !s.linkOpen }

/-- A THREAT notice with the level as it stands (R109). -/
def State.threatNotice (previous : Level) (cause : ThreatCause) (who : Option AuthIx) (s : State) : State :=
  let grace := if s.thm.level = .alarm then s.thm.grace.map fun g => (g, s.pscNow) else none
  s.notify (.threat s.thm.level previous cause who grace s.rmg.mapGen)

/-- The grace deadline is withdrawn, and no expiry of it follows (R105 to R108). -/
def State.clearGrace (s : State) : State := (s.onThm fun t => { t with grace := none }).cancel .grace

/-- WARY entry's ranges: `lock_enabled` and `conceal_on_wary`, not read-locked (R18, R103). -/
def State.wary (s : State) (r : RangeIx) : Bool :=
  let e := s.rmg.ranges.get r
  s.defined r && e.flags.lockEnabled && e.flags.concealOnWary && !e.lock.readLocked

/-- A normal lock of a range with its slot, if any: LOCKED at once without a slot; otherwise LOCKING, the slot cleared at once
where its pin count is 0 (R18). -/
def State.normalLock (r : RangeIx) (s : State) : State :=
  match (s.rmg.ranges.get r).slot with
  | none => (s.cacheKey r none).onRange r fun e => { e with lock := .locked }
  | some i =>
    let t := s.onRange r fun e => { e with lock := .locking }
    if (s.kln.slots.get i).pins = 0 then t.clearRequest r else t

/-- WARY entry (R103). Its CLEARs are queued in ascending order of range (log 49). -/
def State.enterWary (k : TriggerKind) (s : State) : State :=
  let s1 := s.setLevel .wary (.trigger k) none
  let s2 := ((List.finRange 16).foldl (fun t r => if s.wary r then t.normalLock r else t) s1).bump
  (s2.threatNotice s.thm.level (.trigger k) none).mark .counters

/-! ## WIPING entry and phase 0 (R108, R120) -/

/-- An entry of the deferred-reply table still WORKING is answered WIPING (R120); one already READY keeps its reply (log 33). -/
def Lnk.answerWiping (l : Lnk) : Lnk := l.onWork fun _ => .ready (.plain .wiping)

/-- A backoff or the pairing window (R120). -/
def Purpose.endedByWipe : Purpose → Bool
  | .backoff _ | .pairing => true
  | .verdict _ | .laneAck | .grace | .absence | .calibration | .watch | .stimulation | .persistence => false

/-- Phase 0 (R120) at the progress given, but for the map generation, the notices and the mark: locks, slots, verdicts, the
job, the set, the nonce, the key cache, the deferred replies, and the step ENTRY. A resumed wipe goes on with what its notices have
reported: the records it has marked faulty, and the operation completed last, absent until there is one (R126; log 23). -/
def State.phaseZero (phase : WipePhase) (next : Option Bank) (resumed : Bool) (s : State) : State :=
  let s1 := (s.forceAll.abortBackoff.onAut fun t => { t with engine := .idle }).answerJob (.plain .wiping)
  let s2 := (s1.emptySet.withdrawAll Purpose.endedByWipe).onAut fun t => { t with nonce := none }
  let s3 := (s2.onRmg fun m => { m with rangeKeys := .fill none, grants := [] }).onLnk Lnk.answerWiping
  s3.onWpc fun w =>
    { w with
      step := .entry, phase := phase, next := next, waits := waitsFor [.counters], resumed := resumed,
      failed := if resumed then w.failed else [], last := if resumed then w.last else none }

/-- WIPING entry (R108), a new wipe from K0. -/
def State.enterWiping (cause : ThreatCause) (s : State) : State :=
  let s1 := (s.clearGrace.setLevel .wiping cause none).phaseZero .erasing (some .k0) false
  let s2 := s1.bump.threatNotice s.thm.level cause none
  (s2.notify (.void s2.rmg.mapGen .wiping)).mark .counters

/-- ALARM entry (R104). With GRACE 0 the level goes on to WIPING in the same occurrence, with WIPING entry's notices, cause
GRACE (log 46), and one increment of the map generation. -/
def State.enterAlarm (k : TriggerKind) (s : State) : State :=
  let due := s.pscNow + s.sto.policy.grace
  let s1 := (s.setLevel .alarm (.trigger k) none).forceAll.emptySet.abortForAlarm
  let s2 := (s1.onThm fun t => { t with grace := some due }).enter .grace due
  if s.sto.policy.grace = 0 then s2.enterWiping .grace
  else
    let s3 := s2.bump.threatNotice s.thm.level (.trigger k) none
    (s3.notify (.void s3.rmg.mapGen .alarm)).mark .counters

/-! ## Captures and triggers (R97, R112) -/

/-- A trigger's occurrence in its capture record (R112), with the level before it. -/
def State.capture (k : TriggerKind) (s : State) : State :=
  match s.thm.captures.get (kindIx k) with
  | some c =>
    (s.onThm fun t =>
      { t with captures := t.captures.set (kindIx k) (some { c with count := min (c.count + 1) 255 }) }).mark
        (.capture (kindIx k))
  | none =>
    let c : Capture :=
      { psc := s.pscNow, tick := s.tmb.uptime % 1024, quality := s.tmb.quality, before := s.thm.level, count := 1 }
    ((s.onThm fun t =>
      { t with
        captures := t.captures.set (kindIx k) (some c)
        filledClosed := if s.linkOpen then t.filledClosed else t.filledClosed ++ [k] }).mark (.capture (kindIx k))).notify
      (.capture k c)

/-- THM takes a trigger (R97): the capture, then the entry of the response's level where it ranks above the level. -/
def State.takeTrigger (k : TriggerKind) (s : State) : State :=
  let t := s.capture k
  if s.thm.level = .wiping then t
  else if (s.response k).rank ≤ s.thm.level.rank then t
  else
    match s.response k with
    | .record => t
    | .wary => t.enterWary k
    | .alarm => t.enterAlarm k
    | .wipe => t.enterWiping (.trigger k)

/-! ## AUT's thresholds (R83, R84) -/

/-- An admin authority at its failure limit, or the device-wide budget reached: BUDGET's condition (R83, R84). -/
def State.adminAtLimit (s : State) (a : AuthIx) : Bool :=
  isAdmin a && (s.aut.auth.get a).kept.limit ≤ (s.aut.auth.get a).kept.failures

/-- W is not 0 and G has reached it (R83). -/
def State.overBudget (s : State) : Bool :=
  s.sto.policy.tryLimit != 0 && s.sto.policy.tryLimit ≤ s.aut.tryCount

/-- A USER at its failure limit and still enabled (R83, R84). -/
def State.userAtLimit (s : State) (a : AuthIx) : Bool :=
  isUser a && (s.aut.auth.get a).kept.enabled && (s.aut.auth.get a).kept.limit ≤ (s.aut.auth.get a).kept.failures

/-- A USER at its limit becomes disabled, its record marked URGENT (R83, R84). -/
def State.disableAtLimit (a : AuthIx) (s : State) : State :=
  if s.userAtLimit a then (s.onAuthority a fun k => { k with enabled := false }).mark (.authority a) else s

end Sys2Proof.Machine
end

