-- ==== Sys2Proof/Machine/Start.lean ====
section
/-! DEFINITION. The shared operations over starts, standby and the opening of the link (chapter 9): the reading of the records with their
fallbacks, the steps of a start, standby entry, the warm start's cause, and the notices due at an opening. -/

namespace Sys2Proof.Machine

/-! ## The link closes and opens -/

/-- The link closes: LNK discards what it holds (R181), and what an opening will report begins anew (R109, R112, R126,
R148, R164). With the link already closed, only LNK is cleared. -/
def State.closeLink (s : State) : State :=
  let t := s.onLnk fun l => { Lnk.cleared with sdo := l.sdo }
  if s.linkOpen then
    (((t.onThm fun h => { h with levelAtClose := h.level, changedClosed := false, filledClosed := [] }).onTmb fun b =>
      { b with clockClosed := false }).onWpc fun w => { w with completedClosed := false }).onSto fun o =>
      { o with gained := [] }
  else t

/-- A CLOCK notice with TMB's state as it stands (R148). -/
def State.clockNotice (e : ClockEvent) (s : State) : State :=
  s.notify (.clock s.tmb.quality e.previous e.cause e.measured s.tmb.acceptedM s.tmb.divisor s.pscNow s.tmb.uptime)

/-- An occurrence of R148: reported at once while the link is open, remembered while it is closed. -/
def State.clockEvent (cause : ClockCause) (previous : Quality) (measured : Option Nat) (s : State) : State :=
  let e : ClockEvent := { cause := cause, previous := previous, measured := measured }
  (s.onTmb fun t => { t with lastClock := e, clockClosed := t.clockClosed || !s.linkOpen }).clockNotice e

/-- The phase a WIPE notice reports (R126; log 23): past the erase of K3 the progress is REWRITING, though the step still waits
for the progress write. -/
def Wpc.report (w : Wpc) : WipeReport :=
  match w.step with
  | .idle => .complete
  | .entry => .entry
  | .erasing _ => if w.phase = .rewriting then .rewriting else .erasing
  | .rewriting _ => .rewriting
  | .closing => .rewriting

/-- A WIPE notice with WPC's progress as it stands (R126). -/
def State.wipeNotice (s : State) : State :=
  let next := if s.wpc.report = .erasing then s.wpc.next else none
  s.notify (.wipe s.wpc.report s.wpc.last next s.wpc.resumed s.wpc.failed.length)

/-- AUT opens the pairing window, unless the level is WIPING (R91, R168). Without a stored secret there is no window (R89, R93). -/
def State.openPairing (s : State) : State :=
  if s.thm.level = .wiping then s.onAut fun a => { a with paired := false }
  else if s.aut.secret.isSome then
    (s.onAut fun a => { a with paired := false, nonce := none }).enter .pairing
      (s.tmb.uptime + s.sto.policy.pairWindow * 1024)
  else s.withdraw .pairing

/-- KLN samples HALT for its hold (R67). -/
def State.sampleHalt (s : State) : State :=
  s.onKln fun k => { k with hold := s.pins.halt && s.sto.policy.haltPolicy == .finish }

/-- The THREAT notice due at an opening (R109). At a wake after a start that ended in STANDBY, with no change of level since, the last
cause is the start's (log 51). -/
def State.threatAtOpening (start : Bool) (s : State) : State :=
  if s.thm.level ≠ .calm || s.thm.changedClosed then
    let cause := if start then ThreatCause.start else s.thm.lastCause
    let who := if start then none else s.thm.lastAuthority
    s.threatNotice s.thm.levelAtClose cause who
  else s

/-- The CLOCK notice due at an opening (R148; previous quality at a start: log 24). -/
def State.clockAtOpening (start : Bool) (s : State) : State :=
  if s.tmb.quality ≠ .true_ || s.tmb.clockClosed then
    s.clockNotice (if start then { cause := .start, previous := s.tmb.quality, measured := none } else s.tmb.lastClock)
  else s

/-- The WIPE notice due at an opening (R126). -/
def State.wipeAtOpening (s : State) : State :=
  if s.wpc.step ≠ .idle || s.wpc.completedClosed then s.wipeNotice else s

/-- The record most recently filled while the link was closed, of those that still hold a capture: a warm start loses one that was not
written (R112; log 53). -/
def Thm.lastFilled (t : Thm) : Option (TriggerKind × Capture) :=
  t.filledClosed.reverse.findSome? fun k => (t.captures.get (kindIx k)).map fun c => (k, c)

/-- The CAPTURE notice due at an opening (R112). -/
def State.captureAtOpening (s : State) : State :=
  match s.thm.lastFilled with
  | some (k, c) => s.notify (.capture k c)
  | none => s

/-- The STORE notice due at an opening, where a record that joined the faulty set while the link was closed still stands in it, naming
the one added last (R164; log 25). -/
def State.storeAtOpening (s : State) : State :=
  match s.sto.gained.getLast? with
  | some r => s.notify (.store (.write r) s.sto.faulty.length)
  | none => s

/-- The link opens, at the end of a start or at a wake: PWC enters ACTIVE and R168's three steps follow in order. -/
def State.openLink (start : Bool) (s : State) : State :=
  let t := (s.onPwc fun p => { p with power := .active, selTimed := false }).openPairing.sampleHalt
  (((t.threatAtOpening start).clockAtOpening start).wipeAtOpening.captureAtOpening).storeAtOpening

/-! ## Standby entry (R172) -/

/-- The forced set of standby entry: `lock_enabled` and `lock_on_standby` (R20, R27). -/
def RangeEntry.sleeps (e : RangeEntry) : Bool := e.flags.lockEnabled && e.flags.lockOnStandby

/-- Standby entry, one occurrence (R172). -/
def State.standbyEntry (s : State) : State :=
  let s1 := s.closeLink.onPwc fun p => { p with power := .standby, selTimed := false }
  let s2 := (((s1.purgeEffects false).forceLocked fun _ e => e.sleeps).onKln fun k => { k with hold := false })
  let s3 := (s2.abortForStandby.emptySet.onAut fun a => { a with paired := false, nonce := none }).withdraw .pairing
  s3.bump.mark .counters

/-- Wake: the link opens and nothing else is rebuilt (R173). -/
def State.wake (s : State) : State := s.openLink false

/-! ## The warm start's cause (R169) -/

/-- The cause of a warm start: STARTING, the link closed, the job abandoned without reply, and the wait for the store. -/
def State.warmStart (cause : ResetCause) (s : State) : State :=
  (s.closeLink.onAut fun a => { a with engine := .idle }).onPwc fun p =>
    { p with power := .starting, resetCause := cause, stage := .waitStore, waits := [], selTimed := false }

/-! ## The integrity scan (R159) -/

/-- A setting record whose values lie within R163's table. -/
def Policy.valid (p : Policy) : Bool :=
  1 ≤ p.verdictLifetime && p.verdictLifetime ≤ 255 && 3 ≤ p.failureLimit && p.failureLimit ≤ 64 && p.tryLimit ≤ 65535 &&
    16 ≤ p.workFactor && p.workFactor ≤ 255 && 10 ≤ p.pairWindow && p.pairWindow ≤ 600 &&
    (p.absenceLimit = 0 || 3600 ≤ p.absenceLimit && p.absenceLimit ≤ 31536000) && p.grace ≤ 3600

/-- C in 1 to 2^40. -/
def IdentityRec.valid (i : IdentityRec) : Bool := 1 ≤ i.capacity && i.capacity ≤ 2 ^ 40

/-- COUNTERS within its values: G, the PSCs, the grace deadline present exactly in ALARM, the next bank present exactly in
phase ERASING (R72, R95, R117). -/
def CountersRec.valid (c : CountersRec) : Bool :=
  c.tryCount ≤ 65535 && c.lastSignIn ≤ 4294967295 && c.psc ≤ 4294967295 && (c.grace.isSome == (c.level == .alarm)) &&
    (c.next.isSome == (c.phase == .erasing))

/-- An AUTHORITY record within the values of R71. -/
def AuthorityRec.valid (a : AuthorityRec) : Bool :=
  a.failures ≤ 255 && 3 ≤ a.limit && a.limit ≤ 64 && a.credential.all (fun c => 16 ≤ c.factor && c.factor ≤ 255) &&
    decide a.startup.Nodup

/-- A RANGE KEY record within the values of R2 and R4. -/
def RangeKeyRec.valid (k : RangeKeyRec) : Bool :=
  k.generation ≤ 65535 &&
    match k.state with
    | .keyed => k.domainWrap.isSome
    | .erased => k.domainWrap.isNone && k.deviceWrap.isNone

/-- An envelope within the values of R6: domain envelopes belong to admin authorities, range envelopes to users and to an
index 1 to 15. -/
def Envelope.valid (e : Envelope) : Bool :=
  match e.target with
  | .domain => isAdmin e.authority
  | .range r => isUser e.authority && r ≠ 0

/-- A CAPTURE record within the values of R111. -/
def Capture.valid (c : Capture) : Bool := c.tick ≤ 1023 && 1 ≤ c.count && c.count ≤ 255

/-- The content of a record that is sound and within its values. -/
def Kept.read {α : Type} (valid : α → Bool) : Kept α → Option α
  | .sound a => if valid a then some a else none
  | .blank => none
  | .invalid => none

/-- The content of a key bank's record: blank reads as the erased value (R123, R155). -/
def Kept.readOr {α : Type} (erased : α) (valid : α → Bool) : Kept α → Option α
  | .sound a => if valid a then some a else none
  | .blank => some erased
  | .invalid => none

/-- IDENTITY or its fallback: serial number 0, C = 1 (R159). -/
def Records.readIdentity (rs : Records) : IdentityRec :=
  (rs.identity.read IdentityRec.valid).getD { serial := 0, capacity := 1 }

/-- A RANGE record read by itself: index 0 has no geometry and both concealment flags false; another lies wholly below C, with C = 1 of a
faulty IDENTITY as with any other (log 56). -/
def rangeFits (c : Nat) (r : RangeIx) (e : RangeRec) : Bool :=
  if r = 0 then e.geometry.isNone && !e.flags.conceal && !e.flags.concealOnWary
  else e.geometry.all fun g => g.below c

/-- The geometries accepted among the indices below `n`, in ascending index (R159). -/
def Records.accepted (rs : Records) (c : Nat) : Nat → List Geometry
  | 0 => []
  | n + 1 =>
    let l := rs.accepted c n
    if h : n < 16 then
      match (rs.range.get ⟨n, h⟩).read (rangeFits c ⟨n, h⟩) with
      | some { geometry := some g, flags := _ } => if l.any (fun k => g.overlaps k) then l else l ++ [g]
      | _ => l
    else l

/-- A RANGE record as the scan judges it: it overlaps no range of lower index already accepted (R159). -/
def Records.readRange (rs : Records) (c : Nat) (r : RangeIx) : Option RangeRec :=
  match (rs.range.get r).read (rangeFits c r) with
  | some e => if e.geometry.any fun g => (rs.accepted c r.val).any fun k => g.overlaps k then none else some e
  | none => none

/-- The fallback of a RANGE record: undefined; for index 0 the global range locked (R159). -/
def rangeFallback (r : RangeIx) : RangeRec :=
  { geometry := none, flags := { flagsAtFactory with lockEnabled := decide (r = 0) } }

/-- A RANGE KEY record as the scan judges it (R159). -/
def Records.readKey (rs : Records) (r : RangeIx) : Option RangeKeyRec :=
  (rs.rangeKey.get r).readOr .erased RangeKeyRec.valid

/-- An ENVELOPE record as the scan judges it (R159). -/
def Records.readEnvelope (rs : Records) (p : EnvIx) : Option (Option Envelope) :=
  (rs.envelope.get p).readOr none fun e => e.all Envelope.valid

/-- A CAPTURE record as the scan judges it (R159). -/
def Records.readCapture (rs : Records) (i : Fin 8) : Option (Option Capture) :=
  (rs.capture.get i).read fun c => c.all Capture.valid

/-- An AUTHORITY record as the scan judges it (R159). -/
def Records.readAuthority (rs : Records) (a : AuthIx) : Option AuthorityRec :=
  (rs.authority.get a).read AuthorityRec.valid

/-- POLICY, or every default with the six responses at ALARM (R96, R159). -/
def Records.readPolicy (rs : Records) : Policy :=
  (rs.policy.read Policy.valid).getD
    { Policy.default with
      responseBay := .alarm, responseCase := .alarm, responsePairing := .alarm, responseAbsence := .alarm,
      responseClock := .alarm, responseHalt := .alarm }

/-- The lifecycle of a faulty COUNTERS (R72). -/
def Records.fallbackLifecycle (rs : Records) : Lifecycle :=
  if (rs.readAuthority 0).any AuthorityRec.enabled then .provisioned else .wiped

/-- COUNTERS, or its fallback (R159; at a warm start: log 26). -/
def Records.readCounters (rs : Records) : CountersRec :=
  (rs.counters.read CountersRec.valid).getD
    { lifecycle := rs.fallbackLifecycle, tryCount := 0, lastSignIn := 0, level := .alarm,
      grace := some (64 + rs.readPolicy.grace), psc := 0, phase := .none, next := none }

/-- The records the scan finds faulty (R158, R159), in the order of R153's table: the order in which they join the set is the model's
choice (log 57). -/
def Records.faultySet (rs : Records) : List RecordId :=
  let c := rs.readIdentity.capacity
  let one (b : Bool) (r : RecordId) : List RecordId := if b then [r] else []
  one (rs.identity.read IdentityRec.valid).isNone .identity ++
  one (rs.guard.read fun _ => true).isNone .guard ++
  one (rs.policy.read Policy.valid).isNone .policy ++
  one (rs.pairing.read fun _ => true).isNone .pairing ++
  one (rs.counters.read CountersRec.valid).isNone .counters ++
  ((List.finRange 8).filter fun a => (rs.readAuthority a).isNone).map .authority ++
  ((List.finRange 16).filter fun r => (rs.readRange c r).isNone).map .range ++
  ((List.finRange 16).filter fun r => (rs.readKey r).isNone).map .rangeKey ++
  ((List.finRange 48).filter fun p => (rs.readEnvelope p).isNone).map .envelope ++
  ((List.finRange 8).filter fun i => (rs.readCapture i).isNone).map .capture

/-- One entry of the range table as the scan builds it: LOCKED, no slot (R26). -/
def Records.rangeEntry (rs : Records) (c : Nat) (r : RangeIx) : RangeEntry :=
  let e := (rs.readRange c r).getD (rangeFallback r)
  let k := (rs.readKey r).getD .erased
  { geometry := e.geometry, flags := e.flags, keyState := k.state, generation := k.generation,
    domainWrap := k.domainWrap, deviceWrap := k.deviceWrap, lock := .locked, slot := none }

/-- An envelope as loaded: discarded where it names an undefined range or one whose key is ERASED (R6), and on no other ground (log 54). -/
def loadEnvelope (ranges : Table RangeEntry 16) (e : Option Envelope) : Option Envelope :=
  e.filter fun v => match v.target with
    | .domain => true
    | .range r => (r = 0 || (ranges.get r).geometry.isSome) && (ranges.get r).keyState == .keyed

/-- Step 2 of a start: every block takes its image from the records or their fallbacks (R26, R93, R115, R159,
R167). Two sound ENVELOPE records of one authority and target are both loaded (log 54). -/
def State.readRecords (s : State) : State :=
  let rs := s.sto.records
  let identity := rs.readIdentity
  let counters := rs.readCounters
  let ranges : Table RangeEntry 16 := .ofFn fun r => rs.rangeEntry identity.capacity r
  let pairing := (rs.pairing.read fun _ => true).getD { secret := none, token := none }
  let faulty := rs.faultySet
  ((((s.onRmg fun m =>
      { Rmg.bare with
        ranges := ranges
        envelopes := .ofFn fun p => loadEnvelope ranges ((rs.readEnvelope p).getD none)
        mapGen := m.mapGen }).onAut fun _ =>
      { Aut.bare with
        auth := .ofFn fun a => { kept := (rs.readAuthority a).getD .factory, signedIn := false }
        lifecycle := counters.lifecycle, tryCount := counters.tryCount, lastSignIn := counters.lastSignIn
        secret := pairing.secret, token := pairing.token }).onThm fun t =>
      { t with
        level := counters.level, grace := counters.grace
        captures := .ofFn fun i => (rs.readCapture i).getD none }).onWpc fun w =>
      { w with phase := counters.phase, next := counters.next }).onSto fun o =>
      { o with
        faulty := faulty, gained := faulty, guard := (rs.guard.read fun _ => true).getD .fixed
        policy := rs.readPolicy, identity := identity }

/-- The purposes AUT withdraws at step 2 of a warm start (R169). -/
def Purpose.isBackoff : Purpose → Bool
  | .backoff _ => true
  | .pairing | .verdict _ | .laneAck | .grace | .absence | .calibration | .watch | .stimulation | .persistence => false

/-! ## Steps 3 to 8 (R167, R168) -/

/-- Step 3: the PSC charge; its write starts, and the next step waits for it (R137). -/
def State.chargePsc (s : State) : State :=
  let psc := min (s.sto.records.readCounters.psc + 64) 4294967295
  (((s.onTmb fun t => { t with psc := some psc }).enter .persistence (psc + 64)).onPwc fun p =>
    { p with stage := .charging, waits := waitsFor [.counters] }).mark .counters

/-- Step 4: the start's purge, with the map generation at 1 in place of the increment (R69, R167). -/
def State.startPurge (s : State) : State :=
  (((s.purgeEffects false).onKln fun k => { k with hold := false }).onRmg fun m => { m with mapGen := 1 }).onSrv
    fun v => { v with lastId := 0 }

/-- Step 5, the level: restored, or taken on to WIPING where the grace has run out; under WIPING the wipe resumes (R115,
R129). An expiry of the grace fallen due before is judged here and not taken again (R97). -/
def State.restoreLevel (s : State) : State :=
  let s1 := (s.onThm fun t =>
    { t with
      bay := .fresh, caseSw := .fresh, armed := true, lastCause := .start, lastAuthority := none
      levelAtClose := t.level, changedClosed := false }).onPwc fun p => { p with stage := .done, waits := [] }
  match s.thm.level with
  | .calm => s1.cancel .grace
  | .wary => s1.cancel .grace
  | .alarm =>
    match s.thm.grace with
    | some g => if g ≤ s.pscNow then s1.newOccurrence.enterWiping .grace else (s1.cancel .grace).enter .grace g
    | none => s1.cancel .grace
  | .wiping =>
    let phase := if s.wpc.phase = .rewriting then WipePhase.rewriting else .erasing
    let next := if s.wpc.phase = .rewriting then none else some (s.wpc.next.getD .k0)
    ((s1.cancel .grace).phaseZero phase next true).mark .counters

/-- Triggers taken one after another, each an occurrence of its own (R97). -/
def State.takeTriggers (ks : List TriggerKind) (s : State) : State :=
  ks.foldl (fun s k => s.newOccurrence.takeTrigger k) s

/-- Step 5, the triggers held until the level was restored, in the order of arising, and HALT where it is found high and no
held rise stands for it (R97, R99; log 21). -/
def State.takeHeld (s : State) : State :=
  let held := s.thm.raised
  let halt := if s.pins.halt && !held.contains .halt then [TriggerKind.halt] else []
  (s.onThm fun t => { t with raised := [] }).takeTriggers (held ++ halt)

/-- Step 5, AUT's thresholds, and BUDGET taken against the level now standing (R84, R168). -/
def State.startThresholds (s : State) : State :=
  let s1 := (List.finRange 8).foldl (fun s a => s.disableAtLimit a) s
  if s.adminAtLimit 0 || s.adminAtLimit 7 || s.overBudget then s1.takeTriggers [.budget] else s1

/-- Step 6: a backoff deadline for each authority whose f is 3 or more (R84). -/
def State.startBackoffs (s : State) : State :=
  (List.finRange 8).foldl (fun s a => if 3 ≤ (s.aut.auth.get a).kept.failures then s.setBackoff a else s) s

/-- Step 7: opening without sign-in; the openings are part of the start and the map generation stays as it is (R168). -/
def State.startOpenings (s : State) : State :=
  ((s.onModel fun m => { m with bumped := true }).openPlain LockState.isLocked (List.finRange 16)).newOccurrence

/-- Step 8: ACTIVE with the link opening, or standby entry, as DPWR stands (R168). -/
def State.endStart (s : State) : State :=
  if s.pins.dpwr then s.openLink true else s.standbyEntry

/-- Steps 4 to 8, in one occurrence (R168). At step 5 the triggers held and HALT found high are all taken before the BUDGET that AUT's
thresholds raise (log 21). -/
def State.finishStart (s : State) : State :=
  s.startPurge.restoreLevel.takeHeld.startThresholds.startBackoffs.startOpenings.endStart

/-- Steps 2 and 3 of a cold start, steps 2 and 4 to 8 of a warm one, when the scan completes (R159, R167, R169). -/
def State.scanDone (s : State) : State :=
  match s.pwc.stage with
  | .scanning true => s.readRecords.chargePsc
  | .scanning false => ((s.readRecords.withdrawAll Purpose.isBackoff).finishStart).beginOp
  | .waitStore => s
  | .charging => s
  | .done => s

/-! ## Power (R165) -/

/-- The supply falls: an erase in flight leaves its bank invalid, a write in flight the record's previous contents (R154, R155),
and the part stops. -/
def State.losePower (s : State) : State :=
  (s.onSto fun t =>
    { t with
      records := match t.inFlight with
        | some (.erase b _) => t.records.eraseBank b false
        | some (.write _ _ _) => t.records
        | none => t.records
      inFlight := none }).onPwc fun p => { p with power := .unpowered }

/-- The dirty list is emptied and step 1 of a warm start is taken: STO, LNK, AUT and WPC reset; TMB, the FROZEN overlay and what WPC's
notices report stand (R126, R169). -/
def State.proceed (s : State) : State :=
  ((((s.onSto fun t => { t with dirty := [], waitingWipe := none }).onLnk fun l =>
      { Lnk.cleared with sdo := l.sdo }).emptySet.onAut fun a => { a with engine := .idle }).onWpc fun w =>
      { w with step := .idle, phase := .none, next := none, waits := [] }).onPwc fun p =>
      { p with stage := .scanning false, waits := [] }

end Sys2Proof.Machine
end

