-- ==== Sys2Proof/Machine/Report.lean ====
section
/-! DEFINITION. The shared operations over envelopes and fresh keys, and what follows the completion of a store operation: the stages of
PROVISION, the steps of the wipe, and the report to every request and block that waits on a write. -/

namespace Sys2Proof.Machine

/-! ## Envelopes and fresh keys (R4, R6) -/

/-- The position of the envelope of an authority for a target: the lowest, where a start has loaded two (R6; log 54). -/
def State.envelopeAt (s : State) (a : AuthIx) (t : Target) : Option EnvIx :=
  s.rmg.envelopes.lowest fun e => e.any fun v => v.authority == a && v.target == t

/-- The wrapped key of the envelope of an authority for a target. -/
def State.envelopeWrap (s : State) (a : AuthIx) (t : Target) : Option Wrapped :=
  ((s.envelopeAt a t).bind fun p => s.rmg.envelopes.get p).map Envelope.wrapped

/-- The positions of the envelopes that satisfy `q`, ascending. -/
def State.envelopesWhere (s : State) (q : Envelope → Bool) : List EnvIx :=
  s.rmg.envelopes.positions fun e => e.any q

/-- Deletes envelopes: their positions are empty at once (R6). A GRANT whose envelope is deleted waits for its write no
more. -/
def State.deleteEnvelopes (ps : List EnvIx) (s : State) : State :=
  s.onRmg fun m =>
    { m with
      envelopes := m.envelopes.imap fun p e => if ps.contains p then none else e
      grants := m.grants.filter fun w => !(ps.any fun p => w.record == .envelope p) }

/-- The lowest empty position (R6). -/
def State.emptyPosition (s : State) : Option EnvIx := s.rmg.envelopes.lowest Option.isNone

/-- A new envelope at a position. -/
def State.putEnvelope (p : EnvIx) (e : Envelope) (s : State) : State :=
  s.onRmg fun m => { m with envelopes := m.envelopes.set p (some e) }

/-- A new envelope at the lowest empty position, with the positions placed so far (R6). -/
def placeEnvelope (e : Envelope) (acc : State × List EnvIx) : State × List EnvIx :=
  match acc.1.emptyPosition with
  | some p => (acc.1.putEnvelope p e, acc.2 ++ [p])
  | none => acc

/-- A fresh random key for a range: KEYED, the generation incremented with its wrap, the domain wrap, and the device wrap
where `lock_enabled` is false (R4, R10, R21). -/
def State.freshKey (domain : Key) (r : RangeIx) (s : State) : State :=
  let k := Key.drawn s.model.draws
  s.draw.onRange r fun e =>
    { e with
      keyState := .keyed, generation := (e.generation + 1) % 65536, domainWrap := some (wrapped domain k)
      deviceWrap := if e.flags.lockEnabled then none else some (wrapped .device k) }

/-- The key of a range from the key cache, or from its domain wrap under the cached domain key (R11, R22, R87). The cache goes first: of a
range still LOCKING under a REKEY_RANGE it holds the old key, the wrap the new one (R11, R22; in a grant set log 20). -/
def State.keyOf (s : State) (r : RangeIx) : Option Key :=
  match s.rmg.rangeKeys.get r with
  | some k => some k
  | none => unwrap (s.rmg.ranges.get r).domainWrap s.rmg.domainKey

/-! ## PROVISION (R75) -/

/-- A STORE_FAULT reply (R9; what one names that no failed write has caused: log 55). -/
def storeFault (about : FaultAbout) : Reply := { result := .storeFault, body := .fault about }

/-- A credential set for an authority with a fresh salt (R71, R75). -/
def State.setCredential (a : AuthIx) (credential : List Byte) (factor : Nat) (startup : List RangeIx)
    (s : State) : State :=
  let salt := s.model.draws
  s.draw.onAuthority a fun _ =>
    { enabled := true, failures := 0, limit := s.sto.policy.failureLimit, startup := startup
      credential :=
        some { salt := salt, factor := factor
               verifier := { credential := credential, salt := salt, factor := factor } } }

/-- A domain envelope (R6). -/
def domainEnvelope (a : AuthIx) (kek domain : Key) : Envelope :=
  { authority := a, target := .domain, wrapped := wrapped kek domain }

/-- Stage 1: authorities and domain (R75). RESCUE without a credential is left disabled (log 37). -/
def State.provisionAuthorities (p : ProvisionJob) (s : State) : State :=
  let adminKek := Key.kek p.admin s.model.draws p.factor
  let s1 := s.setCredential 0 p.admin p.factor p.adminSet
  let rescueKek := p.rescue.map fun c => Key.kek c s1.model.draws p.factor
  let s2 := match p.rescue with
    | some c => s1.setCredential 7 c p.factor p.rescueSet
    | none => s1.onAuthority 7 fun k => { k with enabled := false, startup := [] }
  let gone := s2.envelopesWhere fun _ => true
  let domain := Key.drawn s2.model.draws
  let admin := placeEnvelope (domainEnvelope 0 adminKek domain) ((s2.deleteEnvelopes gone).draw, [])
  let both := match rescueKek with
    | some k => placeEnvelope (domainEnvelope 7 k domain) admin
    | none => admin
  let records := [.authority 0, .authority 7] ++
    (gone ++ both.2.filter fun q => !(gone.contains q)).map RecordId.envelope
  (both.1.onAut fun a => { a with engine := .finishing .authorities domain (waitsFor records) }).markAll records

/-- Stage 2: lifecycle (R75). -/
def State.provisionLifecycle (domain : Key) (s : State) : State :=
  (s.onAut fun a =>
    { a with
      lifecycle := .provisioned, tryCount := 0, lastSignIn := s.pscNow
      engine := .finishing .lifecycle domain (waitsFor [.counters]) }).mark .counters

/-- The defined ranges with the global range, ascending. -/
def State.definedRanges (s : State) : List RangeIx := (List.finRange 16).filter fun r => s.defined r

/-- Stage 3: range keys (R75). The absence check is armed as the lifecycle stage completes (R102; log 31). -/
def State.provisionKeys (domain : Key) (s : State) : State :=
  let rs := s.definedRanges
  let s1 := (rs.foldl (fun s r => s.freshKey domain r) (s.onThm fun t => { t with armed := true })).bump
  let s2 := s1.openPlain LockState.isLocked rs
  (s2.onAut fun a => { a with engine := .finishing .rangeKeys domain (waitsFor (rs.map .rangeKey)) }).markAll
    (rs.map .rangeKey)

/-- PROVISION completes with its reply: the lifecycle and the key generation of each range (R75), each behind its range's index, in
ascending order of index (log 12). -/
def State.provisioned (s : State) : State :=
  (s.onAut fun a => { a with engine := .idle }).answerJob
    { result := .ok
      body := .provisioned s.aut.lifecycle
        (s.definedRanges.map fun r => (r, (s.rmg.ranges.get r).generation)) }

/-- A stage's writes have completed (R75). -/
def State.nextStage (stage : Stage) (domain : Key) (s : State) : State :=
  match stage with
  | .authorities => s.provisionLifecycle domain
  | .lifecycle => s.provisionKeys domain
  | .rangeKeys => s.provisioned

/-! ## The steps of the wipe (R121 to R125) -/

/-- The records of phase 2, in their order (R124). -/
def rewriteRecord (n : Fin 25) : RecordId :=
  if h : n.val < 16 then .rangeKey ⟨n.val, h⟩
  else if h : n.val < 24 then .authority ⟨n.val - 16, by omega⟩
  else .pairing

/-- A range table entry whose key is gone (R123, R124). -/
def RangeEntry.erased (e : RangeEntry) : RangeEntry :=
  { e with keyState := .erased, domainWrap := none, deviceWrap := none }

/-- An authority's wiped value (R124). -/
def Authority.wiped (a : Authority) : Authority :=
  { a with kept := { enabled := false, credential := none, failures := 0, limit := a.kept.limit, startup := [] } }

/-- The volatile images that take their wiped value at the start of a group (R124). -/
def State.wipeGroup (n : Fin 25) (s : State) : State :=
  if n.val = 0 then s.onRmg fun m => { m with ranges := m.ranges.imap fun _ e => e.erased }
  else if n.val = 16 then s.onAut fun a => { a with auth := a.auth.imap fun _ e => e.wiped }
  else if n.val = 24 then s.onAut fun a => { a with secret := none, token := none }
  else s

/-- WPC asks for the write of phase-2 record `n` (R124, R157). -/
def State.startRewrite (n : Fin 25) (s : State) : State :=
  ((s.wipeGroup n).onWpc fun w => { w with step := .rewriting n }).askStore (.write (rewriteRecord n))

/-- WPC asks for the erase its progress names next, or begins phase 2 (R121, R122). -/
def State.wipeOn (s : State) : State :=
  match s.wpc.phase, s.wpc.next with
  | .erasing, some b => (s.onWpc fun w => { w with step := .erasing b }).askStore (.erase b)
  | .erasing, none => s.startRewrite 0
  | .rewriting, _ => s.startRewrite 0
  | .none, _ => s.startRewrite 0

/-- A WIPE notice for the operation just completed (R126), with the phase and next bank after WPC's turn (log 23). -/
def State.wipeReport (last : WipeLast) (s : State) : State :=
  (s.onWpc fun w => { w with last := some last }).wipeNotice

/-- Records of the key banks. -/
def RecordId.isKey : RecordId → Bool
  | .rangeKey _ | .envelope _ => true
  | .identity | .guard | .policy | .pairing | .counters | .authority _ | .range _ | .capture _ => false

/-- The entry write of COUNTERS completes (R121). Its WIPE notice reports the phase and the next bank that WPC then goes on with
(log 23). -/
def State.wipeRecorded (s : State) : State :=
  ((s.onSto fun t => { t with dirty := t.dirty.filter fun e => !e.record.isKey }).wipeOn).wipeReport .entry

/-- The final write of COUNTERS completes (R125). -/
def State.wipeComplete (s : State) : State :=
  let s1 := (s.setLevel .calm .wipeComplete none).onAut fun a => { a with lifecycle := .wiped, tryCount := 0 }
  let s2 := (s1.onWpc fun w =>
    { w with
      step := .idle, phase := .none, next := none
      completedClosed := w.completedClosed || !s.linkOpen }).bump
  (s2.threatNotice s.thm.level .wipeComplete none).wipeReport .final

/-- WPC's turn after the COUNTERS write it waits on, whether that write was good or failed (R121, R122, R125). -/
def State.wipeCounted (s : State) : State :=
  let t := s.onWpc fun w => { w with waits := servedWait .counters w.waits }
  match s.wpc.step with
  | .entry => t.wipeRecorded
  | .erasing _ => t.wipeOn.wipeReport .progress
  | .closing => t.wipeComplete
  | .idle => t
  | .rewriting _ => t

/-- The bank after one in the order of phase 1 (R122). -/
def Bank.after : Bank → Option Bank
  | .k0 => some .k1
  | .k1 => some .k2
  | .k2 => some .k3
  | .k3 => none

/-- The volatile image of an erased bank (R123). -/
def State.bankImage (b : Bank) (s : State) : State :=
  match b with
  | .k0 =>
    s.onRmg fun m =>
      { m with
        ranges := m.ranges.imap fun _ e => e.erased
        envelopes := m.envelopes.imap fun _ e => e.filter fun v => v.target == .domain }
  | .k1 | .k2 | .k3 =>
    s.onRmg fun m => { m with envelopes := m.envelopes.imap fun p e => if envelopeBank p = b then none else e }

/-- WPC's turn after the erase it asked for (R122, R123). -/
def State.wipeErased (b : Bank) (s : State) : State :=
  let s1 := (s.bankImage b).onWpc fun w =>
    { w with
      phase := if b.after.isSome then .erasing else .rewriting, next := b.after
      waits := waitsFor [.counters] }
  (s1.wipeReport (.erased b)).mark .counters

/-- The group that ends with phase-2 record `n` (R124). -/
def groupEnd (n : Fin 25) : Option RewriteGroup :=
  if n.val = 15 then some .rangeKeys
  else if n.val = 23 then some .authorities
  else if n.val = 24 then some .pairing
  else none

/-- WPC's turn after phase-2 write `n`: the next record, or step CLOSING with the final write (R124, R125). -/
def State.wipeWrote (n : Fin 25) (s : State) : State :=
  let s1 := if h : n.val + 1 < 25 then s.startRewrite ⟨n.val + 1, h⟩
    else (s.onWpc fun w => { w with step := .closing, waits := waitsFor [.counters] }).mark .counters
  match groupEnd n with
  | some g => s1.wipeReport (.group g)
  | none => s1

/-- Records that this wipe has marked faulty, each counted once (R126, R127). -/
def State.wipeFailed (rs : List RecordId) (s : State) : State :=
  s.onWpc fun w => { w with failed := w.failed ++ rs.filter fun r => !(w.failed.contains r) }

/-- WPC's turn after a write of its own (R124) or of a COUNTERS record it waits on. -/
def State.wipeTurn (forWipe : Bool) (s : State) : State :=
  if forWipe then
    match s.wpc.step with
    | .rewriting n => s.wipeWrote n
    | .idle => s
    | .entry => s
    | .erasing _ => s
    | .closing => s
  else s.wipeCounted

/-! ## The report of a write (R9, R22, R75, R79, R137, R154) -/

/-- What a write of `r` does to a deferred reply's work: it no longer waits on it, or is answered STORE_FAULT. -/
def workWritten (r : RecordId) (good : Bool) : Work → DeferState
  | .writes ws lock done fault =>
    if waitsOn r ws then
      if good then writesState (servedWait r ws) lock done fault else .ready fault
    else .working (.writes ws lock done fault)
  | .lock q => .working (.lock q)
  | .engine => .working .engine

/-- A position whose GRANT a failed write of `r` undoes (R22). -/
def State.grantFailed (s : State) (r : RecordId) : List EnvIx :=
  if waitsOn r s.rmg.grants then (List.finRange 48).filter fun p => RecordId.envelope p == r else []

/-- The outstanding GRANTs hear of a write of `r` (R22). -/
def State.reportGrants (r : RecordId) (good : Bool) (s : State) : State :=
  let t := if good then s else s.deleteEnvelopes (s.grantFailed r)
  t.onRmg fun m => { m with grants := servedWait r m.grants }

/-- The derivation engine hears of a write of `r` (R75, R79). -/
def State.reportEngine (r : RecordId) (good : Bool) (s : State) : State :=
  match s.aut.engine with
  | .charging j ws =>
    if waitsOn r ws then
      if good then
        let rest := servedWait r ws
        s.onAut fun a => { a with engine := if rest.isEmpty then .deriving_ j else .charging j rest }
      else s.abortJob (storeFault .none)
    else s
  | .finishing stage domain ws =>
    if waitsOn r ws then
      if good then
        let rest := servedWait r ws
        if rest.isEmpty then s.nextStage stage domain
        else s.onAut fun a => { a with engine := .finishing stage domain rest }
      else (s.onAut fun a => { a with engine := .idle }).answerJob (storeFault .none)
    else s
  | .idle => s
  | .deriving_ _ => s

/-- The start hears of the charge's write, good or failed (R137, R167). -/
def State.reportStart (r : RecordId) (s : State) : State :=
  if s.pwc.stage = .charging && waitsOn r s.pwc.waits then s.finishStart else s

/-- STO reports a write of `r` to every block and request that waits on it (R154). -/
def State.reportWrite (r : RecordId) (good : Bool) (s : State) : State :=
  ((((s.onLnk (Lnk.onWork (workWritten r good))).reportGrants r good).reportEngine r good).reportStart r)

/-- STO is without an operation. -/
def State.operationOver (s : State) : State := s.onSto fun t => { t with inFlight := none }

/-- The two occurrences that follow a report, WPC's request and STO's next start, in the order given (R157; log 17). -/
def State.turns (due wpcFirst : Bool) (turn : State → State) (s : State) : State :=
  if due then
    if wpcFirst then (turn s).operationOver.beginOp else turn s.operationOver.beginOp
  else s.operationOver.beginOp

/-- A record's contents after a write that is good, or that failed its verify twice (R154, R158). -/
def State.storeWritten (c : RecContent) (good : Bool) (s : State) : State :=
  if good then
    s.onSto fun t =>
      { t with
        records := t.records.write c, faulty := t.faulty.filter fun r => !(r == c.id)
        gained := t.gained.filter fun r => !(r == c.id) }
  else
    let t := (s.onSto fun t => { t with records := t.records.spoil c.id }).addFaulty c.id
    t.notify (.store (.write c.id) t.sto.faulty.length)

/-- The write in flight ends (R154). -/
def State.writeDone (c : RecContent) (forWipe good wpcFirst : Bool) (s : State) : State :=
  let s1 := (s.storeWritten c good).reportWrite c.id good
  let due := forWipe || waitsOn c.id s1.wpc.waits
  let s2 := if due && !good then s1.wipeFailed [c.id] else s1
  s2.turns due wpcFirst (State.wipeTurn forWipe)

/-- The erase in flight ends (R155). One that failed its verify twice leaves the bank's records invalid (log 52). -/
def State.eraseDone (b : Bank) (good wpcFirst : Bool) (s : State) : State :=
  let s1 := s.onSto fun t => { t with records := t.records.eraseBank b good }
  let s2 :=
    if good then s1
    else
      let t := b.records.foldl (fun s r => s.addFaulty r) s1
      (t.notify (.store (.erase b) t.sto.faulty.length)).wipeFailed b.records
  s2.turns (s2.wpc.step == .erasing b) wpcFirst (State.wipeErased b)

end Sys2Proof.Machine
end

