-- ==== Sys2Proof/Machine/Operands.lean ====
section
/-! DEFINITION. The operands of the commands: how a request reaches its owner and what its fields name, the order of its checks, the
settings, and the bytes that the outbound frames carry. -/

namespace Sys2Proof.Machine

/-! ## The executor (R177; log 13) -/

/-- What waits is this request: a frame that spells it, or the request itself. -/
def Waiting.isFor (c : Instr) : Waiting → Bool
  | .frame kind tag payload => spells kind tag payload c
  | .request d => d == c.framed
  | .failed _ _ => false

/-- The executor takes the request from the waiting position into the entry reserved for its reply; with the position
empty, a frame that arrives with an entry free is taken at once (R177, R178). -/
def State.take (c : Instr) (need : Nat) (s : State) : Option State :=
  if s.linkOpen then
    match s.lnk.waiting with
    | none => if need ≤ s.lnk.free then some (s.onLnk fun l => { l with reserved := need }) else none
    | some w =>
      if w.isFor c && need ≤ s.lnk.reserved then some (s.onLnk fun l => { l with waiting := none }) else none
  else none

/-- A request that the executor does not take: it takes the waiting position if that is empty, is dropped with the overrun
flag set if the position holds another frame, and goes on waiting if the position holds it (R177). -/
def State.arrive (c : Instr) (s : State) : State :=
  if s.linkOpen then
    match s.lnk.waiting with
    | none => s.onLnk fun l => { l with waiting := some (.request c.framed) }
    | some w => if w.isFor c then s else s.onLnk fun l => { l with overrun := true }
  else s

/-- The first check that fails gives the result code (R8). -/
def judge : List (Bool × ResultCode) → Option ResultCode
  | [] => none
  | (passes, code) :: rest => if passes then judge rest else some code

/-- A request answered in every threat level (R131). -/
def State.requestAlways (c : Instr) (kind : Byte) (h : Header) (checks : State → List (Bool × ResultCode))
    (act : State → State) (s : State) : Host.Outcome State Fault Refusal :=
  s.occur fun s =>
    match s.take c 1 with
    | some t =>
      match judge (checks t) with
      | some code => t.answer kind h.tag (.plain code)
      | none => act t
    | none => s.arrive c

/-- A request that WIPING answers WIPING before any other check (R131), with the entries its reply needs. A result code that a check
gives is the whole payload, LIST_RANGES' too (log 60). -/
def State.requestOf (need : Nat) (c : Instr) (kind : Byte) (h : Header) (checks : State → List (Bool × ResultCode))
    (act : State → State) (s : State) : Host.Outcome State Fault Refusal :=
  s.occur fun s =>
    match s.take c need with
    | some t =>
      if t.thm.level = .wiping then t.answer kind h.tag (.plain .wiping)
      else
        match judge (checks t) with
        | some code => t.answer kind h.tag (.plain code)
        | none => act t
    | none => s.arrive c

/-- A request whose reply needs one entry. -/
def State.request (c : Instr) (kind : Byte) (h : Header) (checks : State → List (Bool × ResultCode))
    (act : State → State) (s : State) : Host.Outcome State Fault Refusal :=
  s.requestOf 1 c kind h checks act

/-- A reply OK at once. -/
def State.answerOk (kind : Byte) (h : Header) (b : ReplyBody) (s : State) : State :=
  s.answer kind h.tag { result := .ok, body := b }

/-- The request takes the lowest free deferred-reply entry and waits for the writes of records, and for a lock, before
its reply (R9, R180). -/
def State.deferWrites (kind : Byte) (h : Header) (owner : Block) (range : Option RangeIx)
    (rs : List RecordId) (lock : Option RangeIx) (done fault : Reply) (s : State) : State :=
  match s.freeDeferred with
  | some i => s.defer i kind h.tag owner range (.writes (waitsFor rs) lock done fault)
  | none => s.noAnswer

/-! ## Fields -/

/-- The range index a field's number names, at or above the least the request permits, if it names a defined range (R8). -/
def State.named (s : State) (least n : Nat) : Option RangeIx :=
  if h : n < 16 then
    if least ≤ n && s.defined ⟨n, h⟩ then some ⟨n, h⟩ else none
  else none

/-- The user a field's number names (R22). -/
def userAt (n : Nat) : Option AuthIx :=
  match authorityAt n with
  | some a => if isUser a then some a else none
  | none => none

/-- A set of range indices as a list of numbers: distinct, each from `least` to 15, at most `most` (R74, R86). -/
def indexSet (least most : Nat) (l : List Nat) : Bool :=
  decide l.Nodup && l.length ≤ most && l.all fun n => least ≤ n && n ≤ 15

/-- The range indices of a valid set. -/
def toIndices (l : List Nat) : List RangeIx :=
  l.filterMap fun n => if h : n < 16 then some ⟨n, h⟩ else none

/-- A credential of 1 to 64 bytes (R74, R78, R86). -/
def credentialFits (l : List Byte) : Bool := 1 ≤ l.length && l.length ≤ 64

/-- A wipe token of 16 to 32 bytes (R90, R118). -/
def tokenFits (l : List Byte) : Bool := 16 ≤ l.length && l.length ≤ 32

/-- 32 bytes as one number, most significant byte first (R89, R92). -/
def bits256 (l : List Byte) : BitVec 256 :=
  l.foldl (fun a b => (a <<< 8) ||| b.zeroExtend 256) 0

/-- R8's step 2: the range is not concealed from the acting authority. -/
def State.showsTo (s : State) (acting : Nat) (r : Option RangeIx) : Bool :=
  s.adminActs acting || !(r.any fun r => s.concealed r)

/-- The rights of LOCK_RANGE and UNLOCK_RANGE: ADMIN or RESCUE, or a USER holding an envelope for the range (R8). -/
def State.mayLock (s : State) (acting : Nat) (r : Option RangeIx) : Bool :=
  namesAdmin acting ||
    match userAt acting, r with
    | some u, some r => (s.envelopeAt u (.range r)).isSome
    | _, _ => false

/-- The checks of R8 up to the request's own: index, concealment, acting authority, rights. The payload's size is judged with the
request's own arguments, after these (log 47). -/
def State.rangeChecks (s : State) (acting : Nat) (r : Option RangeIx) (rights : Bool) : List (Bool × ResultCode) :=
  [(r.isSome, .badArg), (s.showsTo acting r, .badArg), (s.signedIn acting, .denied), (rights, .denied)]

/-! ## Settings (R163) -/

/-- A number brought within the least and the greatest value of its setting. -/
def clampBetween (least greatest n : Nat) : Nat := max least (min n greatest)

/-- The value a setting takes for a value given; none for an unknown setting id (R163). -/
def clampSetting (id n : Nat) : Option Nat :=
  match id with
  | 1 => some (clampBetween 1 255 n)
  | 2 => some (clampBetween 0 2 n)
  | 3 => some (clampBetween 3 64 n)
  | 4 => some (clampBetween 0 65535 n)
  | 5 => some (clampBetween 16 255 n)
  | 6 => some (clampBetween 10 600 n)
  | 7 | 8 | 9 | 10 | 11 | 12 => some (clampBetween 0 3 n)
  | 13 => some (if n = 0 then 0 else clampBetween 3600 31536000 n)
  | 14 => some (clampBetween 0 3600 n)
  | 15 => some (clampBetween 0 1 n)
  | 16 => some (clampBetween 0 1 n)
  | _ => none

/-- Codes of HALT_POLICY (R163). -/
def haltPolicyOf : Nat → HaltPolicy
  | 0 => .purge
  | 1 => .finish
  | _ => .ignore

/-- Codes of the response settings (R163). -/
def responseOf : Nat → Response
  | 0 => .record
  | 1 => .wary
  | 2 => .alarm
  | _ => .wipe

/-- A setting takes a value within its values (R163). -/
def Policy.put (p : Policy) (id n : Nat) : Policy :=
  match id with
  | 1 => { p with verdictLifetime := n }
  | 2 => { p with haltPolicy := haltPolicyOf n }
  | 3 => { p with failureLimit := n }
  | 4 => { p with tryLimit := n }
  | 5 => { p with workFactor := n }
  | 6 => { p with pairWindow := n }
  | 7 => { p with responseBay := responseOf n }
  | 8 => { p with responseCase := responseOf n }
  | 9 => { p with responsePairing := responseOf n }
  | 10 => { p with responseAbsence := responseOf n }
  | 11 => { p with responseClock := responseOf n }
  | 12 => { p with responseHalt := responseOf n }
  | 13 => { p with absenceLimit := n }
  | 14 => { p with grace := n }
  | 15 => { p with stimulation := n == 1 }
  | 16 => { p with attnMode := if n = 0 then .any else .notice }
  | _ => p

/-- One item of CONFIGURE set in the policy (R163). -/
def Policy.item (p : Policy) (i : SettingItem) : Policy :=
  match clampSetting i.id i.value with
  | some n => p.put i.id n
  | none => p

/-- The items whose value the clamping changed: id, value given, value taken (R163). -/
def clampedItems (items : List SettingItem) : List (Nat × Nat × Nat) :=
  items.filterMap fun i =>
    match clampSetting i.id i.value with
    | some n => if n = i.value then none else some (i.id, i.value, n)
    | none => none

/-- The list of CONFIGURE checked as a whole (R163). -/
def itemsFit (items : List SettingItem) : Bool :=
  1 ≤ items.length && items.length ≤ 16 && items.all (fun i => (clampSetting i.id i.value).isSome) &&
    decide (items.map SettingItem.id).Nodup

/-! ## Bytes of the outbound frames (R175; widths and codes, and the fields taken as optional ones: log 12) -/

/-- A number in `n` bytes, most significant byte first. -/
def be : Nat → Nat → List Byte
  | 0, _ => []
  | n + 1, v => be n (v / 256) ++ [BitVec.ofNat 8 v]

/-- A flag. -/
def flagByte (b : Bool) : List Byte := [if b then 1 else 0]

/-- An optional field behind its presence byte. -/
def optBytes {α : Type} (f : α → List Byte) : Option α → List Byte
  | none => [0]
  | some a => 1 :: f a

/-- A list behind its count. -/
def listBytes {α : Type} (f : α → List Byte) (l : List α) : List Byte :=
  BitVec.ofNat 8 l.length :: l.flatMap f

/-- A result code (R175). -/
def ResultCode.code : ResultCode → Byte
  | .ok => 0x00 | .accepted => 0x01 | .busy => 0x02 | .reject => 0x03 | .denied => 0x04 | .notPaired => 0x05
  | .lockedOut => 0x06 | .disabled => 0x07 | .failed => 0x08 | .threat => 0x09 | .badArg => 0x0A | .noRoom => 0x0B
  | .guarded => 0x0C | .wrongState => 0x0D | .wiping => 0x0E | .stale => 0x0F | .storeFault => 0x10

/-- The code of an enumerated field (log 12). -/
def enumByte (field value : Nat) : List Byte := [Config.enumCode field value]

/-- The code of a field of two values, the one that stands for false first (log 12). -/
def enumFlag (field : Nat) (b : Bool) : List Byte := enumByte field (if b then 1 else 0)

def frameReasonIx : FrameReason → Nat
  | .badStart => 0 | .badLength => 1 | .badSize => 2 | .badCheck => 3 | .partialPeriod => 4

def Lifecycle.ix : Lifecycle → Nat
  | .unprovisioned => 0 | .provisioned => 1 | .wiped => 2

def ResetCause.ix : ResetCause → Nat
  | .cold => 0 | .linkHeld => 1 | .restart => 2

def guardModeIx : GuardMode → Nat
  | .opened => 0 | .strap => 1 | .fixed => 2

def Power.ix : Power → Nat
  | .unpowered => 0 | .starting => 1 | .active => 2 | .standby => 3

def EngineState.ix : EngineState → Nat
  | .idle => 0 | .charging => 1 | .deriving_ => 2 | .finishing => 3

def Quality.ix : Quality → Nat
  | .uncalibrated => 0 | .true_ => 1 | .holdover => 2

def KeyState.ix : KeyState → Nat
  | .keyed => 0 | .erased => 1

def LockState.ix : LockState → Nat
  | .opened => 0 | .readOnly => 1 | .locking => 2 | .locked => 3

def WaitReason.ix : WaitReason → Nat
  | .loading => 0 | .slotsPinned => 1 | .verdictsFull => 2

def SlotState.ix : SlotState → Nat
  | .empty => 0 | .loading => 1 | .loaded => 2 | .clearing => 3 | .unknown => 4

def LaneOp.ix : LaneOp → Nat
  | .load => 0 | .clear => 1

def LaneFault.ix : LaneFault → Nat
  | .clearBad => 0 | .loadBad => 1 | .ackTimeout => 2 | .syncError => 3

/-- The codes of HALT_POLICY (R163). -/
def HaltPolicy.ix : HaltPolicy → Nat
  | .purge => 0 | .finish => 1 | .ignore => 2

def AbsenceState.ix : AbsenceState → Nat
  | .off => 0 | .armed => 1 | .fired => 2

def Settled.ix : Settled → Nat
  | .opened => 0 | .closed => 1 | .unsettled => 2

def ClockCause.ix : ClockCause → Nat
  | .crystalLost => 0 | .calibrated => 1 | .calibrationBand => 2 | .uncalibrated => 3 | .start => 4

def Bank.ix : Bank → Nat
  | .k0 => 0 | .k1 => 1 | .k2 => 2 | .k3 => 3

def WipeReport.ix : WipeReport → Nat
  | .entry => 0 | .erasing => 1 | .rewriting => 2 | .complete => 3

def VoidCause.ix : VoidCause → Nat
  | .laneFault _ => 0 | .alarm => 1 | .wiping => 2 | .halt => 3 | .rekey => 4

def ThreatCause.ix : ThreatCause → Nat
  | .trigger k => (kindIx k).val | .grace => 8 | .signIn => 9 | .wipeComplete => 10 | .start => 11

/-- A record's name and index, 2 bytes (R182). -/
def RecordId.bytes : RecordId → List Byte
  | .identity => enumByte 20 0 ++ [0]
  | .guard => enumByte 20 1 ++ [0]
  | .policy => enumByte 20 2 ++ [0]
  | .pairing => enumByte 20 3 ++ [0]
  | .counters => enumByte 20 4 ++ [0]
  | .authority a => enumByte 20 5 ++ be 1 a.val
  | .range r => enumByte 20 6 ++ be 1 r.val
  | .rangeKey r => enumByte 20 7 ++ be 1 r.val
  | .envelope p => enumByte 20 8 ++ be 1 p.val
  | .capture i => enumByte 20 9 ++ be 1 i.val

def Level.bytes (l : Level) : List Byte := enumByte 0 l.rank
def Lifecycle.bytes (l : Lifecycle) : List Byte := enumByte 1 l.ix
def Quality.bytes (q : Quality) : List Byte := enumByte 6 q.ix
def Bank.bytes (b : Bank) : List Byte := enumByte 15 b.ix
def flagsBytes (f : RangeFlags) : List Byte :=
  flagByte f.lockEnabled ++ flagByte f.conceal ++ flagByte f.concealOnWary ++ flagByte f.lockOnStandby

/-- The fields that a captured record has; its field captured stands before them, as their presence byte (R111; log 12). -/
def Capture.bytes (c : Capture) : List Byte :=
  be 4 c.psc ++ be 2 c.tick ++ c.quality.bytes ++ c.before.bytes ++ be 1 c.count

/-- The crystal supervisor's state (R151). -/
def Supervisor.bytes : Supervisor → List Byte
  | .confirming n => enumByte 7 0 ++ optBytes (be 2) (some (min n 32767))
  | .confirmed => enumByte 7 1 ++ optBytes (be 2) none
  | .inUse => enumByte 7 2 ++ optBytes (be 2) none

/-- The name and index of an occupant (R68). -/
def Occupant.bytes (o : Occupant) : List Byte := be 1 o.range.val ++ be 2 o.generation

/-- The place of a disposition in R34's order. -/
def Disposition.ix : Disposition → Nat
  | .pass _ => 0 | .wait _ => 1 | .deny => 2 | .blank => 3 | .void => 4 | .beyond => 5

/-- The slot that a PASS names (R40). -/
def Disposition.slot : Disposition → Option SlotIx
  | .pass i => some i
  | .wait _ | .deny | .blank | .void | .beyond => none

/-- The reason that a WAIT names (R40). -/
def Disposition.reason : Disposition → Option WaitReason
  | .wait r => some r
  | .pass _ | .deny | .blank | .void | .beyond => none

/-- A segment of the RESOLVE reply (R40): slot and reason, each of which one disposition alone has, are optional fields. -/
def Segment.bytes (g : Segment) : List Byte :=
  be 6 g.first ++ be 3 g.count ++ optBytes (fun r : RangeIx => be 1 r.val) g.range ++
    enumByte 8 g.disposition.ix ++ optBytes (fun i : SlotIx => be 1 i.val) g.disposition.slot ++
    optBytes (fun r : WaitReason => enumByte 9 r.ix) g.disposition.reason

/-- An entry of the LIST_RANGES reply (R14). -/
def ListedRange.bytes (e : ListedRange) : List Byte :=
  be 1 e.index.val ++ optBytes (fun g : Geometry => be 6 g.start ++ be 6 g.length) e.geometry ++ flagsBytes e.flags ++
    enumByte 10 e.keyState.ix ++ be 2 e.generation ++ enumByte 11 e.lock.ix ++
    optBytes (fun i : SlotIx => be 1 i.val) e.slot ++ flagByte e.concealed

/-- A slot's entry of the READ_SLOTS reply (R68), the concealed mark behind the two occupants it hides (log 12). -/
def ListedSlot.bytes (e : ListedSlot) : List Byte :=
  enumByte 12 e.state.ix ++ optBytes Occupant.bytes e.occupant ++ optBytes Occupant.bytes e.next ++
    flagByte e.concealed ++ be 1 e.pins ++ be 6 e.lastUse

/-- What a range of a grant set came to (R87), by R175's result codes; a position stands behind the code of OK (log 12). -/
def GrantResult.bytes : GrantResult → List Byte
  | .position p => ResultCode.ok.code :: optBytes (be 1) (some p.val)
  | .noRoom => ResultCode.noRoom.code :: optBytes (be 1) none
  | .wrongState => ResultCode.wrongState.code :: optBytes (be 1) none

/-- The fields of a reply, in the order its rule lists them. The means of a WIPE's authorization, the judgment beside the last measured
M, a deferred reply's state and HALT's level are enumerated fields without codes in the spec (log 12); the part field of LIST_RANGES is
two bytes, the part and the total (log 60). -/
def ReplyBody.bytes : ReplyBody → List Byte
  | .empty => []
  | .rejected reason => enumByte 2 (frameReasonIx reason)
  | .unknownKind kind => [kind]
  | .identify serial capacity visible lifecycle cause guard overlay faulty =>
    be 8 serial.toNat ++ be 6 capacity ++ be 6 visible ++ lifecycle.bytes ++ enumByte 3 cause.ix ++
      enumByte 4 (guardModeIx guard) ++ flagByte overlay ++ listBytes RecordId.bytes faulty
  | .status power level lifecycle mapGen overrun outbound pendingSet deferred engine busy dirty =>
    enumByte 5 power.ix ++ level.bytes ++ lifecycle.bytes ++ be 4 mapGen ++ flagByte overrun ++ be 1 outbound ++
      be 1 pendingSet ++ listBytes (fun d : Byte × Byte × Bool => [d.1, d.2.1] ++ enumFlag 37 d.2.2) deferred ++
      enumByte 14 engine.ix ++ flagByte busy ++ be 1 dirty
  | .time psc seconds tick quality crystal accepted measured divisor stimulation =>
    be 4 psc ++ be 5 seconds ++ be 2 tick ++ quality.bytes ++ crystal.bytes ++ optBytes (be 2) accepted ++
      optBytes (fun m : Nat × Bool => be 2 m.1 ++ enumFlag 36 m.2) measured ++ be 2 divisor ++ flagByte stimulation
  | .configured clamped =>
    listBytes (fun c : Nat × Nat × Nat => be 1 c.1 ++ be 4 c.2.1 ++ be 4 c.2.2) clamped
  | .frozen mode overlay => enumByte 4 (guardModeIx mode) ++ flagByte overlay
  | .guardMode mode => enumByte 4 (guardModeIx mode)
  | .provisioned lifecycle generations =>
    lifecycle.bytes ++ listBytes (fun g : RangeIx × Nat => be 1 g.1.val ++ be 2 g.2) generations
  | .signedIn authority level opened failed domainKey =>
    be 1 authority.val ++ level.bytes ++ listBytes (fun r : RangeIx => be 1 r.val) opened ++
      listBytes (fun r : RangeIx => be 1 r.val) failed ++ optBytes flagByte domainKey
  | .attemptFailed failures limit delay disabled =>
    be 1 failures ++ be 1 limit ++ be 2 delay ++ flagByte disabled
  | .lockedOut seconds => be 2 seconds
  | .granted results => listBytes GrantResult.bytes results
  | .nonce draw => be 16 (Config.nonceBits draw).toNat
  | .rangeDefined index generation => be 1 index.val ++ be 2 generation
  | .rekeyed generation => be 2 generation
  | .ranges part total mapGen visible entries =>
    be 1 part ++ be 1 total ++ be 4 mapGen ++ be 6 visible ++ listBytes ListedRange.bytes entries
  | .lockState lock => enumByte 11 lock.ix
  | .position p => optBytes (fun q : EnvIx => be 1 q.val) p
  | .resolved mapGen id lifetime resume segments =>
    be 4 mapGen ++ be 2 id ++ optBytes (be 1) lifetime ++ optBytes (be 6) resume ++ listBytes Segment.bytes segments
  | .released results => listBytes (fun b : Bool => [(if b then ResultCode.ok else ResultCode.stale).code]) results
  | .slots mapGen lane held purging policy badRun queue entries =>
    be 4 mapGen ++ enumByte 16 lane ++ flagByte held ++ flagByte purging ++ be 1 policy.ix ++ be 1 badRun ++
      listBytes (fun q : LaneOp × SlotIx => enumByte 18 q.1.ix ++ be 1 q.2.val) queue ++ listBytes ListedSlot.bytes entries
  | .captures level grace remaining psc lastSignIn absence bay caseSw halt records =>
    level.bytes ++ optBytes (be 5) grace ++ optBytes (be 5) remaining ++ be 4 psc ++ be 4 lastSignIn ++
      enumByte 19 absence.ix ++ enumByte 21 bay.ix ++ enumByte 21 caseSw.ix ++ enumFlag 38 halt ++
      listBytes (optBytes Capture.bytes) records
  | .wipeAccepted byToken => enumFlag 35 byToken
  | .fault about =>
    match about with
    | .range r => optBytes (be 1) (some r.val) ++ optBytes (be 1) none
    | .envelope p => optBytes (be 1) none ++ optBytes (be 1) (some p.val)
    | .none => optBytes (be 1) none ++ optBytes (be 1) none

/-- A reply's payload begins with its result code (R175). -/
def Reply.bytes (r : Reply) : List Byte := r.result.code :: r.body.bytes

/-- The place of an operation in R126's order. -/
def WipeLast.ix : WipeLast → Nat
  | .entry => 0 | .erased _ => 1 | .progress => 2 | .group _ => 3 | .final => 4

/-- The bank that an erase names (R126). -/
def WipeLast.bankErased : WipeLast → Option Bank
  | .erased b => some b
  | .entry | .progress | .group _ | .final => none

/-- The group that a rewrite names (R126). -/
def WipeLast.groupWritten : WipeLast → Option RewriteGroup
  | .group g => some g
  | .entry | .erased _ | .progress | .final => none

def RewriteGroup.bytes : RewriteGroup → List Byte
  | .rangeKeys => enumByte 28 0
  | .authorities => enumByte 28 1
  | .pairing => enumByte 28 2

/-- A notice's payload. A field that only some values of another give is an optional field, absent otherwise, and so is a WIPE notice's last
item, absent before an operation of the wipe has completed (R126, R175; log 12). -/
def Notice.bytes : Notice → List Byte
  | .threat level previous cause authority grace mapGen =>
    level.bytes ++ previous.bytes ++ enumByte 23 cause.ix ++ optBytes (fun a : AuthIx => be 1 a.val) authority ++
      optBytes (fun g : Nat × Nat => be 5 g.1 ++ be 4 g.2) grace ++ be 4 mapGen
  | .void mapGen cause =>
    be 4 mapGen ++ enumByte 24 cause.ix ++
      match cause with
      | .laneFault f => 1 :: enumByte 25 f.ix
      | .alarm | .wiping | .halt | .rekey => [0]
  | .wipe phase last next resumed faulty =>
    enumByte 26 phase.ix ++
      optBytes (fun l : WipeLast => enumByte 27 l.ix ++ optBytes Bank.bytes l.bankErased ++ optBytes RewriteGroup.bytes l.groupWritten) last ++
      optBytes Bank.bytes next ++ flagByte resumed ++ be 1 faulty
  | .clock quality previous cause measured accepted divisor psc uptime =>
    quality.bytes ++ previous.bytes ++ enumByte 29 cause.ix ++ optBytes (be 2) measured ++ optBytes (be 2) accepted ++
      be 2 divisor ++ be 4 psc ++ be 6 uptime
  | .capture kind record => enumByte 30 (kindIx kind).val ++ optBytes Capture.bytes (some record)
  | .store report faulty =>
    (match report with
      | .write r => enumByte 31 0 ++ optBytes RecordId.bytes (some r) ++ optBytes Bank.bytes none
      | .erase b => enumByte 31 1 ++ optBytes RecordId.bytes none ++ optBytes Bank.bytes (some b)) ++ be 1 faulty

/-- The kind of a notice, D1h to D6h (R175). -/
def Notice.kind (n : Notice) : Byte := 0xD1 + BitVec.ofNat 8 n.rank

/-- The bytes of an outbound frame; a notice's tag is 0 (R175). -/
def OutFrame.bytes : OutFrame → List Byte
  | .reply kind tag r => frameBytes kind tag r.bytes
  | .notice n => frameBytes n.kind 0 n.bytes

/-! ## The parts of LIST_RANGES (R177) -/

/-- How many entries, from the first, fit in `room` bytes; no entry is split. -/
def entriesThatFit : Nat → List ListedRange → Nat
  | _, [] => 0
  | room, e :: l => if e.bytes.length ≤ room then 1 + entriesThatFit (room - e.bytes.length) l else 0

/-- The reply of LIST_RANGES in one part or two (R177): a payload holds at most 240 bytes, 14 of them before the
entries. -/
def listParts (mapGen visible : Nat) (entries : List ListedRange) : List Reply :=
  let n := entriesThatFit 226 entries
  if entries.length ≤ n then [{ result := .ok, body := .ranges 1 1 mapGen visible entries }]
  else
    [{ result := .ok, body := .ranges 1 2 mapGen visible (entries.take n) },
      { result := .ok, body := .ranges 2 2 mapGen visible (entries.drop n) }]

end Sys2Proof.Machine
end

