-- ==== Sys2Proof/Machine/Authority.lean ====
section
/-! DEFINITION. The authority family: PROVISION, sign-in and its completion, credentials, disabling and pairing. -/

namespace Sys2Proof.Machine

/-- The derivation engine is IDLE (R76). -/
def Engine.isIdle : Engine → Bool
  | .idle => true
  | .charging _ _ => false
  | .deriving_ _ => false
  | .finishing _ _ _ => false

/-- A job takes the engine and the lowest free deferred-reply entry (R76, R180). -/
def State.takeEngine (kind : Byte) (h : Header) (e : Engine) (s : State) : State :=
  match s.freeDeferred with
  | some i => (s.defer i kind h.tag .aut none .engine).onAut fun a => { a with engine := e }
  | none => s.noAnswer

/-- PROVISION (R74): the engine takes the ADMIN derivation, at the WORK_FACTOR as it stands. -/
def execProvision (h : Header) (admin : List Byte) (rescue : Option (List Byte)) (adminSet rescueSet : List Nat)
    (s : State) : Host.Outcome State Fault Refusal :=
  s.request (.provision h admin rescue adminSet rescueSet) 0x10 h
    (fun s =>
      [(s.aut.lifecycle != .provisioned, .wrongState),
        (h.sized && credentialFits admin && rescue.all credentialFits && (rescue.isSome || rescueSet.isEmpty) &&
          indexSet 0 16 adminSet && indexSet 0 16 rescueSet, .badArg),
        (s.aut.engine.isIdle, .busy), (s.freeDeferred.isSome, .busy)])
    fun s => s.takeEngine 0x10 h (.deriving_ (.provision
      { admin := admin, rescue := rescue, adminSet := toIndices adminSet, rescueSet := toIndices rescueSet
        factor := s.sto.policy.workFactor, adminDone := false }))

/-- Check 5 of R78. -/
def State.pairingPasses (s : State) (a : AuthIx) : Bool := s.aut.secret.isNone || s.aut.paired || a == 7

/-- What remains of an authority's backoff, in ticks, where the uptime is before its deadline (R78). -/
def State.backoffLeft (s : State) (a : AuthIx) : Option Nat :=
  (s.deadline (.backoff a)).bind fun due => if s.tmb.uptime < due then some (due - s.tmb.uptime) else none

/-- Ticks as seconds, rounded up (R78). -/
def secondsUp (ticks : Nat) : Nat := ticks / 1024 + if ticks % 1024 = 0 then 0 else 1

/-- The attempt charge (R79). -/
def State.charge (h : Header) (a : AuthIx) (credential : List Byte) (s : State) : State :=
  let s1 := (s.onAuthority a fun k => { k with failures := min (k.failures + 1) 255 }).onAut fun t =>
    { t with tryCount := min (t.tryCount + 1) 65535 }
  (s1.takeEngine 0x11 h (.charging (.authenticate a credential) (waitsFor [.authority a, .counters]))).markAll
    [.authority a, .counters]

/-- AUTHENTICATE past check 5 of R78: backoff, engine, entry, charge. -/
def State.attempt (h : Header) (a : AuthIx) (credential : List Byte) (s : State) : State :=
  match s.backoffLeft a with
  | some ticks => s.answer 0x11 h.tag { result := .lockedOut, body := .lockedOut (secondsUp ticks) }
  | none =>
    if s.aut.engine.isIdle && s.freeDeferred.isSome then s.charge h a credential
    else s.answer 0x11 h.tag (.plain .busy)

/-- Checks 1 to 5 of R78. -/
def State.signInChecks (s : State) (a : AuthIx) : List (Bool × ResultCode) :=
  [(s.aut.lifecycle == .provisioned, .wrongState), (s.thm.level != .alarm || isAdmin a, .denied),
    ((s.aut.auth.get a).kept.enabled, .disabled), (!(s.aut.auth.get a).signedIn, .wrongState),
    (s.pairingPasses a, .notPaired)]

/-- AUTHENTICATE (R78). -/
def execAuthenticate (h : Header) (authority : Nat) (credential : List Byte) (s : State) :
    Host.Outcome State Fault Refusal :=
  s.request (.authenticate h authority credential) 0x11 h
    (fun s => match authorityAt authority with
      | some a => (h.sized && credentialFits credential, .badArg) :: s.signInChecks a
      | none => [(false, .badArg)])
    fun s => match authorityAt authority with
      | some a => s.attempt h a credential
      | none => s.noAnswer

/-- SIGN_OUT (R85). -/
def execSignOut (h : Header) (authority : Nat) (s : State) : Host.Outcome State Fault Refusal :=
  s.request (.signOut h authority) 0x12 h (fun _ => [(h.sized && (authorityAt authority).isSome, .badArg)]) fun s =>
    (match authorityAt authority with
      | some a => if (s.aut.auth.get a).signedIn then s.leaveSet a else s
      | none => s).answerOk 0x12 h .empty

/-- SET_CREDENTIAL (R86): the engine derives under a fresh salt and the WORK_FACTOR as it stands. -/
def execSetCredential (h : Header) (acting user : Nat) (credential : List Byte) (grantSet startupSet : List Nat)
    (s : State) : Host.Outcome State Fault Refusal :=
  s.request (.setCredential h acting user credential grantSet startupSet) 0x13 h
    (fun s =>
      [(s.signedIn acting, .denied), (namesAdmin acting, .denied),
        (h.sized && (userAt user).isSome && credentialFits credential && indexSet 1 15 grantSet &&
          indexSet 0 16 startupSet, .badArg),
        (s.aut.engine.isIdle, .busy), (s.freeDeferred.isSome, .busy)])
    fun s => match userAt user with
      | some u =>
        s.draw.takeEngine 0x13 h (.deriving_ (.setCredential u credential s.model.draws s.sto.policy.workFactor
          (toIndices grantSet) (toIndices startupSet)))
      | none => s.noAnswer

/-- DISABLE_AUTHORITY aborts a job of its target (R77, R88). -/
def State.abortJobOf (t : AuthIx) (s : State) : State :=
  match s.aut.engine.job with
  | some (.authenticate a _) => if a = t then s.abortJob (.plain .disabled) else s
  | some (.setCredential u _ _ _ _ _) => if u = t then s.abortJob (.plain .denied) else s
  | some (.provision _) => s
  | none => s

/-- DISABLE_AUTHORITY past its checks of the fields (R88). A target already disabled needs no entry, and a SET_CREDENTIAL that derives for
it goes on (log 50). -/
def State.disable (h : Header) (t : AuthIx) (s : State) : State :=
  if !(s.aut.auth.get t).kept.enabled then s.answerOk 0x14 h .empty
  else if s.freeDeferred.isNone then s.answer 0x14 h.tag (.plain .busy)
  else
    let s1 := (s.abortJobOf t).onAuthority t fun k => { k with enabled := false }
    let s2 := if (s1.aut.auth.get t).signedIn then s1.leaveSet t else s1
    (s2.deferWrites 0x14 h .aut none [.authority t] none (.plain .ok) (storeFault .none)).mark (.authority t)

/-- DISABLE_AUTHORITY (R88). -/
def execDisableAuthority (h : Header) (acting target : Nat) (s : State) : Host.Outcome State Fault Refusal :=
  s.request (.disableAuthority h acting target) 0x14 h
    (fun s =>
      [(s.signedIn acting, .denied), (namesAdmin acting, .denied),
        (h.sized && 1 ≤ target && target ≤ 7 && target != acting, .badArg), (target != 7 || acting == 0, .denied)])
    fun s => match authorityAt target with
      | some t => s.disable h t
      | none => s.noAnswer

/-- PAIR_CHALLENGE (R92): a fresh nonce replaces any held. -/
def execPairChallenge (h : Header) (s : State) : Host.Outcome State Fault Refusal :=
  s.request (.pairChallenge h) 0x17 h (fun s => [(h.sized, .badArg), (s.aut.secret.isSome, .wrongState)]) fun s =>
    ((s.draw.onAut fun a => { a with nonce := some s.model.draws }).answerOk 0x17 h (.nonce s.model.draws))

/-- The proof matches the keyed digest of the nonce under the secret (R92; log 11). -/
def proofMatches (secret : Option (BitVec 256)) (nonce : Option Nat) (proof : List Byte) : Bool :=
  match secret, nonce with
  | some k, some n => bits256 proof == Config.pairingDigest k (Config.nonceBits n)
  | _, _ => false

/-- PAIR_PROVE (R92): the nonce is consumed whatever the outcome. -/
def execPairProve (h : Header) (proof : List Byte) (s : State) : Host.Outcome State Fault Refusal :=
  s.request (.pairProve h proof) 0x18 h
    (fun s =>
      [(s.aut.secret.isSome, .wrongState), (h.sized && proof.length = 32, .badArg), (s.aut.nonce.isSome, .wrongState)])
    fun s =>
      let t := s.onAut fun a => { a with nonce := none }
      if proofMatches s.aut.secret s.aut.nonce proof then
        ((t.onAut fun a => { a with paired := true }).cancel .pairing).answerOk 0x18 h .empty
      else (t.answer 0x18 h.tag (.plain .failed)).raiseTrigger .pairing

/-- SET_PAIRING (R90): replaces the PAIRING record whole. -/
def execSetPairing (h : Header) (acting : Nat) (secret token : Option (List Byte)) (s : State) :
    Host.Outcome State Fault Refusal :=
  s.request (.setPairing h acting secret token) 0x19 h
    (fun s =>
      [(s.signedIn acting, .denied), (namesAdmin acting, .denied), (s.guardPasses h.strap, .guarded),
        (h.sized && secret.all (fun l => l.length = 32) && token.all tokenFits, .badArg),
        (s.freeDeferred.isSome, .busy)])
    fun s =>
      let s1 := (s.onAut fun a =>
        { a with
          secret := secret.map bits256, token := token.map fun l => { token := l }, nonce := none
          paired := a.paired || secret.isSome }).withdraw .pairing
      (s1.deferWrites 0x19 h .aut none [.pairing] none (.plain .ok) (storeFault .none)).mark .pairing

/-! ## DERIVATION_COMPLETE (R80 to R83, R87) -/

/-- What a sign-in has opened so far: the state, the ranges opened, and those whose unwrap failed (R81). -/
structure Opening where
  state : State
  opened : List RangeIx
  failed : List RangeIx

/-- A range that a start-up set opens: defined, KEYED, `lock_enabled`, LOCKED or READ_ONLY (R81). -/
def State.startsUp (s : State) (r : RangeIx) : Bool :=
  let e := s.rmg.ranges.get r
  s.defined r && e.keyState == .keyed && e.flags.lockEnabled && (e.lock == .locked || e.lock == .readOnly)

/-- One range of a start-up set, opened with the key its wrap yields under a key (R81). -/
def openStartup (wrapOf : RangeIx → Option Wrapped) (under : Key) (o : Opening) (r : RangeIx) : Opening :=
  if o.state.startsUp r then
    match unwrap (wrapOf r) (some under) with
    | some k => { o with state := o.state.openWith r k .opened, opened := o.opened ++ [r] }
    | none => { o with failed := o.failed ++ [r] }
  else o

/-- The ranges of an authority's start-up set, ascending (R81). -/
def State.startupSet (s : State) (a : AuthIx) : List RangeIx :=
  (List.finRange 16).filter fun r => (s.aut.auth.get a).kept.startup.contains r

/-- The sign-in's refund and its place in the signed-in set (R80, R102). -/
def State.joinSet (a : AuthIx) (s : State) : State :=
  ((((s.onAuthority a fun k => { k with failures := 0 }).onAut fun t =>
    { t with tryCount := 0, lastSignIn := s.pscNow, engine := .idle }).withdraw (.backoff a)).setSignedIn a true).onThm
    fun t => { t with armed := true }

/-- The level falls from WARY or ALARM to CALM at an admin sign-in, and ranges with `lock_enabled` false open, or fail to
(R16, R81, R107). -/
def State.returnToCalm (a : AuthIx) (s : State) : Opening :=
  if s.thm.level = .wary || s.thm.level = .alarm then
    let calm := s.clearGrace.setLevel .calm .signIn (some a)
    let acc := (List.finRange 16).foldl (openPlainStep LockState.isLocked) (calm, [])
    { state := acc.1, opened := acc.2
      failed := (List.finRange 16).filter fun r =>
        calm.opensPlain LockState.isLocked r && (unwrap (calm.rmg.ranges.get r).deviceWrap (some .device)).isNone }
  else { state := s, opened := [], failed := [] }

/-- What ADMIN's or RESCUE's sign-in opens, in its order (R81). -/
def State.openForAdmin (a : AuthIx) (kek : Key) (s : State) : Opening :=
  let domain := unwrap (s.envelopeWrap a .domain) (some kek)
  let s1 := match domain with
    | some k => s.onRmg fun m => { m with domainKey := some k }
    | none => s
  let calm := s1.returnToCalm a
  match domain with
  | some k => (calm.state.startupSet a).foldl (openStartup (fun r => (calm.state.rmg.ranges.get r).domainWrap) k) calm
  | none => calm

/-- A range that WARY makes a user's sign-in skip (R81). -/
def State.skipped (s : State) (r : RangeIx) : Bool :=
  s.thm.level == .wary && (s.rmg.ranges.get r).flags.concealOnWary

/-- What a USER's sign-in opens: ranges for which the user holds an envelope (R81). -/
def State.openForUser (a : AuthIx) (kek : Key) (s : State) : Opening :=
  let s1 := s.onRmg fun m => { m with keks := m.keks.set a (some kek) }
  ((s1.startupSet a).filter fun r => !(s1.skipped r) && (s1.envelopeAt a (.range r)).isSome).foldl
    (openStartup (fun r => s1.envelopeWrap a (.range r)) kek) { state := s1, opened := [], failed := [] }

/-- A successful sign-in (R80, R81, R107). -/
def State.signIn (a : AuthIx) (kek : Key) (s : State) : State :=
  let s1 := s.joinSet a
  let o := if isAdmin a then s1.openForAdmin a kek else s1.openForUser a kek
  let s2 := o.state.eagerLoads o.opened
  let changed := s2.thm.level != s.thm.level
  let s3 := if changed || !o.opened.isEmpty then s2.bump else s2
  let s4 := if changed then s3.threatNotice s.thm.level .signIn (some a) else s3
  let domainKey := if isAdmin a then some s4.rmg.domainKey.isSome else none
  let opened := (List.finRange 16).filter fun r => o.opened.contains r
  let failed := (List.finRange 16).filter fun r => o.failed.contains r
  (s4.answerJob { result := .ok, body := .signedIn a s4.thm.level opened failed domainKey }).markAll
    [.authority a, .counters]

/-- A failed attempt with its thresholds (R82, R83). The FAILED reply is placed before BUDGET is raised. -/
def State.attemptFailed (a : AuthIx) (s : State) : State :=
  let s1 := ((s.onAut fun t => { t with engine := .idle }).setBackoff a).disableAtLimit a
  let k := (s1.aut.auth.get a).kept
  let s2 := s1.answerJob
    { result := .failed, body := .attemptFailed k.failures k.limit (delay k.failures) (!k.enabled) }
  if s2.adminAtLimit a || s2.overBudget then s2.raiseTrigger .budget else s2

/-- The derivation of an AUTHENTICATE completes (R80, R82). -/
def State.authenticated (a : AuthIx) (credential : List Byte) (s : State) : State :=
  match (s.aut.auth.get a).kept.credential with
  | some c =>
    if c.verifier = { credential := credential, salt := c.salt, factor := c.factor } then
      s.signIn a (.kek credential c.salt c.factor)
    else s.attemptFailed a
  | none => s.attemptFailed a

/-- What a grant set has come to so far (R87). -/
structure Granting where
  state : State
  placed : List EnvIx
  results : List GrantResult

/-- One range of a grant set (R87; a key that cannot be had is recorded WRONG_STATE, log 20). -/
def grantOne (u : AuthIx) (kek : Key) (g : Granting) (r : RangeIx) : Granting :=
  if g.state.defined r && (g.state.rmg.ranges.get r).keyState == .keyed then
    match g.state.keyOf r, g.state.emptyPosition with
    | some k, some p =>
      { state := g.state.putEnvelope p { authority := u, target := .range r, wrapped := wrapped kek k }
        placed := g.placed ++ [p], results := g.results ++ [.position p] }
    | some _, none => { g with results := g.results ++ [.noRoom] }
    | none, _ => { g with results := g.results ++ [.wrongState] }
  else { g with results := g.results ++ [.wrongState] }

/-- SET_CREDENTIAL's job goes on to wait for its writes (R87). -/
def State.jobWaits (rs : List RecordId) (done fault : Reply) (s : State) : State :=
  s.onLnk (Lnk.onWork fun w => match w with
    | .engine => .working (.writes (waitsFor rs) none done fault)
    | w => .working w)

/-- The derivation of a SET_CREDENTIAL completes (R87). Without a cached domain key the answer is DENIED, also where an admin is still signed
in whose domain envelope gave none (log 20). -/
def State.credentialSet (u : AuthIx) (credential : List Byte) (salt factor : Nat) (grantSet startup : List RangeIx)
    (s : State) : State :=
  let idle := s.onAut fun a => { a with engine := .idle }
  if s.rmg.domainKey.isNone then idle.answerJob (.plain .denied)
  else
    let gone := s.envelopesWhere fun e => e.authority == u
    let s1 := idle.deleteEnvelopes gone
    let s2 := if (s1.aut.auth.get u).signedIn then s1.leaveSet u else s1
    let s3 := (s2.onAuthority u fun _ =>
      { enabled := true, failures := 0, limit := s.sto.policy.failureLimit, startup := startup
        credential :=
          some { salt := salt, factor := factor
                 verifier := { credential := credential, salt := salt, factor := factor } } }).withdraw (.backoff u)
    let g := grantSet.foldl (grantOne u (.kek credential salt factor)) { state := s3, placed := [], results := [] }
    let records := gone.map RecordId.envelope ++ [.authority u] ++
      (g.placed.filter fun p => !(gone.contains p)).map RecordId.envelope
    (g.state.jobWaits records { result := .ok, body := .granted g.results } (storeFault .none)).markAll records

/-- A derivation of PROVISION completes: the RESCUE derivation follows the ADMIN one (R74, R75). -/
def State.provisionDerived (p : ProvisionJob) (s : State) : State :=
  if p.rescue.isSome && !p.adminDone then
    s.onAut fun a => { a with engine := .deriving_ (.provision { p with adminDone := true }) }
  else s.provisionAuthorities p

/-- DERIVATION_COMPLETE (R76). -/
def execDerivationComplete (s : State) : Host.Outcome State Fault Refusal :=
  s.occur fun s =>
    match s.aut.engine with
    | .deriving_ (.authenticate a credential) => s.authenticated a credential
    | .deriving_ (.setCredential u credential salt factor grantSet startup) =>
      s.credentialSet u credential salt factor grantSet startup
    | .deriving_ (.provision p) => s.provisionDerived p
    | .idle => s
    | .charging _ _ => s
    | .finishing _ _ _ => s

/-- BACKOFF_EXPIRY (R82): the backoff ends. -/
def execBackoffExpiry (authority : Nat) (s : State) : Host.Outcome State Fault Refusal :=
  s.occur fun s =>
    match authorityAt authority with
    | some a =>
      match s.takeFallen (.backoff a) with
      | some (t, _) => t
      | none => s
    | none => s

/-- PAIRING_WINDOW_EXPIRY (R91). -/
def execPairingWindowExpiry (s : State) : Host.Outcome State Fault Refusal :=
  s.occur fun s =>
    match s.takeFallen .pairing with
    | some (t, _) => (t.onAut fun a => { a with nonce := none }).raiseTrigger .pairing
    | none => s

end Sys2Proof.Machine
end

