-- ==== Sys2Proof/Machine/Guard.lean ====
section
/-! DEFINITION. The guard family: CONFIGURE, FREEZE and SET_GUARD. -/

namespace Sys2Proof.Machine

/-- ADMIN acts and is signed in (R114, R162, R163). -/
def State.adminItself (s : State) (acting : Nat) : Bool := acting = 0 && s.signedIn acting

/-- R147's other two conditions: HOLDOVER, and the supervisor CONFIRMING. -/
def State.mayStimulate (s : State) : Bool :=
  s.tmb.quality == .holdover &&
    match s.tmb.supervisor with
    | .confirming _ => true
    | .confirmed => false
    | .inUse => false

/-- A change of STIMULATION enters or withdraws the stimulation deadline (R147). -/
def State.stimulationChanged (old : Bool) (s : State) : State :=
  match old, s.sto.policy.stimulation with
  | false, true => if s.mayStimulate then s.enter .stimulation (s.tmb.uptime + 1024) else s
  | true, false => s.withdraw .stimulation
  | true, true => s
  | false, false => s

/-- CONFIGURE accepted (R163). -/
def State.configure (h : Header) (items : List SettingItem) (s : State) : State :=
  let old := s.sto.policy.stimulation
  let s1 := s.onSto fun t => { t with policy := items.foldl Policy.item t.policy }
  let s2 := s1.deferWrites 0x04 h .sto none [.policy] none
    { result := .ok, body := .configured (clampedItems items) } (storeFault .none)
  (s2.stimulationChanged old).mark .policy

/-- CONFIGURE (R163). -/
def execConfigure (h : Header) (acting : Nat) (items : List SettingItem) (s : State) :
    Host.Outcome State Fault Refusal :=
  s.request (.configure h acting items) 0x04 h
    (fun s =>
      [(s.adminItself acting, .denied), (s.guardPasses h.strap, .guarded), (h.sized && itemsFit items, .badArg),
        (s.freeDeferred.isSome, .busy)])
    (State.configure h items)

/-- FREEZE (R161): under FIXED the overlay is left as it stands. -/
def execFreeze (h : Header) (s : State) : Host.Outcome State Fault Refusal :=
  s.request (.freeze h) 0x05 h (fun _ => [(h.sized, .badArg)]) fun s =>
    let t := s.onSto fun o => { o with frozen := if o.guard = .fixed then o.frozen else true }
    t.answerOk 0x05 h (.frozen t.sto.guard t.sto.frozen)

/-- SET_GUARD past its checks of the fields (R162). The OK at once for the mode stored already carries it (log 48). -/
def State.setGuard (h : Header) (mode : GuardMode) (s : State) : State :=
  if s.sto.guard = mode then s.answerOk 0x06 h (.guardMode mode)
  else if s.freeDeferred.isNone then s.answer 0x06 h.tag (.plain .busy)
  else
    ((s.onSto fun t => { t with guard := mode }).deferWrites 0x06 h .sto none [.guard] none
      { result := .ok, body := .guardMode mode } (storeFault .none)).mark .guard

/-- SET_GUARD (R162). -/
def execSetGuard (h : Header) (acting : Nat) (mode : Option GuardMode) (s : State) :
    Host.Outcome State Fault Refusal :=
  s.request (.setGuard h acting mode) 0x06 h
    (fun s => [(s.adminItself acting, .denied), (s.guardPasses h.strap, .guarded), (h.sized && mode.isSome, .badArg)])
    fun s => match mode with
      | some m => s.setGuard h m
      | none => s.noAnswer

end Sys2Proof.Machine
end

