-- ==== Sys2Proof/Machine/Lane.lean ====
section
/-! DEFINITION. The lane family: READ_SLOTS, the lane's frames and answers, the purge pulse and HALT. -/

namespace Sys2Proof.Machine

/-- The lane's state as READ_SLOTS names it: IDLE, SENDING, AWAIT_ACK, FAULT (R58, R68). -/
def Lane.number : Lane → Nat
  | .idle => 0
  | .sending _ => 1
  | .awaitAck _ => 2
  | .fault => 3

/-- A slot names a concealed range (R68). -/
def State.hides (s : State) (l : Slot) : Bool :=
  l.occupant.any (fun o => s.concealed o.range) || l.next.any fun o => s.concealed o.range

/-- An occupant as READ_SLOTS shows it: absent where it names a concealed range (R68). -/
def State.shownOccupant (s : State) (admin : Bool) (o : Option Occupant) : Option Occupant :=
  o.filter fun q => admin || !(s.concealed q.range)

/-- A slot's entry of READ_SLOTS (R68). -/
def State.listedSlot (s : State) (admin : Bool) (l : Slot) : ListedSlot :=
  { state := l.state, occupant := s.shownOccupant admin l.occupant, next := s.shownOccupant admin l.next
    concealed := !admin && s.hides l, pins := l.pins, lastUse := l.lastUse }

/-- READ_SLOTS (R68, R176): an acting authority outside 0 to 7 is BAD_ARG. -/
def execReadSlots (h : Header) (acting : Option Nat) (s : State) : Host.Outcome State Fault Refusal :=
  s.request (.readSlots h acting) 0x32 h (fun _ => [(h.sized && acting.all (· < 8), .badArg)]) fun s =>
    s.answerOk 0x32 h
      (.slots s.rmg.mapGen s.kln.lane.number s.kln.hold s.kln.purgePulse s.sto.policy.haltPolicy s.kln.badRun
        (s.kln.queue.map fun f => (f.op, f.slot))
        (s.kln.slots.list.map (s.listedSlot (acting.any s.adminActs))))

/-- LANE_FRAME_SENT (R58, R59): the last bit is sent. -/
def execLaneFrameSent (s : State) : Host.Outcome State Fault Refusal :=
  s.occur fun s =>
    match s.kln.lane with
    | .sending f => (s.enter .laneAck (s.tmb.uptime + 4)).onKln fun k => { k with lane := .awaitAck f }
    | .idle => s
    | .awaitAck _ => s
    | .fault => s

/-- The frame whose answer the lane awaits, if it is of the operation given (R58). -/
def Lane.awaited (op : LaneOp) : Lane → Option LaneFrame
  | .awaitAck f => if f.op = op then some f else none
  | .idle => none
  | .sending _ => none
  | .fault => none

/-- An answer is taken: the deadline is withdrawn, no expiry of it follows, and the lane is IDLE (R58, R59). -/
def State.answered (s : State) : State := (s.cancel .laneAck).onKln fun k => { k with lane := .idle }

/-- A slot is made EMPTY (R60, R61). -/
def State.emptySlotAt (i : SlotIx) (s : State) : State := s.onSlot i Slot.emptied

/-- The slot field that names a slot is removed, whichever range holds it (R60). -/
def State.dropSlotField (i : SlotIx) (s : State) : State :=
  s.onRmg fun m => { m with ranges := m.ranges.imap fun _ e => if e.slot = some i then { e with slot := none } else e }

/-- A LOAD answered ACK_GOOD (R60). -/
def State.loadGood (i : SlotIx) (s : State) : State :=
  (s.onSlot i fun l => if l.state = .loading then { l with state := .loaded } else l).onKln fun k =>
    { k with badRun := 0 }

/-- A LOAD answered ACK_BAD, and the fault of a third in a row (R60, R63). -/
def State.loadBad (i : SlotIx) (s : State) : State :=
  let s1 := match (s.kln.slots.get i).state with
    | .clearing =>
      ((s.emptySlotAt i).onKln fun k => { k with queue := unqueue .clear i k.queue }).clearComplete i
    | .empty | .loading | .loaded | .unknown => (s.emptySlotAt i).dropSlotField i
  let s2 := s1.onKln fun k => { k with badRun := s.kln.badRun + 1 }
  if 3 ≤ s2.kln.badRun then s2.laneFault i .loadBad else s2

/-- LOAD_ACK (R60). -/
def execLoadAck (good : Bool) (s : State) : Host.Outcome State Fault Refusal :=
  s.occur fun s =>
    match s.kln.lane.awaited .load with
    | some f => if good then s.answered.loadGood f.slot else s.answered.loadBad f.slot
    | none => s

/-- A CLEAR answered ACK_GOOD (R61). -/
def State.clearGood (i : SlotIx) (s : State) : State :=
  match (s.kln.slots.get i).next with
  | some o => s.onSlot i fun l => { l with state := .loading, occupant := some o, next := none }
  | none => (s.emptySlotAt i).clearComplete i

/-- CLEAR_ACK (R61). -/
def execClearAck (good : Bool) (s : State) : Host.Outcome State Fault Refusal :=
  s.occur fun s =>
    match s.kln.lane.awaited .clear with
    | some f => if good then s.answered.clearGood f.slot else s.answered.laneFault f.slot .clearBad
    | none => s

/-- ACK_TIMEOUT (R59, R62): the acknowledgement deadline has fallen due. -/
def execAckTimeout (s : State) : Host.Outcome State Fault Refusal :=
  s.occur fun s =>
    match s.takeFallen .laneAck with
    | some (t, _) =>
      match t.kln.lane with
      | .awaitAck f => t.laneFault f.slot .ackTimeout
      | .idle => t
      | .sending _ => t
      | .fault => t
    | none => s

/-- SYNC_ERROR (R62): the engine asserts LFS. -/
def execSyncError (s : State) : Host.Outcome State Fault Refusal :=
  s.occur fun s =>
    match s.kln.lane.inFlight with
    | some f => s.laneFault f.slot .syncError
    | none => s

/-- The lane after the purge pulse (R58). -/
def Lane.afterPulse : Lane → Lane
  | .fault => .idle
  | .idle => .idle
  | .sending f => .sending f
  | .awaitAck f => .awaitAck f

/-- PURGE_PULSE_END (R63, R64). -/
def execPurgePulseEnd (s : State) : Host.Outcome State Fault Refusal :=
  s.occur fun s =>
    if s.kln.purgePulse then s.onKln fun k => { k with purgePulse := false, lane := k.lane.afterPulse } else s

/-- KLN's action on a HALT rise in ACTIVE, by the policy and the lifecycle (R66). -/
def State.haltAction (s : State) : State :=
  match s.sto.policy.haltPolicy with
  | .purge => s.purge .halt false
  | .finish => s.onKln fun k => { k with hold := true }
  | .ignore => if s.aut.lifecycle = .unprovisioned then s else s.purge .halt false

/-- A rise of HALT reaches THM: not in a cold start before THM first observes the line (R97, R99, R168). -/
def State.haltObserved (s : State) : Bool :=
  match s.pwc.stage with
  | .waitStore => true
  | .scanning cold => !cold
  | .charging => false
  | .done => true

/-- HALT_RISE (R66, R99): KLN acts while ACTIVE, and the trigger HALT is raised. -/
def execHaltRise (s : State) : Host.Outcome State Fault Refusal :=
  if s.pins.halt then .next s
  else
    (s.onPins fun p => { p with halt := true }).occur fun s =>
      let t := if s.haltObserved then s.raiseTrigger .halt else s
      if t.linkOpen then t.haltAction else t

/-- HALT_FALL (R67): the hold ends. -/
def execHaltFall (s : State) : Host.Outcome State Fault Refusal :=
  if s.pins.halt then
    (s.onPins fun p => { p with halt := false }).occur fun s => s.onKln fun k => { k with hold := false }
  else .next s

end Sys2Proof.Machine
end

