-- ==== Sys2Proof/Machine/Link.lean ====
section
/-! DEFINITION. The link family: select periods, the link reply, IDENTIFY and STATUS. -/

namespace Sys2Proof.Machine

/-- A frame arrives at the waiting position, or is dropped with the overrun flag set (R177). -/
def State.frameArrives (w : Waiting) (s : State) : State :=
  s.onLnk fun l =>
    match l.waiting with
    | none => { l with waiting := some w }
    | some _ => { l with overrun := true }

/-- What a write period brings to the waiting position (R174, R176). -/
def arrivalOf (bytes : List Byte) (whole : Bool) : Waiting :=
  if whole then
    match checkFrame bytes with
    | .ok (kind, tag, payload) => .frame kind tag payload
    | .error reason => .failed reason (failedTag bytes)
  else .failed .partialPeriod (failedTag bytes)

/-- The frame a read period shifts out: the one at the head when SEL fell (R174; log 15). -/
def Lnk.shiftedOut (l : Lnk) : Option OutFrame :=
  match l.period with
  | some p => p.head
  | none => l.outbound.head?

/-- The content at the head has been replaced during the period (R178). -/
def Lnk.headReplaced (l : Lnk) : Bool := l.period.any Period.replaced

/-- The bytes of SDO in a read period of `clocked` bytes: 00h under the marker, the frame or the EMPTY marker, then fill
(R174). -/
def readBytes (frame : Option OutFrame) (clocked : Nat) : List Byte :=
  let body := match frame with
    | some f => f.bytes
    | none => [emptyMarker]
  ((0x00 :: body) ++ List.replicate clocked fillByte).take clocked

/-- A read period of `clocked` whole bytes ends (R174). -/
def State.readEnds (clocked : Nat) (whole : Bool) (s : State) : State :=
  let frame := s.lnk.shiftedOut
  let gone := whole && !s.lnk.headReplaced && frame.any fun f => 1 + f.bytes.length ≤ clocked
  let t := s.periodEnds (readBytes frame clocked)
  if clocked = 0 then t
  else if !whole then t.frameArrives (.failed .partialPeriod 0)
  else if gone then t.onLnk fun l => { l with outbound := l.outbound.tail }
  else t

/-- SEL rises over no select period: its fall came while the link was closed, or the link is closed still. SDO has carried fill bytes,
and what came is disregarded (R174). -/
def State.noPeriod (clocked : Nat) (s : State) : State := s.periodEnds (List.replicate clocked fillByte)

/-- As SEL rises, over a low that began before if `low`, a select period ends: the link is open, and the low did not begin while it was
closed (R174). A period whose fall no command has brought counts as begun with the link open (log 15). -/
def State.selected (low : Bool) (s : State) : Bool := s.linkOpen && (s.lnk.period.isSome || !low)

/-- INBOUND_FRAME (R174, R176, R177): a period's whole bytes, and whether it ended on a byte boundary. A period opened by
the read marker is a read period (log 39). -/
def execInboundFrame (bytes : List Byte) (whole : Bool) (s : State) : Host.Outcome State Fault Refusal :=
  s.selRises.occur fun t =>
    if t.selected s.pins.selLow then
      match bytes with
      | [] => t.periodEnds []
      | first :: _ =>
        if first = readMarker then t.readEnds bytes.length whole
        else (t.periodEnds (List.replicate bytes.length fillByte)).frameArrives (arrivalOf bytes whole)
    else t.noPeriod bytes.length

/-- READ_PERIOD (R174, R178): `clocked` whole bytes, the marker among them. -/
def execReadPeriod (clocked : Nat) (whole : Bool) (s : State) : Host.Outcome State Fault Refusal :=
  s.selRises.occur fun t => if t.selected s.pins.selLow then t.readEnds clocked whole else t.noPeriod clocked

/-- LINK_REPLY (R176, R177): the executor answers a failed frame, or one of unknown kind, under kind 80h. -/
def execLinkReply (s : State) : Host.Outcome State Fault Refusal :=
  s.occur fun s =>
    if s.linkOpen && 1 ≤ s.lnk.reserved then
      match s.lnk.waiting with
      | some (.failed reason tag) =>
        (s.onLnk fun l => { l with waiting := none }).answer 0x00 tag { result := .reject, body := .rejected reason }
      | some (.request _) => s
      | some (.frame kind tag _) =>
        if requestKinds.contains kind then s
        else
          (s.onLnk fun l => { l with waiting := none }).answer 0x00 tag { result := .badArg, body := .unknownKind kind }
      | none => s
    else s

/-- IDENTIFY (R182). -/
def execIdentify (h : Header) (s : State) : Host.Outcome State Fault Refusal :=
  s.requestAlways (.identify h) 0x01 h (fun _ => [(h.sized, .badArg)]) fun s =>
    s.answerOk 0x01 h
      (.identify s.sto.identity.serial s.sto.identity.capacity s.visibleCapacity s.aut.lifecycle s.pwc.resetCause
        s.sto.guard s.sto.frozen s.sto.faulty)

/-- The deferred-reply entries in use: kind, tag, and whether READY (R182); in ascending position in the table, where R182 gives no
order (log 62). -/
def Lnk.deferredItems (l : Lnk) : List (Byte × Byte × Bool) :=
  l.deferred.list.filterMap fun e => e.map fun d => (d.kind, d.tag, isReady (some d))

/-- The engine's state as STATUS names it (R76, R182). -/
def Engine.state : Engine → EngineState
  | .idle => .idle
  | .charging _ _ => .charging
  | .deriving_ _ => .deriving_
  | .finishing _ _ _ => .finishing

/-- The STATUS reply (R182; the entry reserved for it counts among the outbound entries in use, log 32). -/
def State.statusBody (s : State) : ReplyBody :=
  .status s.pwc.power s.thm.level s.aut.lifecycle s.rmg.mapGen s.lnk.overrun (s.lnk.outbound.length + s.lnk.reserved)
    s.lnk.pendingSet.length s.lnk.deferredItems s.aut.engine.state s.sto.inFlight.isSome s.sto.dirty.length

/-- STATUS (R182): forming the reply clears the overrun flag. -/
def execStatus (h : Header) (s : State) : Host.Outcome State Fault Refusal :=
  s.requestAlways (.status h) 0x02 h (fun _ => [(h.sized, .badArg)]) fun s =>
    (s.onLnk fun l => { l with overrun := false }).answerOk 0x02 h s.statusBody

end Sys2Proof.Machine
end

