-- ==== Sys2Proof/Machine/Power.lean ====
section
/-! DEFINITION. The power family: starts, the supply, SEL as a power signal, DPWR, standby and wake. -/

namespace Sys2Proof.Machine

/-- COLD_START (R167): step 1, over the records as the supply's fall left them (R154, R155; log 8). The scan follows. -/
def execColdStart (s : State) : Host.Outcome State Fault Refusal :=
  .next (.cold s.losePower.sto.records s.pins { s.model with bumped := false } s.pending)

/-- POWER_LOSS (R165). -/
def execPowerLoss (s : State) : Host.Outcome State Fault Refusal :=
  if s.powered then .next s.losePower else .next s

/-- INTEGRITY_SCAN completes (R159); what follows it in the start follows here (R167, R169). -/
def execIntegrityScan (s : State) : Host.Outcome State Fault Refusal := s.occur State.scanDone

/-- SEL_HELD_LOW (R171): a timed low reaches 100 ms. -/
def execSelHeldLow (s : State) : Host.Outcome State Fault Refusal :=
  s.occur fun s =>
    if (s.pwc.power = .active || s.pwc.power = .standby) && s.pwc.selTimed then s.warmStart .linkHeld else s

/-- WARM_START_PROCEED (R169): STO has reported itself idle. -/
def execWarmStartProceed (s : State) : Host.Outcome State Fault Refusal :=
  s.occur fun s => if s.pwc.stage = .waitStore && s.sto.inFlight.isNone then s.proceed else s

/-- WAKE_PULSE (R171, R173): a timed low in STANDBY ends in time, and wakes the part. A pulse that finds the part ACTIVE is a select
period, in which no byte is completed: its end alone is taken, and it is otherwise disregarded (R174; log 15). -/
def execWakePulse (s : State) : Host.Outcome State Fault Refusal :=
  s.selRises.occur fun s =>
    if s.linkOpen then s.periodEnds []
    else if s.pwc.power = .standby && s.pwc.selTimed then s.wake else s

/-- DPWR_RISE (R165, R173): wakes the part in STANDBY. -/
def execDpwrRise (s : State) : Host.Outcome State Fault Refusal :=
  if s.pins.dpwr then .next s
  else
    (s.onPins fun p => { p with dpwr := true }).occur fun s =>
      if s.pwc.power = .standby then s.wake else s

/-- DPWR_FALL (R165, R172): brings standby entry in ACTIVE. -/
def execDpwrFall (s : State) : Host.Outcome State Fault Refusal :=
  if s.pins.dpwr then
    (s.onPins fun p => { p with dpwr := false }).occur fun s =>
      if s.pwc.power = .active then s.standbyEntry else s
  else .next s

/-- STANDBY (R172): accepted without a reply. -/
def execStandby (h : Header) (s : State) : Host.Outcome State Fault Refusal :=
  s.request (.standby h) 0x3A h (fun _ => [(h.sized, .badArg)]) fun s => s.noAnswer.standbyEntry

/-- RESTART (R170): the check value is the low 16 bits of the serial number as IDENTITY or its fallback gives it. -/
def execRestart (h : Header) (check : Nat) (s : State) : Host.Outcome State Fault Refusal :=
  s.request (.restart h check) 0x3B h
    (fun s => [(h.sized && check = (s.sto.identity.serial.extractLsb' 0 16).toNat, .badArg)])
    fun s => s.noAnswer.warmStart .restart

/-- SEL_FALL (R171, R174): PWC times the low, and with the link open a select period begins; with the link closed none does, however
long SEL stays low. -/
def execSelFall (sckHigh : Bool) (s : State) : Host.Outcome State Fault Refusal :=
  (s.onPins fun p => { p with selLow := true }).occur fun s =>
    let t := s.onPwc fun p =>
      { p with selTimed := p.selTimed || p.power = .active || p.power = .standby }
    if t.linkOpen then
      t.onLnk fun l => { l with period := some { modeThree := sckHigh, head := l.outbound.head?, replaced := false } }
    else t

end Sys2Proof.Machine
end

