-- ==== Sys2Proof/Machine/Range.lean ====
section
/-! DEFINITION. The range family: GRANT, REVOKE and the requests over the range table. -/

namespace Sys2Proof.Machine

/-- GRANT past its checks of the range's key and the user's KEK (R22): an envelope that exists already, room, an entry, and
the key itself (log 20), whose want is answered STORE_FAULT with the range (log 55). The reply for an envelope that exists names its
position (log 48). -/
def State.grant (h : Header) (u : AuthIx) (r : RangeIx) (kek : Key) (s : State) : State :=
  if (s.envelopeAt u (.range r)).isSome then s.answerOk 0x15 h (.position (s.envelopeAt u (.range r)))
  else
    match s.emptyPosition with
    | none => s.answer 0x15 h.tag (.plain .noRoom)
    | some p =>
      if s.freeDeferred.isNone then s.answer 0x15 h.tag (.plain .busy)
      else
        match s.keyOf r with
        | none => s.answer 0x15 h.tag (storeFault (.range r))
        | some k =>
          let s1 := (s.putEnvelope p { authority := u, target := .range r, wrapped := wrapped kek k }).onRmg fun m =>
            { m with grants := m.grants ++ waitsFor [.envelope p] }
          (s1.deferWrites 0x15 h .rmg (some r) [.envelope p] none { result := .ok, body := .position (some p) }
            (storeFault (.envelope p))).mark (.envelope p)

/-- GRANT (R22). -/
def execGrant (h : Header) (acting user range : Nat) (s : State) : Host.Outcome State Fault Refusal :=
  s.request (.grant h acting user range) 0x15 h
    (fun s =>
      s.rangeChecks acting (s.named 1 range) (namesAdmin acting) ++
        [(h.sized && (userAt user).isSome, .badArg),
          ((s.named 1 range).any fun r => (s.rmg.ranges.get r).keyState == .keyed, .wrongState),
          ((userAt user).any fun u => (s.rmg.keks.get u).isSome, .wrongState)])
    fun s => match s.named 1 range, userAt user with
      | some r, some u =>
        match s.rmg.keks.get u with
        | some kek => s.grant h u r kek
        | none => s.noAnswer
      | _, _ => s.noAnswer

/-- REVOKE accepted (R23). -/
def State.revoke (h : Header) (p : EnvIx) (r : RangeIx) (s : State) : State :=
  ((s.deleteEnvelopes [p]).deferWrites 0x16 h .rmg (some r) [.envelope p] none (.plain .ok)
    (storeFault (.envelope p))).mark (.envelope p)

/-- The envelope that REVOKE names (R23). -/
def State.revoked (s : State) (user : Nat) (r : Option RangeIx) : Option EnvIx :=
  match userAt user, r with
  | some u, some r => s.envelopeAt u (.range r)
  | _, _ => none

/-- REVOKE (R23). -/
def execRevoke (h : Header) (acting user range : Nat) (s : State) : Host.Outcome State Fault Refusal :=
  s.request (.revoke h acting user range) 0x16 h
    (fun s =>
      s.rangeChecks acting (s.named 1 range) (namesAdmin acting) ++
        [(h.sized && (s.revoked user (s.named 1 range)).isSome, .badArg), (s.freeDeferred.isSome, .busy)])
    fun s => match s.revoked user (s.named 1 range), s.named 1 range with
      | some p, some r => s.revoke h p r
      | _, _ => s.noAnswer

/-- The lowest index not in use (R1). -/
def State.freeIndex (s : State) : Option RangeIx := (List.finRange 16).find? fun r => !(s.defined r)

/-- DEFINE_RANGE accepted at index `r`, under the domain key (R10). -/
def State.defineRange (h : Header) (r : RangeIx) (geometry : Geometry) (flags : RangeFlags) (domain : Key)
    (s : State) : State :=
  let s1 := s.onRange r fun e => { e with geometry := some geometry, flags := flags, lock := .locked, slot := none }
  let s2 := ((s1.freshKey domain r).bump).openPlain LockState.isLocked [r]
  let records := [RecordId.rangeKey r, .range r]
  (s2.deferWrites 0x20 h .rmg (some r) records none
    { result := .ok, body := .rangeDefined r (s2.rmg.ranges.get r).generation } (storeFault (.range r))).markAll records

/-- DEFINE_RANGE (R10). Without a cached domain key no range key can be wrapped (logs 20, 55). -/
def execDefineRange (h : Header) (acting : Nat) (geometry : Geometry) (flags : RangeFlags) (s : State) :
    Host.Outcome State Fault Refusal :=
  s.request (.defineRange h acting geometry flags) 0x20 h
    (fun s =>
      [(s.signedIn acting, .denied), (namesAdmin acting, .denied), (s.guardPasses h.strap, .guarded),
        (h.sized && geometry.below s.sto.identity.capacity && s.clearOf geometry none, .badArg),
        (s.freeIndex.isSome, .noRoom), (s.freeDeferred.isSome, .busy)])
    fun s => match s.freeIndex, s.rmg.domainKey with
      | some r, some domain => s.defineRange h r geometry flags domain
      | some r, none => s.answer 0x20 h.tag (storeFault (.range r))
      | none, _ => s.noAnswer

/-- The flags that a range may take: index 0 takes no concealment flag (R11). -/
def flagsFit (r : Option RangeIx) (f : RangeFlags) : Bool := !(r == some 0) || (!f.conceal && !f.concealOnWary)

/-- The flags change takes `lock_enabled` from true to false (R11). -/
def unlocksPlain (e : RangeEntry) (flags : Option RangeFlags) : Bool :=
  flags.any fun f => e.flags.lockEnabled && !f.lockEnabled

/-- The flags change takes `lock_enabled` from false to true (R11). -/
def locksPlain (e : RangeEntry) (flags : Option RangeFlags) : Bool :=
  flags.any fun f => !e.flags.lockEnabled && f.lockEnabled

/-- The lock states from which MODIFY_RANGE opens a range (R11). -/
def LockState.lockedOrReadOnly (l : LockState) : Bool := l == .locked || l == .readOnly

/-- MODIFY_RANGE accepted: flags, geometry or both, with the device wrap made from `key` where there is one to make
(R11, R12). -/
def State.modifyRange (h : Header) (r : RangeIx) (flags : Option RangeFlags) (geometry : Option Geometry)
    (key : Option Key) (s : State) : State :=
  let old := s.rmg.ranges.get r
  let s1 := (s.onRange r fun e =>
    { e with
      flags := flags.getD e.flags
      geometry := match geometry with
        | some g => some g
        | none => e.geometry
      deviceWrap :=
        if locksPlain old flags then none
        else match key with
          | some k => some (wrapped .device k)
          | none => e.deviceWrap }).bump
  let s2 := if unlocksPlain old flags then s1.openPlain LockState.lockedOrReadOnly [r] else s1
  let records :=
    (if locksPlain old flags || key.isSome then [RecordId.rangeKey r] else []) ++ [RecordId.range r]
  (s2.deferWrites 0x21 h .rmg (some r) records none (.plain .ok) (storeFault (.range r))).markAll records

/-- The device wrap that MODIFY_RANGE makes takes the range's key; an ERASED range has none (R11; logs 20, 55). -/
def State.modify (h : Header) (r : RangeIx) (flags : Option RangeFlags) (geometry : Option Geometry)
    (s : State) : State :=
  let e := s.rmg.ranges.get r
  if unlocksPlain e flags && e.keyState == .keyed then
    match s.keyOf r with
    | some k => s.modifyRange h r flags geometry (some k)
    | none => s.answer 0x21 h.tag (storeFault (.range r))
  else s.modifyRange h r flags geometry none

/-- The checks of MODIFY_RANGE (R8, R11, R12). A payload of the wrong size fails with its own arguments (log 47). -/
def State.modifyChecks (h : Header) (acting : Nat) (r : Option RangeIx) (flags : Option RangeFlags)
    (geometry : Option Geometry) (s : State) : List (Bool × ResultCode) :=
  s.rangeChecks acting r (namesAdmin acting) ++
    [(s.guardPasses h.strap, .guarded),
      (h.sized && flags.all (flagsFit r) &&
        geometry.all (fun g => g.below s.sto.identity.capacity && s.clearOf g r), .badArg),
      (geometry.isNone || r.any (fun r => (s.rmg.ranges.get r).lock == .locked), .wrongState),
      (s.freeDeferred.isSome, .busy)]

/-- MODIFY_RANGE with a flags field, alone or with a geometry field (R11, R12). -/
def execModifyRange (h : Header) (acting index : Nat) (flags : RangeFlags) (geometry : Option Geometry)
    (s : State) : Host.Outcome State Fault Refusal :=
  let least := if geometry.isSome then 1 else 0
  s.request (.modifyRange h acting index flags geometry) 0x21 h
    (fun s => s.modifyChecks h acting (s.named least index) (some flags) geometry)
    fun s => match s.named least index with
      | some r => s.modify h r (some flags) geometry
      | none => s.noAnswer

/-- MODIFY_RANGE with a geometry field alone (R12). -/
def execModifyRangeGeometry (h : Header) (acting index : Nat) (geometry : Geometry) (s : State) :
    Host.Outcome State Fault Refusal :=
  s.request (.modifyRangeGeometry h acting index geometry) 0x21 h
    (fun s => s.modifyChecks h acting (s.named 1 index) none (some geometry))
    fun s => match s.named 1 index with
      | some r => s.modify h r none (some geometry)
      | none => s.noAnswer

/-- A range table entry after DELETE_RANGE: undefined, ERASED, the key generation kept (R13). -/
def RangeEntry.deleted (e : RangeEntry) : RangeEntry := { RangeEntry.bare with generation := e.generation }

/-- The authorities whose start-up set lists a range (R13). -/
def State.listing (s : State) (r : RangeIx) : List AuthIx :=
  s.aut.auth.positions fun a => a.kept.startup.contains r

/-- DELETE_RANGE accepted (R13). -/
def State.deleteRange (h : Header) (r : RangeIx) (s : State) : State :=
  let gone := s.envelopesWhere fun e => e.target == .range r
  let authorities := s.listing r
  let s1 := (s.deleteEnvelopes gone).onAut fun a =>
    { a with
      auth := a.auth.imap fun _ e =>
        { e with kept := { e.kept with startup := e.kept.startup.filter fun q => !(q == r) } } }
  let s2 := (s1.onRange r RangeEntry.deleted).bump
  let records := gone.map RecordId.envelope ++ authorities.map RecordId.authority ++ [.rangeKey r, .range r]
  (s2.deferWrites 0x22 h .rmg (some r) records none (.plain .ok) (storeFault (.range r))).markAll records

/-- DELETE_RANGE (R13). -/
def execDeleteRange (h : Header) (acting index : Nat) (s : State) : Host.Outcome State Fault Refusal :=
  s.request (.deleteRange h acting index) 0x22 h
    (fun s =>
      s.rangeChecks acting (s.named 1 index) (namesAdmin acting) ++
        [(s.guardPasses h.strap, .guarded), (h.sized, .badArg),
          ((s.named 1 index).any fun r => (s.rmg.ranges.get r).lock == .locked, .wrongState),
          (s.freeDeferred.isSome, .busy)])
    fun s => match s.named 1 index with
      | some r => s.deleteRange h r
      | none => s.noAnswer

/-- A range put in its place in the ascending order of start (R1). -/
def insertByStart (start : RangeIx → Nat) (r : RangeIx) : List RangeIx → List RangeIx
  | [] => [r]
  | q :: l => if start r < start q then r :: q :: l else q :: insertByStart start r l

/-- The global range, then the defined ranges in ascending order of start (R1, R14). -/
def State.rangesInOrder (s : State) : List RangeIx :=
  let start (r : RangeIx) : Nat := ((s.rmg.ranges.get r).geometry.map Geometry.start).getD 0
  0 :: ((s.definedRanges.filter fun r => r != 0).foldl (fun l r => insertByStart start r l) [])

/-- One entry of the LIST_RANGES reply (R14). -/
def State.listed (s : State) (r : RangeIx) : ListedRange :=
  let e := s.rmg.ranges.get r
  { index := r, geometry := if r = 0 then none else e.geometry, flags := e.flags, keyState := e.keyState
    generation := e.generation, lock := e.lock, slot := e.slot, concealed := s.concealed r }

/-- LIST_RANGES (R14, R177): an acting authority that is not a signed-in admin, one outside 0 to 7 among them, sees no concealed
range (R14: the reply is still OK). -/
def execListRanges (h : Header) (acting : Option Nat) (s : State) : Host.Outcome State Fault Refusal :=
  s.requestOf 2 (.listRanges h acting) 0x23 h (fun _ => [(h.sized, .badArg)]) fun s =>
    let shown := s.rangesInOrder.filter fun r => !(s.concealed r) || acting.any s.adminActs
    (listParts s.rmg.mapGen s.visibleCapacity (shown.map s.listed)).foldl (fun t r => t.answer 0x23 h.tag r) s

/-- A normal lock asked for by LOCK_RANGE (R18): at once without a slot; otherwise with a deferred reply. -/
def State.lockAll (h : Header) (r : RangeIx) (s : State) : State :=
  if (s.rmg.ranges.get r).slot.isNone then (s.normalLock r).bump.answerOk 0x24 h (.lockState .locked)
  else
    match s.freeDeferred with
    | some i => ((s.defer i 0x24 h.tag .rmg (some r) (.lock r)).normalLock r).bump
    | none => s.answer 0x24 h.tag (.plain .busy)

/-- LOCK_RANGE past its checks, by mode and lock state (R17). Each OK at once carries the lock state (log 48). -/
def State.lockRange (h : Header) (r : RangeIx) (mode : LockMode) (s : State) : State :=
  match mode, (s.rmg.ranges.get r).lock with
  | .write, .opened =>
    (s.onRange r fun e => { e with lock := .readOnly }).bump.answerOk 0x24 h (.lockState .readOnly)
  | .write, l => s.answerOk 0x24 h (.lockState l)
  | .all, .opened => s.lockAll h r
  | .all, .readOnly => s.lockAll h r
  | .all, .locking => s.answer 0x24 h.tag (.plain .wrongState)
  | .all, .locked => s.answerOk 0x24 h (.lockState .locked)

/-- LOCK_RANGE (R17). -/
def execLockRange (h : Header) (acting index : Nat) (mode : Option LockMode) (s : State) :
    Host.Outcome State Fault Refusal :=
  s.request (.lockRange h acting index mode) 0x24 h
    (fun s =>
      s.rangeChecks acting (s.named 0 index) (s.mayLock acting (s.named 0 index)) ++
        [(h.sized && mode.isSome, .badArg),
          ((s.named 0 index).any fun r => (s.rmg.ranges.get r).flags.lockEnabled, .wrongState)])
    fun s => match s.named 0 index, mode with
      | some r, some m => s.lockRange h r m
      | _, _ => s.noAnswer

/-- The key UNLOCK_RANGE unwraps: for an admin from the domain wrap, for a user from its envelope (R15). -/
def State.unlockKey (s : State) (acting : Nat) (r : RangeIx) : Option Key :=
  match authorityAt acting with
  | some a =>
    if isAdmin a then unwrap (s.rmg.ranges.get r).domainWrap s.rmg.domainKey
    else unwrap (s.envelopeWrap a (.range r)) (s.rmg.keks.get a)
  | none => none

/-- UNLOCK_RANGE of a LOCKED range: unwrap, and the lock state given (R15). A failed unwrap's STORE_FAULT names the range (log 55). -/
def State.unlockTo (h : Header) (acting : Nat) (r : RangeIx) (lock : LockState) (s : State) : State :=
  match s.unlockKey acting r with
  | some k => ((s.openWith r k lock).eagerLoads [r]).bump.answerOk 0x25 h (.lockState lock)
  | none => s.answer 0x25 h.tag (storeFault (.range r))

/-- UNLOCK_RANGE past its checks, by mode and lock state (R15). -/
def State.unlockRange (h : Header) (acting : Nat) (r : RangeIx) (mode : UnlockMode) (s : State) : State :=
  match (s.rmg.ranges.get r).lock, mode with
  | .locked, .read => s.unlockTo h acting r .readOnly
  | .locked, .write => s.answer 0x25 h.tag (.plain .wrongState)
  | .locked, .both => s.unlockTo h acting r .opened
  | .readOnly, .read => s.answerOk 0x25 h (.lockState .readOnly)
  | .readOnly, .write => (s.onRange r fun e => { e with lock := .opened }).bump.answerOk 0x25 h (.lockState .opened)
  | .readOnly, .both => (s.onRange r fun e => { e with lock := .opened }).bump.answerOk 0x25 h (.lockState .opened)
  | .opened, _ => s.answerOk 0x25 h (.lockState .opened)
  | .locking, _ => s.answer 0x25 h.tag (.plain .wrongState)

/-- UNLOCK_RANGE (R15). -/
def execUnlockRange (h : Header) (acting index : Nat) (mode : Option UnlockMode) (s : State) :
    Host.Outcome State Fault Refusal :=
  s.request (.unlockRange h acting index mode) 0x25 h
    (fun s =>
      s.rangeChecks acting (s.named 0 index) (s.mayLock acting (s.named 0 index)) ++
        [(h.sized && mode.isSome, .badArg),
          ((s.named 0 index).any fun r =>
            (s.rmg.ranges.get r).flags.lockEnabled && (s.rmg.ranges.get r).keyState == .keyed, .wrongState)])
    fun s => match s.named 0 index, mode with
      | some r, some m => s.unlockRange h acting r m
      | _, _ => s.noAnswer

/-- A REKEY_RANGE for the index is still deferred (R21). -/
def State.rekeyDeferred (s : State) (r : Option RangeIx) : Bool :=
  s.lnk.deferred.list.any fun e => e.any fun d => d.kind == 0x26 && d.range == r

/-- The pin count of a range's slot, if it has one. -/
def State.pinsOf (s : State) (r : RangeIx) : Option Nat :=
  (s.rmg.ranges.get r).slot.map fun i => (s.kln.slots.get i).pins

/-- The forced lock of REKEY_RANGE, by the range's slot (R20). A purge completes the range's lock with every other, and opens the ranges
that R16 lets open in one ascending order (R55). -/
def State.rekeyLock (r : RangeIx) (s : State) : State :=
  match s.pinsOf r with
  | none => s.finishLock r
  | some 0 => (s.onRange r fun e => { e with lock := .locking }).clearRequest r
  | some (_ + 1) => (s.onRange r fun e => { e with lock := .locking }).purge .rekey false

/-- REKEY_RANGE accepted, under the domain key (R21). Envelopes, generation and key are in place before the forced lock, whose completion
may open the range with the new key in the same occurrence. -/
def State.rekey (h : Header) (r : RangeIx) (domain : Key) (s : State) : State :=
  let gone := s.envelopesWhere fun e => e.target == .range r
  let s1 := (s.deleteEnvelopes gone).freshKey domain r
  let records := gone.map RecordId.envelope ++ [.rangeKey r]
  let lock := if s1.pinsOf r = some 0 then some r else none
  let s2 := s1.deferWrites 0x26 h .rmg (some r) records lock
    { result := .ok, body := .rekeyed (s1.rmg.ranges.get r).generation } (storeFault (.range r))
  let s3 := (s2.rekeyLock r).bump
  (s3.openPlain LockState.isLocked [r]).markAll records

/-- REKEY_RANGE (R21). Without a cached domain key: logs 20, 55. -/
def execRekeyRange (h : Header) (acting index : Nat) (s : State) : Host.Outcome State Fault Refusal :=
  s.request (.rekeyRange h acting index) 0x26 h
    (fun s =>
      s.rangeChecks acting (s.named 0 index) (namesAdmin acting) ++
        [(h.sized, .badArg), (!(s.rekeyDeferred (s.named 0 index)) && s.freeDeferred.isSome, .busy)])
    fun s => match s.named 0 index, s.rmg.domainKey with
      | some r, some domain => s.rekey h r domain
      | some r, none => s.answer 0x26 h.tag (storeFault (.range r))
      | none, _ => s.noAnswer

end Sys2Proof.Machine
end

