-- ==== Sys2Proof/Machine/Resolve.lean ====
section
/-! DEFINITION. The span family: RESOLVE stage by stage, RELEASE and the expiry of a verdict. -/

namespace Sys2Proof.Machine

/-- A run of a span inside one range, or beyond the medium (R31, R32). -/
structure Piece where
  first : Nat
  count : Nat
  range : Option RangeIx
deriving DecidableEq, Repr

/-- The range containing an address below C (R31). -/
def State.rangeAt (s : State) (p : Nat) : RangeIx :=
  ((List.finRange 16).find? fun r =>
    r != 0 && (s.rmg.ranges.get r).geometry.any fun g => g.start ≤ p && p < g.after).getD 0

/-- The start of the next defined range above an address (R31). -/
def State.nextStart (s : State) (p : Nat) : Option Nat :=
  ((List.finRange 16).filterMap fun r =>
    if r = 0 then none else (s.rmg.ranges.get r).geometry.map Geometry.start).foldl (fun best q =>
      if p < q then
        match best with
        | some b => some (min b q)
        | none => some q
      else best) none

/-- The end of the range `r` at an address `p` of it (R31). -/
def State.endOf (s : State) (r : RangeIx) (p : Nat) : Nat :=
  if r = 0 then
    match s.nextStart p with
    | some q => q - 1
    | none => s.sto.identity.capacity - 1
  else
    match (s.rmg.ranges.get r).geometry with
    | some g => g.after - 1
    | none => p

/-- Stage 2: the walk from `p` to the last resolvable address (R31). At most 31 runs lie below C. -/
def State.walk (s : State) (last : Nat) : Nat → Nat → List Piece
  | 0, _ => []
  | fuel + 1, p =>
    if last < p then []
    else
      let r := s.rangeAt p
      let e := min (s.endOf r p) last
      { first := p, count := e + 1 - p, range := some r } :: s.walk last fuel (e + 1)

/-- Stages 1 to 3 for a span of `n` blocks from `start` (R30 to R32). -/
def State.pieces (s : State) (start n : Nat) : List Piece :=
  let c := s.sto.identity.capacity
  let last := start + n - 1
  (if start < c then s.walk (min last (c - 1)) 32 start else []) ++
    if c ≤ last then [{ first := max start c, count := last + 1 - max start c, range := none }] else []

/-- The table of R34: none where the segment passes, subject to its slot. -/
def State.tabled (s : State) (r : RangeIx) (kind : Access) : Option Disposition :=
  let e := s.rmg.ranges.get r
  if e.keyState = .erased then some (match kind with
    | .read => .blank
    | .write => .deny)
  else if s.concealed r then some (match kind with
    | .read => .blank
    | .write => .void)
  else
    match e.lock, kind with
    | .locking, _ => some .deny
    | .locked, _ => some .deny
    | .readOnly, .write => some .deny
    | .readOnly, .read => none
    | .opened, _ => none

/-- A pin on a slot, and its last use (R39, R51). -/
def State.pin (i : SlotIx) (s : State) : State :=
  s.onSlot i fun l => { l with pins := l.pins + 1, lastUse := s.tmb.uptime }

/-- What stage 5 has come to so far: the segments, and the slots this RESOLVE has pinned. -/
structure Resolving where
  state : State
  segments : List Segment
  pinned : List SlotIx

/-- A segment joins those disposed of. -/
def Resolving.add (v : Resolving) (p : Piece) (d : Disposition) : Resolving :=
  { v with segments := v.segments ++ [{ first := p.first, count := p.count, range := p.range, disposition := d }] }

/-- A would-be PASS and its slot (R35, R37): `full` when the verdict table was full as the RESOLVE was taken. -/
def Resolving.slot (full : Bool) (v : Resolving) (p : Piece) (r : RangeIx) : Resolving :=
  match (v.state.rmg.ranges.get r).slot with
  | some i =>
    if (v.state.kln.slots.get i).state = .loaded then
      if full then v.add p (.wait .verdictsFull)
      else if v.pinned.contains i then v.add p (.pass i)
      else { v with state := v.state.pin i, pinned := v.pinned ++ [i] }.add p (.pass i)
    else v.add p (.wait .loading)
  | none =>
    match v.state.allocate r with
    | some t => { v with state := t }.add p (.wait .loading)
    | none => v.add p (.wait .slotsPinned)

/-- Stage 5 for one kept segment (R34, R35). -/
def dispose (kind : Access) (full : Bool) (v : Resolving) (p : Piece) : Resolving :=
  match p.range with
  | none => v.add p .beyond
  | some r =>
    match v.state.tabled r kind with
    | some d => v.add p d
    | none => v.slot full p r

/-- The id after one issued (R38). -/
def nextId (id : Nat) : Nat := if 65535 ≤ id then 1 else id + 1

/-- The next id that no verdict in the table holds; at most 33 steps with 32 held (R38). -/
def freeId (held : List Nat) : Nat → Nat → Nat
  | 0, id => nextId id
  | fuel + 1, id => if held.contains (nextId id) then freeId held fuel (nextId id) else nextId id

/-- A segment is PASS. -/
def Segment.passes (g : Segment) : Bool :=
  match g.disposition with
  | .pass _ => true
  | .wait _ | .deny | .blank | .void | .beyond => false

/-- The verdict of a RESOLVE that passed a segment enters the table with its deadline (R38, R39, R41). -/
def State.issue (id : Nat) (segments : List Segment) (s : State) : State :=
  let due := s.tmb.uptime + s.sto.policy.verdictLifetime * 1024
  (s.onSrv fun v =>
    { verdicts := v.verdicts ++ [{ id := id, issued := s.tmb.uptime, expiry := due, segments := segments }]
      lastId := id }).enter (.verdict id) due

/-- A RESOLVE of `n` blocks from `start` (R29 to R40). -/
def State.resolve (h : Header) (start n : Nat) (kind : Access) (s : State) : State :=
  let all := s.pieces start n
  let full := decide (32 ≤ s.srv.verdicts.length)
  let v := (all.take 8).foldl (dispose kind full) { state := s, segments := [], pinned := [] }
  let resume := (all.drop 8).head?.map Piece.first
  if v.segments.any Segment.passes then
    let id := freeId (s.srv.verdicts.map Verdict.id) 32 s.srv.lastId
    (v.state.issue id v.segments).answerOk 0x30 h
      (.resolved s.rmg.mapGen id (some s.sto.policy.verdictLifetime) resume v.segments)
  else v.state.answerOk 0x30 h (.resolved s.rmg.mapGen 0 none resume v.segments)

/-- RESOLVE (R28): the count is carried less one. -/
def execResolve (h : Header) (start countLessOne : Nat) (kind : Option Access) (s : State) :
    Host.Outcome State Fault Refusal :=
  s.request (.resolve h start countLessOne kind) 0x30 h (fun _ => [(h.sized && kind.isSome, .badArg)])
    fun s => match kind with
      | some k => s.resolve h start (countLessOne + 1) k
      | none => s.noAnswer

/-- One id of RELEASE, with the results so far: OK where the table holds it, STALE otherwise (R43). -/
def releaseOne (acc : State × List Bool) (id : Nat) : State × List Bool :=
  match acc.1.srv.verdicts.find? fun v => v.id == id with
  | some v => (acc.1.dropVerdict v, acc.2 ++ [true])
  | none => (acc.1, acc.2 ++ [false])

/-- RELEASE (R43). -/
def execRelease (h : Header) (ids : List Nat) (s : State) : Host.Outcome State Fault Refusal :=
  s.request (.release h ids) 0x31 h (fun _ => [(h.sized && 1 ≤ ids.length && ids.length ≤ 16, .badArg)]) fun s =>
    let acc := ids.foldl releaseOne (s, [])
    acc.1.answerOk 0x31 h (.released acc.2)

/-- VERDICT_EXPIRY (R42): a verdict's deadline has fallen due. -/
def execVerdictExpiry (id : Nat) (s : State) : Host.Outcome State Fault Refusal :=
  s.occur fun s =>
    match s.takeFallen (.verdict id) with
    | some (t, _) =>
      match t.srv.verdicts.find? fun v => v.id == id with
      | some v => t.dropVerdict v
      | none => t
    | none => s

end Sys2Proof.Machine
end

