-- ==== Sys2Proof/Machine/Store.lean ====
section
/-! DEFINITION. The store family: the ends of a record write and of a bank erase. -/

namespace Sys2Proof.Machine

/-- RECORD_WRITE (R154): the write in flight ends with its verify. `wpcFirst` says whether WPC's request, if one follows, is taken
before STO starts its next operation (R157). -/
def execRecordWrite (good wpcFirst : Bool) (s : State) : Host.Outcome State Fault Refusal :=
  s.occur fun s =>
    match s.sto.inFlight with
    | some (.write c retry forWipe) =>
      if good || retry then s.writeDone c forWipe good wpcFirst
      else s.onSto fun t => { t with inFlight := some (.write c true forWipe) }
    | some (.erase _ _) => s
    | none => s

/-- BANK_ERASE (R155): the erase in flight ends with its verify. -/
def execBankErase (good wpcFirst : Bool) (s : State) : Host.Outcome State Fault Refusal :=
  s.occur fun s =>
    match s.sto.inFlight with
    | some (.erase b retry) =>
      if good || retry then s.eraseDone b good wpcFirst
      else s.onSto fun t => { t with inFlight := some (.erase b true) }
    | some (.write _ _ _) => s
    | none => s

end Sys2Proof.Machine
end

