-- ==== Sys2Proof/Machine/Threat.lean ====
section
/-! DEFINITION. The threat family: the capture requests, the triggers, the debouncers, the absence check and the grace. -/

namespace Sys2Proof.Machine

/-- The absence field of READ_CAPTURES (R113). -/
def State.absenceState (s : State) : AbsenceState :=
  if s.sto.policy.absenceLimit = 0 || s.aut.lifecycle != .provisioned then .off
  else if s.thm.armed then .armed
  else .fired

/-- The READ_CAPTURES reply (R113). -/
def State.capturesBody (s : State) : ReplyBody :=
  let grace := if s.thm.level = .alarm then s.thm.grace else none
  .captures s.thm.level grace (grace.map fun g => g - s.pscNow) s.pscNow s.aut.lastSignIn s.absenceState
    s.thm.bay.settled s.thm.caseSw.settled s.pins.halt s.thm.captures.list

/-- READ_CAPTURES (R113). -/
def execReadCaptures (h : Header) (s : State) : Host.Outcome State Fault Refusal :=
  s.requestAlways (.readCaptures h) 0x34 h (fun _ => [(h.sized, .badArg)]) fun s => s.answerOk 0x34 h s.capturesBody

/-- CLEAR_CAPTURE past its checks of kind and authority (R114). -/
def State.clearCapture (h : Header) (k : TriggerKind) (s : State) : State :=
  if (s.thm.captures.get (kindIx k)).isNone then s.answerOk 0x35 h .empty
  else if s.freeDeferred.isNone then s.answer 0x35 h.tag (.plain .busy)
  else
    ((s.onThm fun t => { t with captures := t.captures.set (kindIx k) none }).deferWrites 0x35 h .thm none
      [.capture (kindIx k)] none (.plain .ok) (storeFault .none)).mark (.capture (kindIx k))

/-- CLEAR_CAPTURE (R114). -/
def execClearCapture (h : Header) (acting : Nat) (kind : Option TriggerKind) (s : State) :
    Host.Outcome State Fault Refusal :=
  s.request (.clearCapture h acting kind) 0x35 h
    (fun s => [(h.sized && kind.isSome, .badArg), (acting == 0 && s.signedIn acting, .denied)])
    fun s => match kind with
      | some k => s.clearCapture h k
      | none => s.noAnswer

/-- TRIGGER (R97): THM takes a trigger, one that was raised leaving those waiting; from step 1 of a start to step 5 it
stays held (log 43). -/
def execTrigger (kind : TriggerKind) (s : State) : Host.Outcome State Fault Refusal :=
  s.occur fun s =>
    if s.thmWorks then (s.onThm fun t => { t with raised := t.raised.erase kind }).takeTrigger kind else s

/-- A debouncer that has settled (R98). -/
def Debouncer.settle (d : Debouncer) : Debouncer :=
  { d with settled := if d.runOpen then .opened else .closed, run := 0 }

/-- The trigger of a line (R98). -/
def lineTrigger : Line → TriggerKind
  | .bay => .bay
  | .caseSw => .caseSw

/-- The debouncer of a line (R98). -/
def Thm.debouncer (t : Thm) : Line → Debouncer
  | .bay => t.bay
  | .caseSw => t.caseSw

/-- The debouncer of a line replaced. -/
def Thm.setDebouncer (t : Thm) (l : Line) (d : Debouncer) : Thm :=
  match l with
  | .bay => { t with bay := d }
  | .caseSw => { t with caseSw := d }

/-- DEBOUNCER_SETTLE (R98): a run of 16 settles, and to OPEN raises the line's trigger. -/
def execDebouncerSettle (line : Line) (s : State) : Host.Outcome State Fault Refusal :=
  s.occur fun s =>
    let d := s.thm.debouncer line
    if s.thmWorks && 16 ≤ d.run then
      let t := s.onThm fun h => h.setDebouncer line d.settle
      if d.runOpen then t.raiseTrigger (lineTrigger line) else t
    else s

/-- ABSENCE_CHECK (R101, R102): at the boundary at which its entry fell due. -/
def execAbsenceCheck (s : State) : Host.Outcome State Fault Refusal :=
  s.occur fun s =>
    match s.takeFallen .absence with
    | some (t, _) =>
      if t.absenceApplies && t.sto.policy.absenceLimit ≤ t.pscNow - t.aut.lastSignIn then
        (t.onThm fun h => { h with armed := false }).raiseTrigger .absence
      else t
    | none => s

/-- GRACE_EXPIRY (R105): under ALARM the level passes to WIPING with cause GRACE. -/
def execGraceExpiry (s : State) : Host.Outcome State Fault Refusal :=
  s.occur fun s =>
    if s.thmWorks then
      match s.takeFallen .grace with
      | some (t, _) => if t.thm.level = .alarm then t.enterWiping .grace else t
      | none => s
    else s

end Sys2Proof.Machine
end

