-- ==== Sys2Proof/Machine/Time.lean ====
section
/-! DEFINITION. The time family: READ_TIME, the tick boundary, the crystal, calibration and TMB's own deadlines. -/

namespace Sys2Proof.Machine

/-- READ_TIME (R151). -/
def execReadTime (h : Header) (s : State) : Host.Outcome State Fault Refusal :=
  s.requestAlways (.readTime h) 0x03 h (fun _ => [(h.sized, .badArg)]) fun s =>
    s.answerOk 0x03 h
      (.time s.pscNow (s.tmb.uptime / 1024) (s.tmb.uptime % 1024) s.tmb.quality s.tmb.supervisor s.tmb.acceptedM
        s.tmb.measuredM s.tmb.divisor s.sto.policy.stimulation)

/-! ## TICK_BOUNDARY (R98, R135 to R137, R149, R150) -/

/-- One sample of a debouncer (R98). A run stands at 16 until DEBOUNCER_SETTLE takes it. -/
def Debouncer.sample (d : Debouncer) (isOpen : Bool) : Debouncer :=
  if d.run = 16 then d
  else if d.settled = (if isOpen then .opened else .closed) then { d with run := 0 }
  else if d.run = 0 || d.runOpen != isOpen then { d with run := 1, runOpen := isOpen }
  else { d with run := d.run + 1 }

/-- The lines sampled at a tick boundary (R98; log 4). -/
def State.sampleLines (l : Lines) (s : State) : State :=
  let t := s.onPins fun p => { p with bayOpen := l.bayOpen, caseOpen := l.caseOpen }
  if t.thmWorks then
    t.onThm fun h => { h with bay := h.bay.sample l.bayOpen, caseSw := h.caseSw.sample l.caseOpen }
  else t

/-- The cycles without a gap that confirm the crystal (R140). -/
def confirmingCycles : Nat := 32768

/-- The crystal cycles counted since the last boundary, gap or pulse (R140; log 36). A count that has reached its end stands until
CRYSTAL_CONFIRMED takes it. -/
def Supervisor.count (cycles : Nat) : Supervisor → Supervisor
  | .confirming n => .confirming (min (n + cycles) confirmingCycles)
  | .confirmed => .confirmed
  | .inUse => .inUse

/-- The PSC at a second boundary (R137). -/
def nextPsc (p : Nat) : Nat := min (p + 1) 4294967295

/-- Uptime, the PSC and the tick generator at a boundary (R135 to R137, R143). -/
def State.advance (cycles : Nat) (s : State) : State :=
  s.onTmb fun t =>
    let up := t.uptime + 1
    { t with
      uptime := up
      psc := if up % 1024 = 0 then t.psc.map nextPsc else t.psc
      cycles := 0
      divisorInUse := if t.source = .rc then t.divisor else t.divisorInUse
      supervisor := if t.xoPulse then t.supervisor else t.supervisor.count cycles
      switchTo := t.switchTo.map fun w => { w with boundary := true } }

/-- An entry falls due at this boundary (R150). -/
def Tmb.fallsDue (t : Tmb) (d : Deadline) : Bool :=
  if d.purpose.inSeconds then
    decide (t.uptime % 1024 = 0) &&
      match t.psc with
      | some p => decide (d.due ≤ p)
      | none => false
  else decide (d.due ≤ t.uptime)

/-- The entries that fall due leave the list and reach their owners, in the list's order, as occurrences of their own (R150; log 16). -/
def State.fallDue (s : State) : State :=
  s.onTmb fun t =>
    let due := (t.deadlines.filter t.fallsDue).map fun d => { d with due := t.uptime }
    { t with
      deadlines := t.deadlines.filter fun d => !(t.fallsDue d)
      fallen := (t.fallen.filter fun d => !(due.any fun e => e.purpose == d.purpose)) ++ due }

/-- TICK_BOUNDARY (R135). -/
def execTickBoundary (lines : Lines) (s : State) : Host.Outcome State Fault Refusal :=
  s.occur fun s => ((s.advance lines.xiCycles).fallDue).sampleLines lines

/-- PSC_PERSISTENCE (R138): a ROUTINE mark of COUNTERS, and the deadline again. -/
def execPscPersistence (s : State) : Host.Outcome State Fault Refusal :=
  s.occur fun s =>
    match s.takeFallen .persistence with
    | some (t, _) => (t.enter .persistence (t.pscNow + 64)).markAs false .counters
    | none => s

/-! ## The crystal (R140, R141) -/

/-- The stimulation deadline is entered where its conditions have come to hold (R147). -/
def State.stimulate (s : State) : State :=
  if s.mayStimulate && s.sto.policy.stimulation then s.enter .stimulation (s.tmb.uptime + 1024) else s

/-- CRYSTAL_GAP in CONFIRMING or CONFIRMED (R140, R142, R144, R145). -/
def execCrystalGap (s : State) : Host.Outcome State Fault Refusal :=
  s.occur fun s =>
    match s.tmb.supervisor with
    | .confirming _ => s.onTmb fun t => { t with supervisor := .confirming 0 }
    | .confirmed =>
      ((s.onTmb fun t =>
        { t with supervisor := .confirming 0, window := none, awaitEdge := false, switchTo := none }).withdraw
          .calibration).stimulate
    | .inUse => s

/-- CRYSTAL_LOSS: a gap in IN_USE (R141). -/
def execCrystalLoss (s : State) : Host.Outcome State Fault Refusal :=
  s.occur fun s =>
    match s.tmb.supervisor with
    | .inUse =>
      let t := ((s.onTmb fun t =>
        { t with
          quality := .holdover, supervisor := .confirming 0, source := .rc, cycles := 0, divisorInUse := t.divisor
          window := none }).withdraw .calibration).stimulate
      (t.clockEvent .crystalLost s.tmb.quality none).raiseTrigger .clock
    | .confirming _ => s
    | .confirmed => s

/-- The most crystal edges that the tick in progress can hold: at the slowest RC that R143's band admits, 131,072 Hz, a crystal cycle
lasts 4 RC cycles (R135, R143; log 36). -/
def Tmb.edgesInTick (t : Tmb) : Nat := t.divisorInUse / 4 + 1

/-- The count of R140 is complete, or the cycles of the tick in progress, which the next boundary would add, can complete it; none are
counted while a pulse is driven on XO (log 36). -/
def Tmb.mayConfirm (t : Tmb) : Bool :=
  match t.supervisor with
  | .confirming n => n == confirmingCycles || (!t.xoPulse && confirmingCycles ≤ n + t.edgesInTick)
  | .confirmed => false
  | .inUse => false

/-- CRYSTAL_CONFIRMED (R140): as the count reaches its end a calibration begins at the next edge, and stimulation ends (R147). -/
def execCrystalConfirmed (s : State) : Host.Outcome State Fault Refusal :=
  s.occur fun s =>
    if s.tmb.mayConfirm then
      (s.onTmb fun t => { t with supervisor := .confirmed, awaitEdge := true }).withdraw .stimulation
    else s

/-! ## Calibration (R142 to R145) -/

/-- CALIBRATION_WINDOW_START (R142): a confirmation window at its first crystal edge. -/
def execCalibrationWindowStart (s : State) : Host.Outcome State Fault Refusal :=
  s.occur fun s =>
    if s.tmb.supervisor = .confirmed && s.tmb.awaitEdge then
      s.onTmb fun t => { t with window := some .confirmation, awaitEdge := false }
    else s

/-- A count is accepted (R143, R145). On the RC a larger D reaches the tick in progress, a smaller one the next. -/
def State.acceptCount (w : Window) (m : Nat) (s : State) : State :=
  s.onTmb fun t =>
    { t with
      window := none, measuredM := some (m, true), acceptedM := some m, divisor := divisorOf m
      divisorInUse := if t.source = .rc then max t.divisorInUse (divisorOf m) else t.divisorInUse
      switchTo := if w = .confirmation then some { measured := m, boundary := false } else t.switchTo }

/-- A count is rejected (R143, R144). -/
def State.rejectCount (w : Window) (m : Nat) (s : State) : State :=
  let s1 := s.onTmb fun t => { t with window := none, measuredM := some (m, false) }
  let s2 := if w = .confirmation then s1.enter .calibration (s.tmb.uptime + 65536) else s1
  (s2.clockEvent .calibrationBand s.tmb.quality (some m)).raiseTrigger .clock

/-- CALIBRATION_COUNT (R143): the window completes with count M. -/
def execCalibrationCount (m : Nat) (s : State) : Host.Outcome State Fault Refusal :=
  s.occur fun s =>
    match s.tmb.window with
    | some w => if inBand m then s.acceptCount w m else s.rejectCount w m
    | none => s

/-- SWITCH_TO_CRYSTAL (R145): at the first tick boundary after the acceptance. -/
def execSwitchToCrystal (s : State) : Host.Outcome State Fault Refusal :=
  s.occur fun s =>
    match s.tmb.switchTo with
    | some w =>
      if w.boundary then
        let t := (((s.onTmb fun t =>
          { t with
            source := .crystal, quality := .true_, supervisor := .inUse, divisorInUse := 32, cycles := 0
            switchTo := none }).enter .calibration (s.tmb.uptime + 65536)).withdraw .stimulation).withdraw .watch
        t.clockEvent .calibrated s.tmb.quality (some w.measured)
      else s
    | none => s

/-! ## TMB's own deadlines (R144, R146, R147) -/

/-- CALIBRATION_DEADLINE (R144): a periodic window begins and the deadline is entered again, or a retry awaits its edge. -/
def execCalibrationDeadline (s : State) : Host.Outcome State Fault Refusal :=
  s.occur fun s =>
    match s.takeFallen .calibration with
    | some (t, due) =>
      match t.tmb.supervisor with
      | .inUse => (t.onTmb fun b => { b with window := some .periodic }).enter .calibration (due + 65536)
      | .confirmed => t.onTmb fun b => { b with awaitEdge := true }
      | .confirming _ => t
    | none => s

/-- UNCALIBRATED_WATCH (R146). -/
def execUncalibratedWatch (s : State) : Host.Outcome State Fault Refusal :=
  s.occur fun s =>
    match s.takeFallen .watch with
    | some (t, _) =>
      if t.tmb.quality = .uncalibrated then
        (t.clockEvent .uncalibrated t.tmb.quality none).raiseTrigger .clock
      else t
    | none => s

/-- STIMULATION_DEADLINE (R147): a pulse on XO, and the deadline again. -/
def execStimulationDeadline (s : State) : Host.Outcome State Fault Refusal :=
  s.occur fun s =>
    match s.takeFallen .stimulation with
    | some (t, due) =>
      if t.mayStimulate && t.sto.policy.stimulation then
        (t.onTmb fun b => { b with xoPulse := true }).enter .stimulation (due + 1024)
      else t
    | none => s

/-- The supervisor's count after a stimulation pulse (R140). -/
def Supervisor.restart : Supervisor → Supervisor
  | .confirming _ => .confirming 0
  | .confirmed => .confirmed
  | .inUse => .inUse

/-- STIMULATION_PULSE_END (R140). -/
def execStimulationPulseEnd (s : State) : Host.Outcome State Fault Refusal :=
  s.occur fun s =>
    if s.tmb.xoPulse then s.onTmb fun t => { t with xoPulse := false, supervisor := t.supervisor.restart } else s

end Sys2Proof.Machine
end

