-- ==== Sys2Proof/Machine/Wipe.lean ====
section
/-! DEFINITION. The wipe family: the WIPE request. The wipe itself is in Levels.lean (phase 0) and Report.lean (phases 1 to 3). -/

namespace Sys2Proof.Machine

/-- The acting authority is ADMIN and signed in (R118). -/
def State.wipeByAdmin (s : State) (acting : Option Nat) : Bool := acting == some 0 && s.signedIn 0

/-- The token's digest equals the stored verifier (R118; log 10). -/
def State.wipeByToken (s : State) (token : Option (List Byte)) : Bool :=
  match token, s.aut.token with
  | some t, some v => v.token == t
  | _, _ => false

/-- WIPE (R118, R119). -/
def execWipe (h : Header) (acting : Option Nat) (token : Option (List Byte)) (s : State) :
    Host.Outcome State Fault Refusal :=
  s.request (.wipe h acting token) 0x38 h
    (fun s =>
      [(h.sized && (acting.isSome || token.isSome) && acting.all (fun a => a < 8) && token.all tokenFits, .badArg),
        (s.aut.lifecycle == .provisioned, .wrongState), (s.wipeByAdmin acting || s.wipeByToken token, .denied)])
    fun s =>
      (s.answer 0x38 h.tag { result := .accepted, body := .wipeAccepted (!s.wipeByAdmin acting) }).raiseTrigger .remote

end Sys2Proof.Machine
end

