-- ==== Sys2Proof/Machine/Dispatch.lean ====
section
/-! DEFINITION. The meaning of every command, one arm each. -/

namespace Sys2Proof.Machine

/-- The effect of a command on everything but the queue. -/
def exec (i : Instr) (s : State) : Host.Outcome State Fault Refusal :=
  match i with
  | .coldStart => Sys2Proof.Machine.execColdStart s
  | .powerLoss => Sys2Proof.Machine.execPowerLoss s
  | .integrityScan => Sys2Proof.Machine.execIntegrityScan s
  | .selHeldLow => Sys2Proof.Machine.execSelHeldLow s
  | .warmStartProceed => Sys2Proof.Machine.execWarmStartProceed s
  | .wakePulse => Sys2Proof.Machine.execWakePulse s
  | .dpwrRise => Sys2Proof.Machine.execDpwrRise s
  | .dpwrFall => Sys2Proof.Machine.execDpwrFall s
  | .standby h => Sys2Proof.Machine.execStandby h s
  | .restart h check => Sys2Proof.Machine.execRestart h check s
  | .inboundFrame bytes whole => Sys2Proof.Machine.execInboundFrame bytes whole s
  | .readPeriod clocked whole => Sys2Proof.Machine.execReadPeriod clocked whole s
  | .linkReply => Sys2Proof.Machine.execLinkReply s
  | .identify h => Sys2Proof.Machine.execIdentify h s
  | .status h => Sys2Proof.Machine.execStatus h s
  | .readTime h => Sys2Proof.Machine.execReadTime h s
  | .configure h acting items => Sys2Proof.Machine.execConfigure h acting items s
  | .freeze h => Sys2Proof.Machine.execFreeze h s
  | .setGuard h acting mode => Sys2Proof.Machine.execSetGuard h acting mode s
  | .provision h admin rescue adminSet rescueSet => Sys2Proof.Machine.execProvision h admin rescue adminSet rescueSet s
  | .authenticate h authority credential => Sys2Proof.Machine.execAuthenticate h authority credential s
  | .signOut h authority => Sys2Proof.Machine.execSignOut h authority s
  | .setCredential h acting user credential grantSet startupSet => Sys2Proof.Machine.execSetCredential h acting user credential grantSet startupSet s
  | .disableAuthority h acting target => Sys2Proof.Machine.execDisableAuthority h acting target s
  | .grant h acting user range => Sys2Proof.Machine.execGrant h acting user range s
  | .revoke h acting user range => Sys2Proof.Machine.execRevoke h acting user range s
  | .pairChallenge h => Sys2Proof.Machine.execPairChallenge h s
  | .pairProve h proof => Sys2Proof.Machine.execPairProve h proof s
  | .setPairing h acting secret token => Sys2Proof.Machine.execSetPairing h acting secret token s
  | .defineRange h acting geometry flags => Sys2Proof.Machine.execDefineRange h acting geometry flags s
  | .modifyRange h acting index flags geometry => Sys2Proof.Machine.execModifyRange h acting index flags geometry s
  | .modifyRangeGeometry h acting index geometry => Sys2Proof.Machine.execModifyRangeGeometry h acting index geometry s
  | .deleteRange h acting index => Sys2Proof.Machine.execDeleteRange h acting index s
  | .listRanges h acting => Sys2Proof.Machine.execListRanges h acting s
  | .lockRange h acting index mode => Sys2Proof.Machine.execLockRange h acting index mode s
  | .unlockRange h acting index mode => Sys2Proof.Machine.execUnlockRange h acting index mode s
  | .rekeyRange h acting index => Sys2Proof.Machine.execRekeyRange h acting index s
  | .resolve h start countLessOne kind => Sys2Proof.Machine.execResolve h start countLessOne kind s
  | .release h ids => Sys2Proof.Machine.execRelease h ids s
  | .readSlots h acting => Sys2Proof.Machine.execReadSlots h acting s
  | .readCaptures h => Sys2Proof.Machine.execReadCaptures h s
  | .clearCapture h acting kind => Sys2Proof.Machine.execClearCapture h acting kind s
  | .wipe h acting token => Sys2Proof.Machine.execWipe h acting token s
  | .verdictExpiry id => Sys2Proof.Machine.execVerdictExpiry id s
  | .laneFrameSent => Sys2Proof.Machine.execLaneFrameSent s
  | .loadAck good => Sys2Proof.Machine.execLoadAck good s
  | .clearAck good => Sys2Proof.Machine.execClearAck good s
  | .ackTimeout => Sys2Proof.Machine.execAckTimeout s
  | .syncError => Sys2Proof.Machine.execSyncError s
  | .purgePulseEnd => Sys2Proof.Machine.execPurgePulseEnd s
  | .haltRise => Sys2Proof.Machine.execHaltRise s
  | .haltFall => Sys2Proof.Machine.execHaltFall s
  | .derivationComplete => Sys2Proof.Machine.execDerivationComplete s
  | .backoffExpiry authority => Sys2Proof.Machine.execBackoffExpiry authority s
  | .pairingWindowExpiry => Sys2Proof.Machine.execPairingWindowExpiry s
  | .trigger kind => Sys2Proof.Machine.execTrigger kind s
  | .debouncerSettle line => Sys2Proof.Machine.execDebouncerSettle line s
  | .absenceCheck => Sys2Proof.Machine.execAbsenceCheck s
  | .graceExpiry => Sys2Proof.Machine.execGraceExpiry s
  | .bankErase good wpcFirst => Sys2Proof.Machine.execBankErase good wpcFirst s
  | .recordWrite good wpcFirst => Sys2Proof.Machine.execRecordWrite good wpcFirst s
  | .tickBoundary lines => Sys2Proof.Machine.execTickBoundary lines s
  | .pscPersistence => Sys2Proof.Machine.execPscPersistence s
  | .crystalGap => Sys2Proof.Machine.execCrystalGap s
  | .crystalLoss => Sys2Proof.Machine.execCrystalLoss s
  | .crystalConfirmed => Sys2Proof.Machine.execCrystalConfirmed s
  | .calibrationWindowStart => Sys2Proof.Machine.execCalibrationWindowStart s
  | .calibrationCount m => Sys2Proof.Machine.execCalibrationCount m s
  | .switchToCrystal => Sys2Proof.Machine.execSwitchToCrystal s
  | .calibrationDeadline => Sys2Proof.Machine.execCalibrationDeadline s
  | .uncalibratedWatch => Sys2Proof.Machine.execUncalibratedWatch s
  | .stimulationDeadline => Sys2Proof.Machine.execStimulationDeadline s
  | .stimulationPulseEnd => Sys2Proof.Machine.execStimulationPulseEnd s
  | .selFall sckHigh => Sys2Proof.Machine.execSelFall sckHigh s

end Sys2Proof.Machine
end

