-- ==== Sys2Proof/Safety.lean ====
section
/-! DEFINITION. The terms claims use: when a request is served and how it is answered, what stays unchanged part by part, the invariants,
and the request that a command is. -/

namespace Sys2Proof.Machine

/-! ## Work, whichever writes have started -/

/-- The waits of a piece of work, whichever of their writes have started. -/
def Work.plain : Work → Work
  | .lock r => .lock r
  | .writes ws r done fault => .writes (waitsFor (ws.map Wait.record)) r done fault
  | .engine => .engine

/-- A deferred-reply entry, whichever of the writes it waits on have started. -/
def Deferred.plain (d : Deferred) : Deferred :=
  { d with state := match d.state with
    | .working w => .working w.plain
    | .ready r => .ready r }

/-- The engine and its job, whichever of the writes it waits on have started. -/
def Engine.plain : Engine → Engine
  | .idle => .idle
  | .charging j ws => .charging j (waitsFor (ws.map Wait.record))
  | .deriving_ j => .deriving_ j
  | .finishing stage domain ws => .finishing stage domain (waitsFor (ws.map Wait.record))

/-! ## Requests and their answers -/

/-- A request is taken by the executor (R177, R178): the part is ACTIVE, and either the waiting position is empty with `need` entries
free, or it holds this request with `need` entries reserved. -/
def State.Serves (c : Instr) (need : Nat) (s : State) : Prop :=
  s.pwc.power = .active ∧
    ((s.lnk.waiting = none ∧ s.lnk.outbound.length + s.lnk.reserved + need ≤ 8) ∨
      ∃ w, s.lnk.waiting = some w ∧ w.isFor c = true ∧ need ≤ s.lnk.reserved)

/-- From `s` to `t` the request is answered at once: its replies join the tail of the outbound queue, ahead of whatever is granted
an entry after them, and the waiting position is empty (R177, R178). -/
def State.RepliedAll (kind tag : Byte) (rs : List Reply) (s t : State) : Prop :=
  t.lnk.waiting = none ∧
    ∃ more, t.lnk.outbound = s.lnk.outbound ++ rs.map (fun r => OutFrame.reply (kind + 0x80) tag r) ++ more

/-- The request is answered at once with one reply. -/
def State.Replied (kind tag : Byte) (r : Reply) (s t : State) : Prop := s.RepliedAll kind tag [r] t

/-- The reply that carries the result OK and the fields given. -/
def okWith (b : ReplyBody) : Reply := { result := .ok, body := b }

/-- The number a setting holds, an enumerated one by its code (R163). -/
def Policy.value (p : Policy) (id : Nat) : Nat :=
  match id with
  | 1 => p.verdictLifetime
  | 2 => p.haltPolicy.ix
  | 3 => p.failureLimit
  | 4 => p.tryLimit
  | 5 => p.workFactor
  | 6 => p.pairWindow
  | 7 => p.responseBay.rank
  | 8 => p.responseCase.rank
  | 9 => p.responsePairing.rank
  | 10 => p.responseAbsence.rank
  | 11 => p.responseClock.rank
  | 12 => p.responseHalt.rank
  | 13 => p.absenceLimit
  | 14 => p.grace
  | 15 => if p.stimulation then 1 else 0
  | 16 => match p.attnMode with
    | .any => 0
    | .notice => 1
  | _ => 0

/-- The range entries that a LIST_RANGES reply carries (R14). -/
def Reply.entries (r : Reply) : List ListedRange :=
  match r.body with
  | .ranges _ _ _ _ entries => entries
  | _ => []

/-- From `s` to `t` the request takes the lowest free deferred-reply entry in state WORKING for its owner, and the waiting
position is empty (R177, R180). -/
def State.Deferring (kind tag : Byte) (owner : Block) (s t : State) : Prop :=
  t.lnk.waiting = none ∧
    ∃ i d, s.lnk.deferred.get i = none ∧ (∀ j, j < i → (s.lnk.deferred.get j).isSome) ∧
      t.lnk.deferred.get i = some d ∧ d.kind = kind ∧ d.tag = tag ∧ d.owner = owner ∧ isReady (some d) = false

/-- A request is taken by the executor below WIPING, its payload read wholly as its fields. -/
def State.TakesUp (c : Instr) (s : State) : Prop :=
  s.Serves c 1 ∧ s.thm.level ≠ .wiping ∧ c.sized = true

/-- Every deferred-reply entry WORKING in `s` stands in `t`, whichever of the writes it waits on have started. -/
def State.KeepsWorking (s t : State) : Prop :=
  ∀ i d, s.lnk.deferred.get i = some d → isReady (some d) = false →
    (t.lnk.deferred.get i).map Deferred.plain = some d.plain

/-- The entry `d` at position `i` has come to its reply: it is READY with it, or the reply has joined the outbound queue (R178,
R180). -/
def State.Finishes (i : DeferIx) (d : Deferred) (r : Reply) (t : State) : Prop :=
  t.lnk.deferred.get i = some { d with state := .ready r } ∨ OutFrame.reply (d.kind + 0x80) d.tag r ∈ t.lnk.outbound

/-- A notice with this content is queued or pending (R179). -/
def State.Notified (n : Notice) (t : State) : Prop := OutFrame.notice n ∈ t.lnk.outbound ∨ n ∈ t.lnk.pendingSet

/-- LNK holds nothing: no waiting frame, no outbound frame or reserved entry, no pending notice, no deferred reply, and the overrun
flag clear (R181). -/
def State.LinkEmptied (t : State) : Prop :=
  t.lnk.waiting = none ∧ t.lnk.outbound = [] ∧ t.lnk.reserved = 0 ∧ t.lnk.pendingSet = [] ∧
    (∀ i, t.lnk.deferred.get i = none) ∧ t.lnk.overrun = false ∧ t.lnk.period = none

/-- The records of `t` are those of `s` as the supply's fall leaves them: a write in flight leaves the previous contents, an erase
in flight leaves its bank's records invalid (R154, R155). -/
def State.RecordsCutOff (s t : State) : Prop :=
  ((∀ b retry, s.sto.inFlight ≠ some (.erase b retry)) → t.sto.records = s.sto.records) ∧
    ∀ b retry, s.sto.inFlight = some (.erase b retry) →
      (∀ r, t.sto.records.rangeKey.get r = if b = .k0 then .invalid else s.sto.records.rangeKey.get r) ∧
      (∀ p, t.sto.records.envelope.get p =
        if b ≠ .k0 ∧ envelopeBank p = b then .invalid else s.sto.records.envelope.get p) ∧
      t.sto.records = { s.sto.records with
        rangeKey := t.sto.records.rangeKey, envelope := t.sto.records.envelope }

/-- Nobody is signed in, and no domain key or KEK is cached (R5, R85). -/
def State.SignedOut (t : State) : Prop :=
  (∀ a, (t.aut.auth.get a).signedIn = false) ∧ t.rmg.domainKey = none ∧ ∀ a, t.rmg.keks.get a = none

/-- What a purge leaves: every slot EMPTY without occupant or pins, the queue and the verdict table empty, no range with a slot,
PURGE pulsing, and no acknowledgement or expiry of a verdict to come (R47, R64). -/
def State.Purged (t : State) : Prop :=
  (∀ i, (t.kln.slots.get i).state = .empty ∧ (t.kln.slots.get i).occupant = none ∧ (t.kln.slots.get i).next = none ∧
      (t.kln.slots.get i).pins = 0) ∧
    t.kln.queue = [] ∧ t.kln.badRun = 0 ∧ t.srv.verdicts = [] ∧ t.kln.purgePulse = true ∧
    (∀ d, d ∈ t.tmb.deadlines ∨ d ∈ t.tmb.fallen → d.purpose.purged = false) ∧ ∀ r, (t.rmg.ranges.get r).slot = none

/-- The lane stands IDLE with this queue, or has started its head (R58). -/
def State.LaneRuns (q : List LaneFrame) (t : State) : Prop :=
  (t.kln.lane = .idle ∧ t.kln.queue = q) ∨
    ∃ f g, q = f :: t.kln.queue ∧ t.kln.lane = .sending g ∧ g.op = f.op ∧ g.slot = f.slot

/-- The ranges wanted, in their order, have taken the EMPTY slots of `slots`, lowest first, as far as they go: each such slot is LOADING
for its range's key, and its LOAD has joined the tail of `queue`, in the same order. The other slots stand, and a range left over
has no slot (R5, R52, R55). The lane was in `lane`. -/
def State.Loads (wanted : List RangeIx) (slots : Table Slot 8) (queue : List LaneFrame) (lane : Lane) (t : State) : Prop :=
  let free := slots.positions fun l => l.state == .empty
  let key (r : RangeIx) : Option Occupant := some { range := r, generation := (t.rmg.ranges.get r).generation }
  let loads := (wanted.zip free).map fun w => { op := .load, slot := w.2, key := key w.1 }
  (∀ (k : Nat) r, wanted[k]? = some r → (t.rmg.ranges.get r).slot = free[k]?) ∧
    (∀ w ∈ wanted.zip free, t.kln.slots.get w.2 =
      { state := .loading, occupant := key w.1, next := none, pins := 0, lastUse := t.tmb.uptime }) ∧
    (∀ i, i ∉ free.take wanted.length → t.kln.slots.get i = slots.get i) ∧
    (lane = .idle → t.LaneRuns (queue ++ loads)) ∧
    (lane ≠ .idle → t.kln.lane = lane ∧ t.kln.queue = queue ++ loads)

/-- The lock of `r` has completed: a LOCK_RANGE that waited on it is answered OK with LOCKED, and a REKEY_RANGE no longer waits on it, and
is answered where its writes are done too (R19, R21). -/
def State.LockTold (r : RangeIx) (s t : State) : Prop :=
  ∀ i d, s.lnk.deferred.get i = some d →
    (d.state = .working (.lock r) → t.Finishes i d lockedReply) ∧
    ∀ ws done fault, d.state = .working (.writes ws (some r) done fault) →
      (ws = [] → t.Finishes i d done) ∧
      (ws ≠ [] → t.lnk.deferred.get i = some { d with state := .working (.writes ws none done fault) })

/-- What R16 makes of `r`, LOCKING in `s` with `lock_enabled` false, as its lock completes by the clear of its slot, which leaves these
slots and this lane queue: under CALM or WARY, KEYED and with a device wrap it opens with the key the wrap yields, and an eager load; a
failed unwrap leaves it LOCKED, its RANGE KEY record faulty; otherwise it is LOCKED. -/
def State.LockOpens (r : RangeIx) (slots : Table Slot 8) (queue : List LaneFrame) (s t : State) : Prop :=
  let e := s.rmg.ranges.get r
  let shut := t.rmg.ranges = s.rmg.ranges.set r { e with lock := .locked, slot := none } ∧
    t.rmg.rangeKeys = s.rmg.rangeKeys.set r none ∧ t.kln.slots = slots ∧ t.LaneRuns queue
  (∀ w, s.defined r = true → e.keyState = .keyed → e.deviceWrap = some w → s.thm.level = .calm ∨ s.thm.level = .wary →
    (w.intact = true ∧ w.under = .device →
      t.rmg.ranges = s.rmg.ranges.set r { e with lock := .opened, slot := (t.rmg.ranges.get r).slot } ∧
      t.rmg.rangeKeys = s.rmg.rangeKeys.set r (some w.holds) ∧ t.Loads [r] slots queue .idle ∧
      t.sto.faulty = s.sto.faulty) ∧
    (w.intact = false ∨ w.under ≠ .device → shut ∧ ∀ q, q ∈ t.sto.faulty ↔ q ∈ s.sto.faulty ∨ q = .rangeKey r)) ∧
  (s.defined r = false ∨ e.keyState = .erased ∨ e.deviceWrap = none ∨ s.thm.level = .alarm ∨ s.thm.level = .wiping →
    shut ∧ t.sto.faulty = s.sto.faulty)

/-- Every LOCKING range has `lock_enabled` true: none opens from its device wrap as its lock completes (R16, R19; log 30). -/
def State.LockingStayLocked (s : State) : Prop :=
  ∀ r, (s.rmg.ranges.get r).lock = .locking → (s.rmg.ranges.get r).flags.lockEnabled = true

/-- No two ranges name one slot (R50). -/
def State.SlotsDistinct (s : State) : Prop :=
  ∀ q r i, (s.rmg.ranges.get q).slot = some i → (s.rmg.ranges.get r).slot = some i → q = r

/-- A deadline of this purpose has fallen due and its owner has not yet taken it (R150). -/
def State.HasFallen (p : Purpose) (s : State) : Prop := (s.tmb.fallen.any fun d => d.purpose == p) = true

/-- No occurrence of this purpose waits to be taken. -/
def State.Taken (p : Purpose) (t : State) : Prop := (t.tmb.fallen.any fun d => d.purpose == p) = false

/-- Every deadline of another purpose than `mine`, in the list or fallen due, stands, and none is new; the absence check's entry follows its
own conditions (R101, R149, R150). -/
def State.OthersStand (mine : Purpose → Bool) (s t : State) : Prop :=
  ∀ d : Deadline, mine d.purpose = false → d.purpose ≠ .absence →
    (d ∈ t.tmb.deadlines ↔ d ∈ s.tmb.deadlines) ∧ (d ∈ t.tmb.fallen ↔ d ∈ s.tmb.fallen)

/-- The backoff that an abort of the engine's job sets (R77). -/
def Engine.backoff (e : Engine) : Option Purpose :=
  match e.job with
  | some (.authenticate a _) => some (.backoff a)
  | some (.setCredential _ _ _ _ _ _) => none
  | some (.provision _) => none
  | none => none

/-- A record waits on the dirty list, or a write of it is in flight (R156). -/
def State.Marked (s : State) (r : RecordId) : Prop :=
  (∃ e ∈ s.sto.dirty, e.record = r) ∨ ∃ c retry forWipe, s.sto.inFlight = some (.write c retry forWipe) ∧ c.id = r

/-- WPC's request has reached the store: the operation is in flight, or, where STO's own next start went first, waits ahead of the dirty
list (R157; log 17). -/
def State.Asked (wpcFirst : Bool) (op : WipeOp) (t : State) : Prop :=
  (wpcFirst = false ∧ t.sto.waitingWipe = some op) ∨
    match op with
    | .erase b => t.sto.inFlight = some (.erase b false)
    | .write r => ∃ c, t.sto.inFlight = some (.write c false true) ∧ c.id = r

/-- The acting authority and the index of a request that names a range (R8). -/
def namedRange : Instr → Option (Nat × Nat)
  | .grant _ acting _ range => some (acting, range)
  | .revoke _ acting _ range => some (acting, range)
  | .modifyRange _ acting index _ _ => some (acting, index)
  | .modifyRangeGeometry _ acting index _ => some (acting, index)
  | .deleteRange _ acting index => some (acting, index)
  | .lockRange _ acting index _ => some (acting, index)
  | .unlockRange _ acting index _ => some (acting, index)
  | .rekeyRange _ acting index => some (acting, index)
  | _ => none

/-- The acting authority of a request that any signed-in admin may make, if it names no range (R10, R86, R88, R90). -/
def actingAdmin : Instr → Option Nat
  | .defineRange _ acting _ _ => some acting
  | .setCredential _ acting _ _ _ _ => some acting
  | .disableAuthority _ acting _ => some acting
  | .setPairing _ acting _ _ => some acting
  | _ => none

/-- The acting authority of a request that ADMIN alone may make (R114, R162, R163). -/
def actingAdminItself : Instr → Option Nat
  | .configure _ acting _ => some acting
  | .setGuard _ acting _ => some acting
  | .clearCapture _ acting (some _) => some acting
  | _ => none

/-- The requests whose permitted indices hold 0 (R8, R11, R17, R15, R21). -/
def mayNameZero : Instr → Bool
  | .modifyRange _ _ _ _ none => true
  | .lockRange _ _ _ _ => true
  | .unlockRange _ _ _ _ => true
  | .rekeyRange _ _ _ => true
  | _ => false

/-- The request whose rights are an envelope's too (R8). -/
def mayUserAct : Instr → Bool
  | .lockRange _ _ _ _ => true
  | .unlockRange _ _ _ _ => true
  | _ => false

/-- The guarded requests (R160). -/
def isGuarded : Instr → Bool
  | .configure _ _ _ => true
  | .setGuard _ _ _ => true
  | .setPairing _ _ _ _ => true
  | .defineRange _ _ _ _ => true
  | .modifyRange _ _ _ _ _ => true
  | .modifyRangeGeometry _ _ _ _ => true
  | .deleteRange _ _ _ => true
  | _ => false

/-- The request kinds answered as in any other level while the level is WIPING (R131). -/
def answeredInWiping (kind : Byte) : Bool := kind = 0x01 || kind = 0x02 || kind = 0x03 || kind = 0x34

/-! ## What a start reads -/

/-- A record gives no content: it is not sound, or a field of it lies outside its values (R159). -/
def Kept.Refused {α : Type} (valid : α → Bool) (k : Kept α) : Prop := ∀ a, k = .sound a → valid a = false

/-- An image is its record's content where that is sound and within its values; otherwise it is the fallback, and the record, and then
alone, is faulty (R159). -/
def State.Images {α : Type} (t : State) (valid : α → Bool) (id : RecordId) (k : Kept α) (image fallback : α) : Prop :=
  (∀ a, k = .sound a → valid a = true → image = a) ∧ (k.Refused valid → image = fallback) ∧
    (id ∈ t.sto.faulty ↔ k.Refused valid)

/-- A RANGE record lies within its values: index 0 without a geometry or a concealment flag; another range of at least one block, below C,
and clear of the ranges of lower index that stand (R2, R159). -/
def State.rangeWithin (t : State) (r : RangeIx) (e : RangeRec) : Bool :=
  if r = 0 then e.geometry.isNone && !e.flags.conceal && !e.flags.concealOnWary
  else e.geometry.all fun g =>
    1 ≤ g.length && g.start + g.length ≤ t.sto.identity.capacity &&
      (List.finRange 16).all fun q => !(q < r) || (t.rmg.ranges.get q).geometry.all fun k =>
        g.start + g.length ≤ k.start || k.start + k.length ≤ g.start

/-- The images that a scan takes from the records and that no later step of the start changes: IDENTITY, GUARD, POLICY, PAIRING, the
ranges with their flags and keys, and the envelopes; and which records it finds faulty (R6, R159; logs 26 to 28, 54, 56). An unwrap that
fails later may add RANGE KEY records. -/
def State.HasImages (rs : Records) (t : State) : Prop :=
  t.Images IdentityRec.valid .identity rs.identity t.sto.identity { serial := 0, capacity := 1 } ∧
  t.Images (fun _ => true) .guard rs.guard t.sto.guard .fixed ∧
  t.Images Policy.valid .policy rs.policy t.sto.policy
    { Policy.default with
      responseBay := .alarm, responseCase := .alarm, responsePairing := .alarm, responseAbsence := .alarm
      responseClock := .alarm, responseHalt := .alarm } ∧
  t.Images (fun _ => true) .pairing rs.pairing { secret := t.aut.secret, token := t.aut.token }
    { secret := none, token := none } ∧
  (.counters ∈ t.sto.faulty ↔ rs.counters.Refused CountersRec.valid) ∧
  (∀ a, .authority a ∈ t.sto.faulty ↔ (rs.authority.get a).Refused AuthorityRec.valid) ∧
  (∀ i, .capture i ∈ t.sto.faulty ↔ (rs.capture.get i).Refused fun c => c.all Capture.valid) ∧
  (∀ r, (∀ e, rs.range.get r = .sound e → t.rangeWithin r e = true →
      (t.rmg.ranges.get r).geometry = e.geometry ∧ (t.rmg.ranges.get r).flags = e.flags) ∧
    ((rs.range.get r).Refused (t.rangeWithin r) → (t.rmg.ranges.get r).geometry = none ∧
      (r = 0 → (t.rmg.ranges.get r).flags =
        { lockEnabled := true, conceal := false, concealOnWary := false, lockOnStandby := true })) ∧
    (.range r ∈ t.sto.faulty ↔ (rs.range.get r).Refused (t.rangeWithin r))) ∧
  (∀ r, (∀ k, rs.rangeKey.get r = .sound k → k.valid = true → t.rmg.ranges.get r =
      { t.rmg.ranges.get r with
        keyState := k.state, generation := k.generation, domainWrap := k.domainWrap, deviceWrap := k.deviceWrap }) ∧
    ((rs.rangeKey.get r).Refused RangeKeyRec.valid → (t.rmg.ranges.get r).keyState = .erased ∧
      (t.rmg.ranges.get r).generation = 0 ∧ (t.rmg.ranges.get r).domainWrap = none ∧
      (t.rmg.ranges.get r).deviceWrap = none) ∧
    ((rs.rangeKey.get r).Refused RangeKeyRec.valid → rs.rangeKey.get r ≠ .blank → .rangeKey r ∈ t.sto.faulty)) ∧
  ∀ q, (∀ e, rs.envelope.get q = .sound (some e) → e.valid = true → t.rmg.envelopes.get q =
      match e.target with
      | .domain => some e
      | .range r => if t.defined r = true ∧ (t.rmg.ranges.get r).keyState = .keyed then some e else none) ∧
    ((∀ e, rs.envelope.get q = .sound (some e) → e.valid = false) → t.rmg.envelopes.get q = none) ∧
    (.envelope q ∈ t.sto.faulty ↔
      rs.envelope.get q ≠ .blank ∧ (rs.envelope.get q).Refused fun e => e.all Envelope.valid)

/-! ## What stays unchanged -/

/-- The deadline list without the absence check's entry. -/
def Tmb.otherDeadlines (t : Tmb) : List Deadline := t.deadlines.filter fun d => !(d.purpose == .absence)

/-- The deadlines fallen due and not yet taken, without the absence check's. -/
def Tmb.otherFallen (t : Tmb) : List Deadline := t.fallen.filter fun d => !(d.purpose == .absence)

/-- The parts of the state that a frame names. -/
inductive Part
  | waiting | outbound | pendingSet | deferred | overrun | period | sdo
  | ranges | domainKey | rangeKeys | keks | envelopes | mapGen | grants
  | verdicts
  | slots | badRun | hold | purgePulse | lane
  | authorities | lifecycle | tryCount | lastSignIn | engine | pairing
  | level | grace | raised | captures | debouncers | armed | reports
  | wipe
  | uptime | psc | quality | tick | supervisor | calibration | xo | deadlines | fallen | clockEvent
  | records | operation | dirty | faulty | guard | policy | identity
  | power | resetCause | stage | selTimed
  | pins | draws | queue
deriving DecidableEq, Repr

/-- A part is unchanged from `s` to `t`. Every occurrence ends with the grants of R178, the lane's next start (R58) and the absence
check's entry (R101), so four parts are unchanged up to these: the outbound queue keeps what it held, ahead of what is
granted an entry; the pending set loses only notices so granted; a deferred-reply entry that is not READY keeps its
content; and the lane either keeps its state and queue or, if IDLE, has started the head of the queue. -/
def Part.same (s t : State) : Part → Prop
  | .waiting => t.lnk.waiting = s.lnk.waiting
  | .outbound => ∃ more, t.lnk.outbound = s.lnk.outbound ++ more
  | .pendingSet => t.lnk.pendingSet <:+ s.lnk.pendingSet
  | .deferred => ∀ i, isReady (s.lnk.deferred.get i) = false →
      (t.lnk.deferred.get i).map Deferred.plain = (s.lnk.deferred.get i).map Deferred.plain
  | .overrun => t.lnk.overrun = s.lnk.overrun
  | .period => t.lnk.period = s.lnk.period
  | .sdo => t.lnk.sdo = s.lnk.sdo
  | .ranges => t.rmg.ranges = s.rmg.ranges
  | .domainKey => t.rmg.domainKey = s.rmg.domainKey
  | .rangeKeys => t.rmg.rangeKeys = s.rmg.rangeKeys
  | .keks => t.rmg.keks = s.rmg.keks
  | .envelopes => t.rmg.envelopes = s.rmg.envelopes
  | .mapGen => t.rmg.mapGen = s.rmg.mapGen
  | .grants => t.rmg.grants.map Wait.record = s.rmg.grants.map Wait.record
  | .verdicts => t.srv = s.srv
  | .slots => t.kln.slots = s.kln.slots
  | .badRun => t.kln.badRun = s.kln.badRun
  | .hold => t.kln.hold = s.kln.hold
  | .purgePulse => t.kln.purgePulse = s.kln.purgePulse
  | .lane =>
    (t.kln.lane = s.kln.lane ∧ t.kln.queue = s.kln.queue ∧ t.kln.ldo = s.kln.ldo) ∨
      (s.kln.lane = .idle ∧ ∃ f g, s.kln.queue = f :: t.kln.queue ∧ t.kln.lane = .sending g ∧ g.op = f.op ∧ g.slot = f.slot)
  | .authorities => t.aut.auth = s.aut.auth
  | .lifecycle => t.aut.lifecycle = s.aut.lifecycle
  | .tryCount => t.aut.tryCount = s.aut.tryCount
  | .lastSignIn => t.aut.lastSignIn = s.aut.lastSignIn
  | .engine => t.aut.engine.plain = s.aut.engine.plain
  | .pairing => t.aut.secret = s.aut.secret ∧ t.aut.token = s.aut.token ∧ t.aut.paired = s.aut.paired ∧ t.aut.nonce = s.aut.nonce
  | .level => t.thm.level = s.thm.level
  | .grace => t.thm.grace = s.thm.grace
  | .raised => t.thm.raised = s.thm.raised
  | .captures => t.thm.captures = s.thm.captures
  | .debouncers => t.thm.bay = s.thm.bay ∧ t.thm.caseSw = s.thm.caseSw
  | .armed => t.thm.armed = s.thm.armed
  | .reports => t.thm.lastCause = s.thm.lastCause ∧ t.thm.lastAuthority = s.thm.lastAuthority ∧
      t.thm.levelAtClose = s.thm.levelAtClose ∧ t.thm.changedClosed = s.thm.changedClosed ∧
      t.thm.filledClosed = s.thm.filledClosed
  | .wipe => t.wpc.step = s.wpc.step ∧ t.wpc.phase = s.wpc.phase ∧ t.wpc.next = s.wpc.next ∧
      t.wpc.waits.map Wait.record = s.wpc.waits.map Wait.record ∧ t.wpc.resumed = s.wpc.resumed ∧
      t.wpc.failed = s.wpc.failed ∧ t.wpc.last = s.wpc.last ∧ t.wpc.completedClosed = s.wpc.completedClosed
  | .uptime => t.tmb.uptime = s.tmb.uptime
  | .psc => t.tmb.psc = s.tmb.psc
  | .quality => t.tmb.quality = s.tmb.quality
  | .tick => t.tmb.source = s.tmb.source ∧ t.tmb.divisorInUse = s.tmb.divisorInUse ∧ t.tmb.cycles = s.tmb.cycles
  | .supervisor => t.tmb.supervisor = s.tmb.supervisor
  | .calibration => t.tmb.acceptedM = s.tmb.acceptedM ∧ t.tmb.measuredM = s.tmb.measuredM ∧ t.tmb.divisor = s.tmb.divisor ∧
      t.tmb.window = s.tmb.window ∧ t.tmb.awaitEdge = s.tmb.awaitEdge ∧ t.tmb.switchTo = s.tmb.switchTo
  | .xo => t.tmb.xoPulse = s.tmb.xoPulse
  | .deadlines => t.tmb.otherDeadlines = s.tmb.otherDeadlines
  | .fallen => t.tmb.otherFallen = s.tmb.otherFallen
  | .clockEvent => t.tmb.lastClock = s.tmb.lastClock ∧ t.tmb.clockClosed = s.tmb.clockClosed
  | .records => t.sto.records = s.sto.records
  | .operation => t.sto.inFlight = s.sto.inFlight ∧ t.sto.waitingWipe = s.sto.waitingWipe
  | .dirty => t.sto.dirty = s.sto.dirty
  | .faulty => t.sto.faulty = s.sto.faulty ∧ t.sto.gained = s.sto.gained
  | .guard => t.sto.guard = s.sto.guard ∧ t.sto.frozen = s.sto.frozen
  | .policy => t.sto.policy = s.sto.policy
  | .identity => t.sto.identity = s.sto.identity
  | .power => t.pwc.power = s.pwc.power
  | .resetCause => t.pwc.resetCause = s.pwc.resetCause
  | .stage => t.pwc.stage = s.pwc.stage ∧ t.pwc.waits.map Wait.record = s.pwc.waits.map Wait.record
  | .selTimed => t.pwc.selTimed = s.pwc.selTimed
  | .pins => t.pins = s.pins
  | .draws => t.model.draws = s.model.draws
  | .queue => t.pending = s.pending

/-- Every part but those named is unchanged. -/
def Unchanged (except : List Part) (s t : State) : Prop := ∀ p, p ∉ except → p.same s t

/-- The parts of LNK that a reply or a grant concerns. -/
def Part.replies : List Part := [.waiting, .outbound]

/-- The request is refused: answered at once with this result code alone, and no effect (R8). -/
def State.Refuses (c : Instr) (code : ResultCode) (s : State) : Prop :=
  ∃ kind h t, Sys2Proof.requestOf c = some (kind, h) ∧ exec c s = .next t ∧ s.Replied kind h.tag (.plain code) t ∧
    Unchanged Part.replies s t

/-- The parts that a mark concerns: the dirty list and the operation in flight (R156, R157). -/
def Part.marks : List Part := [.operation, .dirty]

/-! ## Invariants -/

/-- The map generation lies in 1 to 4,294,967,295: it never holds 0 (R7). Between commands the model remembers no increment of
a past occurrence (log 5). -/
def State.MapGenSound (s : State) : Prop :=
  1 ≤ s.rmg.mapGen ∧ s.rmg.mapGen ≤ 4294967295 ∧ s.model.bumped = false

/-- The deadline list holds at most one entry per purpose (R149). -/
def State.DeadlinesSound (s : State) : Prop := (s.tmb.deadlines.map Deadline.purpose).Nodup

/-- At most 32 verdicts, their ids distinct and in 1 to 65,535 (R38, R39). -/
def State.VerdictsSound (s : State) : Prop :=
  s.srv.verdicts.length ≤ 32 ∧ (s.srv.verdicts.map Verdict.id).Nodup ∧
    ∀ v ∈ s.srv.verdicts, 1 ≤ v.id ∧ v.id ≤ 65535

/-- The outbound queue with its reserved entries holds at most 8, notices at most 6 of them, and the pending set at most one
notice of each kind (R178, R179); in STARTING and STANDBY LNK holds nothing (R181). -/
def State.OutboundSound (s : State) : Prop :=
  s.lnk.outbound.length + s.lnk.reserved ≤ 8 ∧ s.lnk.notices ≤ 6 ∧ (s.lnk.pendingSet.map Notice.rank).Nodup ∧
    (s.pwc.power = .starting ∨ s.pwc.power = .standby → s.LinkEmptied)

/-- The derivation engine is IDLE under WIPING, and under ALARM holds no USER's AUTHENTICATE (R77, R104, R120). -/
def State.EngineSound (s : State) : Prop :=
  (s.thm.level = .wiping → s.aut.engine = .idle) ∧
    (s.thm.level = .alarm → ∀ a credential, s.aut.engine.job = some (.authenticate a credential) → isAdmin a = true)

/-- A LOCKED range has no key in the key cache, and an undefined index is LOCKED (R3, R5). -/
def State.RangeKeysSound (s : State) : Prop :=
  ∀ r, ((s.rmg.ranges.get r).lock = .locked → s.rmg.rangeKeys.get r = none) ∧
    (s.defined r = false → (s.rmg.ranges.get r).lock = .locked)

/-- The range whose lock a deferred reply waits on (R19, R21). -/
def Work.awaits : Work → Option RangeIx
  | .lock r => some r
  | .writes _ r _ _ => r
  | .engine => none

/-- In ACTIVE and STANDBY the start's last step is taken (R165, R168). -/
def State.StageSound (s : State) : Prop := s.pwc.power = .active ∨ s.pwc.power = .standby → s.pwc.stage = .done

/-- A range whose lock a deferred reply waits on is LOCKING (R18 to R21). -/
def State.LocksAwaited (s : State) : Prop :=
  ∀ i d w r, s.lnk.deferred.get i = some d → d.state = .working w → w.awaits = some r →
    (s.rmg.ranges.get r).lock = .locking

/-- The domain key is cached only while ADMIN or RESCUE is signed in, and a KEK only for a signed-in USER (R5, R85). -/
def State.AuthorityKeysSound (s : State) : Prop :=
  (s.rmg.domainKey.isSome → s.adminSignedIn) ∧
    ∀ a, (s.rmg.keks.get a).isSome → isUser a ∧ (s.aut.auth.get a).signedIn

/-- The saturating counts keep within their values: PSC, f, G, the capture counts (R71, R72, R111, R137). -/
def State.CountsSound (s : State) : Prop :=
  (∀ p, s.tmb.psc = some p → p ≤ 4294967295) ∧ (∀ a, (s.aut.auth.get a).kept.failures ≤ 255) ∧
    s.aut.tryCount ≤ 65535 ∧ ∀ i c, s.thm.captures.get i = some c → 1 ≤ c.count ∧ c.count ≤ 255

/-- Every defined range holds at least one block and lies wholly below C, no two share a block, and index 0 has no geometry of its
own (R1, R2). -/
def State.RangesSound (s : State) : Prop :=
  (s.rmg.ranges.get 0).geometry = none ∧
    (∀ r g, (s.rmg.ranges.get r).geometry = some g → 1 ≤ g.length ∧ g.start + g.length ≤ s.sto.identity.capacity) ∧
    ∀ q r g k, q ≠ r → (s.rmg.ranges.get q).geometry = some g → (s.rmg.ranges.get r).geometry = some k →
      g.start + g.length ≤ k.start ∨ k.start + k.length ≤ g.start

/-- Every setting lies within its values (R163). -/
def State.SettingsSound (s : State) : Prop :=
  let p := s.sto.policy
  1 ≤ p.verdictLifetime ∧ p.verdictLifetime ≤ 255 ∧ 3 ≤ p.failureLimit ∧ p.failureLimit ≤ 64 ∧ p.tryLimit ≤ 65535 ∧
    16 ≤ p.workFactor ∧ p.workFactor ≤ 255 ∧ 10 ≤ p.pairWindow ∧ p.pairWindow ≤ 600 ∧
    (p.absenceLimit = 0 ∨ 3600 ≤ p.absenceLimit ∧ p.absenceLimit ≤ 31536000) ∧ p.grace ≤ 3600

end Sys2Proof.Machine
end

