-- ==== Sys2Proof/Certificates/Slice0/Obligations.lean ====
section
/-! DEFINITION. The statements for the provers. Each docstring says which rules it formalises. -/

open Sys2Proof Sys2Proof.Machine

/-! ## The queue and the whole machine -/

/-- The model's queue (logs 5 and 41; 95_what_each_step_holds: each row is one whole step): the command at the front is
taken over the queue's rest, and with an empty queue the part idles. -/
def Obligations.StepRunsFrontCommand : Prop :=
  ∀ (s : State) (c : Instr) (rest : List Instr),
    step (s.setPending (c :: rest)) = exec c (s.setPending rest) ∧ step (s.setPending []) = .next (s.setPending [])

/-- No command stops the part, and none touches the queue of waiting commands (log 40). -/
def Obligations.EveryCommandAnswersNext : Prop :=
  ∀ (c : Instr) (s : State), ∃ t, exec c s = .next t ∧ t.pending = s.pending

/-- R165, R167, R177: an unpowered part takes nothing but the supply's rise; of the lines DPWR, HALT and SEL are followed, each by its own
commands (log 7). While the link is closed no request is taken: a request changes no part of the state.
The model's own choices here: logs 7, 13. -/
def Obligations.PartTakesNothingUnpoweredAndNoRequestClosed : Prop :=
  (∀ (c : Instr) (s : State), s.pwc.power = .unpowered → c ≠ .coldStart →
    ∃ p, exec c s = .next (s.onPins fun _ => p) ∧ p.bayOpen = s.pins.bayOpen ∧ p.caseOpen = s.pins.caseOpen ∧
      (p.dpwr ≠ s.pins.dpwr → c = .dpwrRise ∨ c = .dpwrFall) ∧ (p.halt ≠ s.pins.halt → c = .haltRise ∨ c = .haltFall) ∧
      (p.selLow ≠ s.pins.selLow → (∃ b, c = .selFall b) ∨ c = .wakePulse ∨ (∃ b w, c = .inboundFrame b w) ∨
        ∃ n w, c = .readPeriod n w)) ∧
  ∀ (c : Instr) (s : State), (requestOf c).isSome → s.pwc.power ≠ .active → ∃ t, exec c s = .next t ∧ Unchanged [] s t

/-- R131, R73: while the level is WIPING every request but IDENTIFY, STATUS, READ_TIME and READ_CAPTURES is answered
WIPING with no effect, whatever its fields.
The model's own choices here: logs 13, 60. -/
def Obligations.WipingAnswersWiping : Prop :=
  ∀ (c : Instr) (s : State) (kind : Byte) (h : Header), requestOf c = some (kind, h) → answeredInWiping kind = false →
    s.thm.level = .wiping → s.Serves c (entriesNeeded kind) →
    ∃ t, exec c s = .next t ∧ s.Replied kind h.tag (.plain .wiping) t ∧ Unchanged Part.replies s t

/-! ## Invariants -/

/-- R149: the deadline list holds at most one entry per purpose. R38, R39: at most 32 verdicts, their ids distinct and from 1 to 65,535.
The model's own choices here: log 16. -/
def Obligations.EveryStepKeepsDeadlinesAndVerdictsSound : Prop :=
  ∀ s t : State, step s = .next t → (s.DeadlinesSound → t.DeadlinesSound) ∧ (s.VerdictsSound → t.VerdictsSound)

/-- R178, R179: at most 8 outbound entries in use or reserved, notices in at most 6, and one pending notice of each kind. R181: in
STARTING and STANDBY LNK holds nothing. -/
def Obligations.EveryStepKeepsOutboundQueueSound : Prop :=
  ∀ s t : State, s.OutboundSound → step s = .next t → t.OutboundSound

/-- R3, R5: no key of a LOCKED range stands in the key cache, and an undefined index is LOCKED. R5, R85: the domain key is cached only while
ADMIN or RESCUE is signed in, a KEK only for a signed-in USER. R77, R104, R120: under WIPING the derivation engine is IDLE, and under
ALARM it holds no USER's AUTHENTICATE. R165, R168: in ACTIVE and STANDBY the start's last step is taken. R18 to R21: a range whose lock a
deferred reply waits on is LOCKING. -/
def Obligations.EveryStepKeepsKeysAndJobsWithTheirOwners : Prop :=
  ∀ s t : State, step s = .next t →
    (s.RangeKeysSound → t.RangeKeysSound) ∧ (s.AuthorityKeysSound → t.AuthorityKeysSound) ∧
      (s.EngineSound → t.EngineSound) ∧ (s.StageSound → t.StageSound) ∧
      (s.OutboundSound → s.StageSound → s.RangeKeysSound → s.LocksAwaited → t.LocksAwaited)

/-- R7: the map generation "never holds 0", and stays within 32 bits; between commands no increment of a past occurrence is
remembered. R71, R72, R111, R137: f stops at 255, G at 65,535, a capture's count at 255 and the PSC at 4,294,967,295. R163: every
setting stays within its values.
The model's own choices here: logs 5, 28. -/
def Obligations.EveryStepKeepsCountsAndSettingsWithinValues : Prop :=
  ∀ s t : State, step s = .next t →
    (s.MapGenSound → t.MapGenSound) ∧ (s.CountsSound → t.CountsSound) ∧ (s.SettingsSound → t.SettingsSound)

/-- R1, R2: each defined range lies wholly below C with at least one block, and defined ranges never overlap.
The model's own choices here: log 28. -/
def Obligations.EveryStepKeepsRangesDisjointBelowC : Prop :=
  ∀ s t : State, s.RangesSound → step s = .next t → t.RangesSound

/-- The state right after reset meets every invariant above.
The model's own choices here: logs 1, 2, 3. -/
def Obligations.ResetMeetsEveryInvariant : Prop :=
  State.reset.MapGenSound ∧ State.reset.DeadlinesSound ∧ State.reset.VerdictsSound ∧ State.reset.OutboundSound ∧
    State.reset.RangeKeysSound ∧ State.reset.AuthorityKeysSound ∧ State.reset.CountsSound ∧
    State.reset.RangesSound ∧ State.reset.SettingsSound ∧ State.reset.EngineSound ∧ State.reset.StageSound ∧
    State.reset.LocksAwaited

/-! ## Rules over every command -/

/-- R166, R137, R159: the reset cause is set when a start begins: COLD at every cold start, LINK_HELD at a warm start caused by SEL held
low, RESTART at one caused by the request. It is kept until the next start, through standby entry and wake, and IDENTIFY reports it. A
cold start leaves the time base UNCALIBRATED and the overlay clear, and its scan charges the PSC by 64 over what COUNTERS gives; through a
warm start the PSC, the time quality and the overlay continue.
The model's own choices here: log 13. -/
def Obligations.ResetCauseFollowsStarts : Prop :=
  (∀ (c : Instr) (s t : State), exec c s = .next t →
    (c = .coldStart → t.pwc.resetCause = .cold ∧ t.tmb.quality = .uncalibrated ∧ t.sto.frozen = false) ∧
    (c ≠ .coldStart → s.pwc.power ≠ .starting → t.pwc.power = .starting →
      ((c = .selHeldLow ∧ t.pwc.resetCause = .linkHeld) ∨ ∃ h v, c = .restart h v ∧ t.pwc.resetCause = .restart) ∧
      t.tmb.psc = s.tmb.psc ∧ t.tmb.quality = s.tmb.quality ∧ t.sto.frozen = s.sto.frozen) ∧
    (c ≠ .coldStart → (s.pwc.power = .starting ∨ t.pwc.power ≠ .starting) → t.pwc.resetCause = s.pwc.resetCause) ∧
    (c = .integrityScan → s.pwc.power = .starting → s.pwc.stage = .scanning true →
      t.tmb.psc = some (min (s.sto.records.readCounters.psc + 64) 4294967295)) ∧
    (c = .warmStartProceed ∨ (c = .integrityScan ∧ s.pwc.stage = .scanning false) → t.tmb.psc = s.tmb.psc ∧
      t.tmb.quality = s.tmb.quality ∧ t.sto.frozen = s.sto.frozen)) ∧
  ∀ (s : State) (h : Header), h.sized = true → s.Serves (.identify h) 1 →
    ∃ t serial capacity visible lifecycle guard frozen faulty, exec (.identify h) s = .next t ∧
      s.Replied 0x01 h.tag (okWith
        (.identify serial capacity visible lifecycle s.pwc.resetCause guard frozen faulty)) t

/-- R161: FREEZE needs no authority and is answered at once: WIPING in level WIPING, else OK with the stored mode and the overlay as they
stand after it. It sets the overlay, but leaves it clear under FIXED, and changes nothing where it is set; a request
already accepted goes on. The overlay lasts until the next cold start: no other command sets it, and none clears it.
The model's own choices here: log 13. -/
def Obligations.FreezeSetsTheOverlayUntilAColdStart : Prop :=
  (∀ (s : State) (h : Header), s.Serves (.freeze h) 1 →
    (s.thm.level = .wiping → ∃ t, exec (.freeze h) s = .next t ∧ s.Replied 0x05 h.tag (.plain .wiping) t ∧
      Unchanged Part.replies s t) ∧
    (s.thm.level ≠ .wiping → h.sized = true →
      ∃ t, exec (.freeze h) s = .next t ∧ t.sto.guard = s.sto.guard ∧
        (s.sto.guard ≠ .fixed → t.sto.frozen = true) ∧ (s.sto.guard = .fixed → t.sto.frozen = s.sto.frozen) ∧
        s.Replied 0x05 h.tag (okWith (.frozen t.sto.guard t.sto.frozen)) t ∧
        Unchanged [.waiting, .outbound, .guard] s t)) ∧
  ∀ (c : Instr) (s t : State), exec c s = .next t →
    (c = .coldStart → t.sto.frozen = false) ∧ (c ≠ .coldStart → s.sto.frozen = true → t.sto.frozen = true) ∧
    (s.sto.frozen = false → t.sto.frozen = true → ∃ h, c = .freeze h)

/-- R160: while the guard is FROZEN or FIXED no guarded request takes effect: settings, guard mode, geometry, flags, the
pairing secret and the wipe token stand through every request.
The model's own choices here: log 4. -/
def Obligations.ClosedGuardHoldsConfiguration : Prop :=
  ∀ (c : Instr) (s t : State), exec c s = .next t → (requestOf c).isSome → s.guardPasses c.strap = false →
    t.sto.policy = s.sto.policy ∧ t.sto.guard = s.sto.guard ∧ t.aut.secret = s.aut.secret ∧ t.aut.token = s.aut.token ∧
      ∀ r, (t.rmg.ranges.get r).geometry = (s.rmg.ranges.get r).geometry ∧
        (t.rmg.ranges.get r).flags = (s.rmg.ranges.get r).flags

/-- R136, R137: uptime is 0 at a cold start and advances by 1 at each tick boundary of the powered part, whatever the time quality
and the power state, and at no other time. The PSC never decreases, and rises only at a tick boundary, by at most 1, the
charge of a cold start's scan apart.
The model's own choices here: log 34. -/
def Obligations.TimeAdvancesAtTickBoundariesAlone : Prop :=
  ∀ (c : Instr) (s t : State), exec c s = .next t →
    (c = .coldStart → t.tmb.uptime = 0) ∧
    (∀ l, c = .tickBoundary l → s.pwc.power ≠ .unpowered → t.tmb.uptime = s.tmb.uptime + 1) ∧
    (c ≠ .coldStart → (∀ l, c ≠ .tickBoundary l) → t.tmb.uptime = s.tmb.uptime) ∧
    ∀ p, c ≠ .coldStart → c ≠ .integrityScan → s.CountsSound → s.tmb.psc = some p →
      ∃ q, t.tmb.psc = some q ∧ p ≤ q ∧ q ≤ p + 1 ∧ (p < q → ∃ l, c = .tickBoundary l)

/-- R108: once the level is WIPING it changes only at the completion of the wipe, to CALM with lifecycle WIPED; a start
reads the level afresh from COUNTERS. -/
def Obligations.WipingEndsOnlyAtWipeCompletion : Prop :=
  ∀ (c : Instr) (s t : State), exec c s = .next t → s.thm.level = .wiping → c ≠ .coldStart → c ≠ .integrityScan →
    t.thm.level ≠ .wiping →
    t.thm.level = .calm ∧ t.aut.lifecycle = .wiped ∧ s.wpc.step = .closing ∧ ∃ good first, c = .recordWrite good first

/-! ## Power -/

/-- R167 step 1, R165, R154, R155: the rise of the supply resets the volatile state of every block over the retained records: LNK holds
nothing, no range is defined or open, no key cached, no verdict, slot, lane frame, authority, job or trigger stands, and
the time base runs on the RC from 0. The fall of the supply stops the part. Either cuts an operation in flight off: a write leaves the
previous contents, an erase its bank's records invalid, and the other records stand.
The model's own choices here: logs 3, 8. -/
def Obligations.SupplyRiseResetsAndFallStops : Prop :=
  (∀ s : State, ∃ t, exec .coldStart s = .next t ∧ s.RecordsCutOff t ∧ t.pwc.power = .starting ∧
    t.pwc.resetCause = .cold ∧ t.pwc.stage = .scanning true ∧ t.pwc.selTimed = false ∧ t.LinkEmptied ∧
    (∀ r, t.rmg.ranges.get r = RangeEntry.bare ∧ t.rmg.rangeKeys.get r = none) ∧ (∀ p, t.rmg.envelopes.get p = none) ∧
    t.rmg.mapGen = 1 ∧ t.rmg.grants = [] ∧ t.srv.verdicts = [] ∧ t.srv.lastId = 0 ∧
    (∀ i, t.kln.slots.get i = Slot.bare) ∧ t.kln.queue = [] ∧ t.kln.lane = .idle ∧ t.kln.badRun = 0 ∧
    t.kln.hold = false ∧ t.kln.purgePulse = false ∧ t.SignedOut ∧
    (∀ a, (t.aut.auth.get a).kept = AuthorityRec.factory) ∧ t.aut.lifecycle = .unprovisioned ∧ t.aut.tryCount = 0 ∧
    t.aut.lastSignIn = 0 ∧ t.aut.engine = .idle ∧ t.aut.secret = none ∧ t.aut.token = none ∧ t.aut.paired = false ∧
    t.aut.nonce = none ∧ t.thm.level = .calm ∧ t.thm.grace = none ∧ t.thm.raised = [] ∧
    (∀ k, t.thm.captures.get k = none) ∧
    (∀ line, (t.thm.debouncer line).settled = .unsettled ∧ (t.thm.debouncer line).run = 0) ∧ t.thm.armed = false ∧
    t.wpc.step = .idle ∧ t.wpc.phase = .none ∧ t.wpc.next = none ∧ t.wpc.waits = [] ∧
    t.tmb.uptime = 0 ∧ t.tmb.psc = none ∧ t.tmb.quality = .uncalibrated ∧ t.tmb.source = .rc ∧ t.tmb.divisor = 544 ∧
    t.tmb.divisorInUse = 544 ∧ t.tmb.cycles = 0 ∧ t.tmb.supervisor = .confirming 0 ∧ t.tmb.acceptedM = none ∧
    t.tmb.measuredM = none ∧ t.tmb.window = none ∧ t.tmb.awaitEdge = false ∧ t.tmb.switchTo = none ∧
    t.tmb.xoPulse = false ∧ t.tmb.deadlines = [{ purpose := .watch, due := 8192 }] ∧ t.tmb.fallen = [] ∧
    t.sto.dirty = [] ∧ t.sto.inFlight = none ∧ t.sto.waitingWipe = none ∧ t.sto.faulty = [] ∧ t.sto.frozen = false ∧
    t.pins = s.pins ∧ t.model.draws = s.model.draws ∧ t.pending = s.pending) ∧
  ∀ s : State, s.pwc.power ≠ .unpowered → ∃ t, exec .powerLoss s = .next t ∧ t.pwc.power = .unpowered ∧
    t.sto.inFlight = none ∧ t.sto.waitingWipe = s.sto.waitingWipe ∧ s.RecordsCutOff t ∧
    Unchanged [.records, .operation, .power] s t

/-- R167 steps 2 and 3, R159, R6, R137: the scan of a cold start gives every block its image from the records that are sound and within
their values, with every range LOCKED without a slot, and from the fallbacks for the others, sound ones outside their values among them,
which alone are the faulty set; a blank key record reads as ERASED or empty and is not faulty, and an envelope of an undefined or ERASED
range is discarded. Then it charges the PSC: the stored PSC plus 64, with the persistence deadline and the write of COUNTERS begun.
The model's own choices here: logs 26, 27, 28, 54, 56. -/
def Obligations.ColdScanTakesImagesAndChargesPsc : Prop :=
  ∀ s : State, s.pwc.power = .starting → s.pwc.stage = .scanning true → s.wpc.step = .idle → s.sto.inFlight = none →
    s.sto.waitingWipe = none → s.sto.dirty = [] →
    ∃ t p, exec .integrityScan s = .next t ∧ p = min (s.sto.records.readCounters.psc + 64) 4294967295 ∧
      t.tmb.psc = some p ∧ t.deadline .persistence = some (p + 64) ∧ t.pwc.stage = .charging ∧
      (∃ c, t.sto.inFlight = some (.write (.counters c) false false) ∧ c.psc = p) ∧ t.sto.dirty = [] ∧
      t.thm.level = s.sto.records.readCounters.level ∧ t.thm.grace = s.sto.records.readCounters.grace ∧
      t.aut.lifecycle = s.sto.records.readCounters.lifecycle ∧
      t.aut.tryCount = s.sto.records.readCounters.tryCount ∧ t.aut.lastSignIn = s.sto.records.readCounters.lastSignIn ∧
      t.wpc.phase = s.sto.records.readCounters.phase ∧ t.wpc.next = s.sto.records.readCounters.next ∧
      t.SignedOut ∧ t.aut.engine = .idle ∧ t.aut.paired = false ∧ t.aut.nonce = none ∧
      (∀ r, (t.rmg.ranges.get r).lock = .locked ∧ (t.rmg.ranges.get r).slot = none ∧ t.rmg.rangeKeys.get r = none) ∧
      t.HasImages s.sto.records ∧
      (∀ c, s.sto.records.counters = .sound c → c.valid = true → s.sto.records.readCounters = c) ∧
      (s.sto.records.counters.Refused CountersRec.valid → t.thm.level = .alarm ∧ p = 64 ∧
        t.thm.grace = some (64 + t.sto.policy.grace) ∧ t.aut.tryCount = 0 ∧ t.aut.lastSignIn = 0 ∧ t.wpc.phase = .none ∧
        t.wpc.next = none ∧
        t.aut.lifecycle = if (t.aut.auth.get 0).kept.enabled = true then .provisioned else .wiped) ∧
      (∀ a, t.Images AuthorityRec.valid (.authority a) (s.sto.records.authority.get a) (t.aut.auth.get a).kept .factory) ∧
      (∀ i, t.Images (fun c => c.all Capture.valid) (.capture i) (s.sto.records.capture.get i) (t.thm.captures.get i) none) ∧
      (∀ r, .rangeKey r ∈ t.sto.faulty → s.sto.records.rangeKey.get r ≠ .blank ∧
        (s.sto.records.rangeKey.get r).Refused RangeKeyRec.valid) ∧
      t.sto.frozen = s.sto.frozen ∧ t.wpc.step = .idle ∧
      Unchanged [.ranges, .domainKey, .rangeKeys, .keks, .envelopes, .grants, .authorities, .lifecycle, .tryCount,
        .lastSignIn, .engine, .pairing, .level, .grace, .captures, .wipe, .psc, .deadlines, .faulty, .guard,
        .policy, .identity, .operation, .dirty, .stage] s t

/-- R169 to R171: a low of SEL that reaches 100 ms in ACTIVE or STANDBY begins a warm start with cause LINK_HELD; RESTART under its check
value, the low 16 bits of the serial number, begins one with cause RESTART, and is not answered; another check value
is answered BAD_ARG with no effect. The warm start's cause closes the link and abandons the engine's job, and STO's
work in flight, its dirty list, the levels, the locks and the time stand. While an operation is in flight the warm start waits; with STO
idle it proceeds: the dirty list is emptied, and STO, LNK, AUT and WPC are reset; TMB, the FROZEN overlay, the ranges, the
slots and the level stand.
The model's own choices here: log 13. -/
def Obligations.WarmStartsBeginAndWaitForTheStore : Prop :=
  (∀ (c : Instr) (s : State) (cause : ResetCause),
    ((c = .selHeldLow ∧ cause = .linkHeld ∧ (s.pwc.power = .active ∨ s.pwc.power = .standby) ∧ s.pwc.selTimed = true) ∨
      ∃ h check, c = .restart h check ∧ cause = .restart ∧ s.TakesUp c ∧
        check = s.sto.identity.serial.toNat % 65536) →
    ∃ t, exec c s = .next t ∧ t.pwc.power = .starting ∧ t.pwc.resetCause = cause ∧ t.pwc.stage = .waitStore ∧
      t.pwc.selTimed = false ∧ t.LinkEmptied ∧ t.aut.engine = .idle ∧ t.sto.faulty = s.sto.faulty ∧
      t.wpc.step = s.wpc.step ∧ t.wpc.phase = s.wpc.phase ∧ t.wpc.next = s.wpc.next ∧
      Unchanged [.waiting, .outbound, .pendingSet, .deferred, .overrun, .period, .engine, .reports, .wipe, .clockEvent,
        .faulty, .power, .resetCause, .stage, .selTimed] s t) ∧
  (∀ (s : State) (h : Header) (check : Nat), s.TakesUp (.restart h check) → check ≠ s.sto.identity.serial.toNat % 65536 →
    ∃ t, exec (.restart h check) s = .next t ∧ s.Replied 0x3B h.tag (.plain .badArg) t ∧ Unchanged Part.replies s t) ∧
  ∀ s : State, s.pwc.power = .starting → s.pwc.stage = .waitStore →
    (s.sto.inFlight.isSome → ∃ t, exec .warmStartProceed s = .next t ∧ Unchanged [] s t) ∧
    (s.sto.inFlight = none → ∃ t, exec .warmStartProceed s = .next t ∧ t.pwc.stage = .scanning false ∧ t.sto.dirty = [] ∧
      t.sto.waitingWipe = none ∧ t.LinkEmptied ∧ t.SignedOut ∧ t.aut.engine = .idle ∧ t.wpc.step = .idle ∧
      (∀ a, (t.aut.auth.get a).kept = (s.aut.auth.get a).kept) ∧
      Unchanged [.waiting, .outbound, .pendingSet, .deferred, .overrun, .period, .authorities, .domainKey, .keks,
        .engine, .wipe, .operation, .dirty, .stage] s t)

/-- R168, R84, R115, R69, R129, R137: a start's last steps, taken as the charge's write ends, good or failed twice, in a cold start, and
as the scan ends in a warm one, which reads every block's image afresh, as a cold start's scan does. The start's purge empties the slots,
the queue and the verdicts; the level is restored, an ALARM whose grace has run out is WIPING, and a WIPING resumes the wipe at its
progress; a USER at its limit is disabled, and no other authority; an admin authority at its limit or a spent budget takes a PROVISIONED
part to WIPING; an f of 3 or more sets its backoff anew; ranges with `lock_enabled` false open under CALM or WARY, taking slots in
ascending order, and the others are LOCKED; and the part is ACTIVE, the link open, or with DPWR low in STANDBY.
The model's own choices here: logs 21, 22, 26, 27, 28, 30, 54, 56. -/
def Obligations.StartsEndInActiveOrStandby : Prop :=
  ∀ (c : Instr) (s : State) (level : Level) (grace : Option Nat) (phase : WipePhase) (next : Option Bank),
    s.pwc.power = .starting → s.OutboundSound → s.DeadlinesSound →
    ((∃ good first r retry, c = .recordWrite good first ∧ s.pwc.stage = .charging ∧
        s.sto.inFlight = some (.write (.counters r) retry false) ∧ (good = true ∨ retry = true) ∧
        waitsOn .counters s.pwc.waits = true ∧ s.wpc.step = .idle ∧ s.wpc.waits = [] ∧ s.aut.engine = .idle ∧
        s.aut.paired = false ∧
        (∀ q, (s.rmg.ranges.get q).lock = .locked ∧ s.rmg.rangeKeys.get q = none) ∧ s.SignedOut ∧
        level = s.thm.level ∧ grace = s.thm.grace ∧ phase = s.wpc.phase ∧ next = s.wpc.next) ∨
      (c = .integrityScan ∧ s.pwc.stage = .scanning false ∧ level = s.sto.records.readCounters.level ∧
        grace = s.sto.records.readCounters.grace ∧ phase = s.sto.records.readCounters.phase ∧
        next = s.sto.records.readCounters.next)) →
    ∃ t, exec c s = .next t ∧ t.pwc.stage = .done ∧ t.pwc.selTimed = false ∧
      t.pwc.power = (if s.pins.dpwr then .active else .standby) ∧
      t.srv.verdicts = [] ∧ t.kln.lane = .idle ∧ t.kln.badRun = 0 ∧ t.kln.purgePulse = true ∧ t.SignedOut ∧
      t.tmb.psc = s.tmb.psc ∧ t.tmb.uptime = s.tmb.uptime ∧
      (∀ line, (t.thm.debouncer line).settled = .unsettled ∧ (t.thm.debouncer line).run = 0) ∧ t.thm.armed = true ∧
      (∀ a, isUser a = true → (t.aut.auth.get a).kept.limit ≤ (t.aut.auth.get a).kept.failures →
        (t.aut.auth.get a).kept.enabled = false) ∧
      (∀ a, 3 ≤ (t.aut.auth.get a).kept.failures → t.deadline (.backoff a) =
        some (s.tmb.uptime + min (2 ^ ((t.aut.auth.get a).kept.failures - 3)) 3600 * 1024)) ∧
      (t.aut.lifecycle = .provisioned → t.adminAtLimit 0 = true ∨ t.adminAtLimit 7 = true ∨ t.overBudget = true →
        t.thm.level = .wiping) ∧
      (∀ q, (t.rmg.ranges.get q).flags.lockEnabled = true ∨ t.thm.level = .alarm ∨ t.thm.level = .wiping →
        (t.rmg.ranges.get q).lock = .locked ∧ t.rmg.rangeKeys.get q = none ∧ (t.rmg.ranges.get q).slot = none) ∧
      (∀ q w, (t.thm.level = .calm ∨ t.thm.level = .wary) → t.defined q = true →
        (t.rmg.ranges.get q).flags.lockEnabled = false → (t.rmg.ranges.get q).keyState = .keyed →
        (t.rmg.ranges.get q).deviceWrap = some w →
        if w.intact = true ∧ w.under = .device then
          (t.rmg.ranges.get q).lock = .opened ∧ t.rmg.rangeKeys.get q = some w.holds
        else (t.rmg.ranges.get q).lock = .locked ∧ RecordId.rangeKey q ∈ t.sto.faulty) ∧
      (s.thm.raised = [] → s.pins.halt = false → t.adminAtLimit 0 = false → t.adminAtLimit 7 = false →
        t.overBudget = false →
        (level = .calm ∨ level = .wary → t.thm.level = level ∧ t.rmg.mapGen = if s.pins.dpwr then 1 else 2) ∧
        (∀ g, level = .alarm → grace = some g → if g ≤ s.pscNow then t.thm.level = .wiping
          else t.thm.level = .alarm ∧ t.thm.grace = some g ∧ t.deadline .grace = some g)) ∧
      (level = .wiping → t.thm.level = .wiping ∧ t.wpc.step = .entry ∧ t.wpc.resumed = true ∧ t.Marked .counters ∧
        (phase = .rewriting → t.wpc.phase = .rewriting) ∧
        (∀ b, phase = .erasing → next = some b → t.wpc.phase = .erasing ∧ t.wpc.next = some b)) ∧
      (s.pins.dpwr = true →
        (t.kln.hold = true ↔ s.pins.halt = true ∧ t.sto.policy.haltPolicy = .finish) ∧ t.aut.paired = false ∧
        (t.thm.level ≠ .wiping → t.aut.secret.isSome →
          t.deadline .pairing = some (s.tmb.uptime + t.sto.policy.pairWindow * 1024)) ∧
        (t.thm.level ≠ .calm → ∃ previous who g, t.Notified
          (.threat t.thm.level previous .start who g t.rmg.mapGen))) ∧
      (s.pins.dpwr = false → t.LinkEmptied ∧ t.Purged ∧ t.deadline .pairing = none ∧ t.Marked .counters) ∧
      (s.pins.dpwr = true → t.Loads ((List.finRange 16).filter fun q => (t.rmg.ranges.get q).lock == .opened)
        (s.kln.slots.imap fun _ l => l.emptied) [] .idle) ∧
      (c = .integrityScan → t.sto.records = s.sto.records ∧ t.HasImages s.sto.records ∧
        t.aut.lifecycle = s.sto.records.readCounters.lifecycle ∧ t.aut.tryCount = s.sto.records.readCounters.tryCount ∧
        t.aut.lastSignIn = s.sto.records.readCounters.lastSignIn ∧
        (∀ a k, k = (t.aut.auth.get a).kept →
          (∀ v, s.sto.records.authority.get a = .sound v → v.valid = true →
            k = { v with enabled := v.enabled && !(isUser a && v.limit ≤ v.failures) }) ∧
          ((s.sto.records.authority.get a).Refused AuthorityRec.valid → k = .factory)) ∧
        (s.thm.raised = [] → s.pins.halt = false → t.adminAtLimit 0 = false → t.adminAtLimit 7 = false →
          t.overBudget = false → ∀ i,
            (∀ v, s.sto.records.capture.get i = .sound v → v.all Capture.valid = true → t.thm.captures.get i = v) ∧
            ((s.sto.records.capture.get i).Refused (fun v => v.all Capture.valid) → t.thm.captures.get i = none))) ∧
      (c ≠ .integrityScan → t.aut.lifecycle = s.aut.lifecycle ∧ t.aut.tryCount = s.aut.tryCount ∧
        t.aut.lastSignIn = s.aut.lastSignIn ∧ t.aut.secret = s.aut.secret ∧ t.aut.token = s.aut.token ∧
        t.rmg.envelopes = s.rmg.envelopes ∧ t.sto.identity = s.sto.identity ∧ t.sto.guard = s.sto.guard ∧
        t.sto.policy = s.sto.policy ∧
        (∀ q, t.rmg.ranges.get q = { s.rmg.ranges.get q with
          lock := (t.rmg.ranges.get q).lock, slot := (t.rmg.ranges.get q).slot }) ∧
        ∀ a, (t.aut.auth.get a).kept = { (s.aut.auth.get a).kept with
          enabled := (s.aut.auth.get a).kept.enabled &&
            !(isUser a && (s.aut.auth.get a).kept.limit ≤ (s.aut.auth.get a).kept.failures) }) ∧
      t.pwc.resetCause = s.pwc.resetCause ∧ t.pins = s.pins ∧
      t.sto.frozen = s.sto.frozen

/-- R173, R168, R91, R67: a wake pulse on SEL and a rise of DPWR each wake the part in STANDBY: the link opens, the pairing window opens
with a secret set, HALT is sampled for the hold, and a level above CALM is reported. Nothing else is rebuilt. -/
def Obligations.WakeOpensTheLink : Prop :=
  ∀ (c : Instr) (s : State), s.pwc.power = .standby →
    ((c = .wakePulse ∧ s.pwc.selTimed = true) ∨ (c = .dpwrRise ∧ s.pins.dpwr = false)) →
    ∃ t, exec c s = .next t ∧ t.pwc.power = .active ∧ t.pwc.selTimed = false ∧
      (t.kln.hold = true ↔ s.pins.halt = true ∧ s.sto.policy.haltPolicy = .finish) ∧
      (s.thm.level ≠ .wiping → s.aut.secret.isSome →
        t.aut.paired = false ∧ t.aut.nonce = none ∧
          t.deadline .pairing = some (s.tmb.uptime + s.sto.policy.pairWindow * 1024)) ∧
      (s.thm.level ≠ .wiping → s.aut.secret = none → t.deadline .pairing = none) ∧
      (s.thm.level = .wiping → t.aut.paired = false ∧ t.deadline .pairing = s.deadline .pairing) ∧
      (s.thm.level ≠ .calm → ∃ previous cause who grace,
        t.Notified (.threat s.thm.level previous cause who grace s.rmg.mapGen)) ∧
      t.aut.secret = s.aut.secret ∧ t.aut.token = s.aut.token ∧ s.OthersStand (· == .pairing) t ∧
      (c = .wakePulse → t.pins = { s.pins with selLow := false }) ∧ (c = .dpwrRise → t.pins = { s.pins with dpwr := true }) ∧
      Unchanged [.outbound, .pendingSet, .period, .pairing, .deadlines, .fallen, .hold, .power, .selTimed, .pins] s t

/-- R172: standby entry, by the STANDBY request or a fall of DPWR in ACTIVE. The link closes, the lane and the verdicts are purged, ranges
with `lock_enabled` and `lock_on_standby` and those in LOCKING are LOCKED without a key, other ranges keep their locks and keys, the
signed-in set is empty, a job that charges or derives is aborted, an AUTHENTICATE's backoff set from there, and COUNTERS is marked.
The model's own choices here: logs 13, 30. -/
def Obligations.StandbyEntryClosesAndLocks : Prop :=
  ∀ (c : Instr) (s : State), s.model.bumped = false → s.LockingStayLocked →
    ((∃ h, c = .standby h ∧ s.TakesUp c) ∨ (c = .dpwrFall ∧ s.pwc.power = .active ∧ s.pins.dpwr = true)) →
    ∃ t, exec c s = .next t ∧ t.pwc.power = .standby ∧ t.pwc.selTimed = false ∧ t.LinkEmptied ∧ t.Purged ∧
      t.kln.lane = .idle ∧ t.kln.hold = false ∧ t.SignedOut ∧ t.aut.engine.job = none ∧ t.aut.paired = false ∧
      t.aut.nonce = none ∧ t.deadline .pairing = none ∧ t.Marked .counters ∧ t.rmg.mapGen = nextMapGen s.rmg.mapGen ∧
      (∀ r, (t.rmg.ranges.get r).geometry = (s.rmg.ranges.get r).geometry ∧
        (t.rmg.ranges.get r).flags = (s.rmg.ranges.get r).flags ∧
        if (s.rmg.ranges.get r).lock = .locking ∨
            ((s.rmg.ranges.get r).flags.lockEnabled = true ∧ (s.rmg.ranges.get r).flags.lockOnStandby = true) then
          (t.rmg.ranges.get r).lock = .locked ∧ t.rmg.rangeKeys.get r = none
        else (t.rmg.ranges.get r).lock = (s.rmg.ranges.get r).lock ∧ t.rmg.rangeKeys.get r = s.rmg.rangeKeys.get r) ∧
      (∀ a, (t.aut.auth.get a).kept = (s.aut.auth.get a).kept) ∧ t.aut.secret = s.aut.secret ∧
      t.sto.faulty = s.sto.faulty ∧ t.wpc.step = s.wpc.step ∧
      (∀ a credential, s.aut.engine.job = some (.authenticate a credential) → t.deadline (.backoff a) =
        some (s.tmb.uptime + delay (s.aut.auth.get a).kept.failures * 1024)) ∧
      s.OthersStand (fun p => p == .pairing || p.purged || s.aut.engine.backoff == some p) t ∧
      (c = .dpwrFall → t.pins = { s.pins with dpwr := false }) ∧ (c ≠ .dpwrFall → t.pins = s.pins) ∧
      Unchanged [.waiting, .outbound, .pendingSet, .deferred, .overrun, .period, .ranges, .domainKey, .rangeKeys, .keks,
        .mapGen, .verdicts, .slots, .badRun, .hold, .purgePulse, .lane, .authorities, .engine, .pairing, .reports,
        .wipe, .deadlines, .fallen, .clockEvent, .operation, .dirty, .faulty, .power, .selTimed, .pins] s t

/-! ## The control link -/

/-- R175, R176: a frame of any kind, tag and payload of up to 240 bytes passes its checks and yields them back, and whatever passes the
checks is the frame of what it yields.
The model's own choices here: log 14. -/
def Obligations.FrameLayoutAndChecksAgree : Prop :=
  (∀ (kind tag : Byte) (payload : List Byte), payload.length ≤ 240 →
    checkFrame (frameBytes kind tag payload) = .ok (kind, tag, payload)) ∧
  ∀ (bytes : List Byte) (kind tag : Byte) (payload : List Byte), checkFrame bytes = .ok (kind, tag, payload) →
    payload.length ≤ 240 ∧ bytes = frameBytes kind tag payload

/-- R174, R176, R177: a write period in ACTIVE carries FFh on SDO, and its frame, good or failed, takes the waiting position if that is
empty; otherwise the frame is dropped and the overrun flag set. A period off a byte boundary is a failed frame with
reason PARTIAL. With the link closed, or open over a low of SEL that began while it was closed, the bytes are disregarded. A
failed frame is answered REJECT with its reason, and a frame of unknown kind BAD_ARG with that kind, each under kind
80h and its own tag.
The model's own choices here: logs 13, 14, 15. -/
def Obligations.InboundFramesWaitAndAreAnswered : Prop :=
  (∀ (s : State) (first : Byte) (rest : List Byte) (whole : Bool), first ≠ readMarker →
    (s.pwc.power = .active → s.lnk.period.isSome ∨ s.pins.selLow = false →
      ∃ t, exec (.inboundFrame (first :: rest) whole) s = .next t ∧
        t.lnk.sdo = List.replicate (rest.length + 1) fillByte ∧ t.lnk.period = none ∧ t.pwc.selTimed = false ∧
        t.pins = { s.pins with selLow := false } ∧
        (s.lnk.waiting = none → t.lnk.overrun = s.lnk.overrun ∧
          (whole = false → t.lnk.waiting = some (.failed .partialPeriod (failedTag (first :: rest)))) ∧
          (whole = true → ∀ kind tag payload, checkFrame (first :: rest) = .ok (kind, tag, payload) →
            t.lnk.waiting = some (.frame kind tag payload)) ∧
          (whole = true → ∀ reason, checkFrame (first :: rest) = .error reason →
            t.lnk.waiting = some (.failed reason (failedTag (first :: rest))))) ∧
        (∀ w, s.lnk.waiting = some w → t.lnk.waiting = some w ∧ t.lnk.overrun = true) ∧
        Unchanged [.waiting, .overrun, .period, .sdo, .selTimed, .pins] s t) ∧
    (s.pwc.power = .standby ∨ s.pwc.power = .starting ∨
        (s.pwc.power = .active ∧ s.lnk.period = none ∧ s.pins.selLow = true) →
      ∃ t, exec (.inboundFrame (first :: rest) whole) s = .next t ∧
        t.lnk.sdo = List.replicate (rest.length + 1) fillByte ∧ t.lnk.period = none ∧ t.pwc.selTimed = false ∧
        t.pins = { s.pins with selLow := false } ∧ Unchanged [.period, .sdo, .selTimed, .pins] s t)) ∧
  ∀ (s : State) (tag : Byte), s.pwc.power = .active → 1 ≤ s.lnk.reserved →
    (∀ reason, s.lnk.waiting = some (.failed reason tag) → ∃ t, exec .linkReply s = .next t ∧
      s.Replied 0x00 tag { result := .reject, body := .rejected reason } t ∧ Unchanged Part.replies s t) ∧
    ∀ kind payload, s.lnk.waiting = some (.frame kind tag payload) → requestKinds.contains kind = false →
      ∃ t, exec .linkReply s = .next t ∧
        s.Replied 0x00 tag { result := .badArg, body := .unknownKind kind } t ∧ Unchanged Part.replies s t

/-- R171, R173, R174, R178: a fall of SEL begins the timing of the low and, in ACTIVE, a select period in the mode that SCK gives, over
the frame then at the head. A read period shifts that frame out after the marker; the frame leaves the queue if every byte of it was
clocked and its content was not replaced, and stays otherwise. A notice that replaces the head's content during the period keeps its place
there with its new content, and the period still shifts the old one out. A queue empty at the fall gives the EMPTY marker. A period off a
byte boundary removes nothing and counts as a failed frame with reason PARTIAL. Over a low that began while the link was closed there is
no period: fill bytes, and nothing leaves the queue. A period in which no byte is completed is disregarded, a wake pulse that finds the
part ACTIVE among them.
The model's own choices here: logs 12, 15. -/
def Obligations.SelectPeriodsShiftOutTheHead : Prop :=
  (∀ (s : State) (sckHigh : Bool), s.pwc.power = .active ∨ s.pwc.power = .standby →
    ∃ t, exec (.selFall sckHigh) s = .next t ∧ t.pwc.selTimed = true ∧ t.pins = { s.pins with selLow := true } ∧
      (s.pwc.power = .active →
        t.lnk.period = some { modeThree := sckHigh, head := s.lnk.outbound.head?, replaced := false }) ∧
      (s.pwc.power = .standby → t.lnk.period = s.lnk.period) ∧ Unchanged [.period, .selTimed, .pins] s t) ∧
  (∀ (s : State) (m : Bool) (f now : OutFrame) (queue : List OutFrame) (replaced : Bool) (clocked : Nat),
    s.pwc.power = .active → s.lnk.outbound = now :: queue →
    s.lnk.period = some { modeThree := m, head := some f, replaced := replaced } → 1 ≤ clocked →
    ∃ t, exec (.readPeriod clocked true) s = .next t ∧
      t.lnk.sdo = ((0x00 :: f.bytes) ++ List.replicate clocked fillByte).take clocked ∧ t.lnk.period = none ∧
      t.pins = { s.pins with selLow := false } ∧
      (replaced = false → 1 + f.bytes.length ≤ clocked → ∃ more, t.lnk.outbound = queue ++ more) ∧
      (replaced = true ∨ clocked < 1 + f.bytes.length → ∃ more, t.lnk.outbound = now :: queue ++ more) ∧
      Unchanged [.outbound, .period, .sdo, .selTimed, .pins] s t) ∧
  (∀ (l : Lnk) (p : Period) (n : Notice) (now : OutFrame) (queue : List OutFrame), l.period = some p →
    l.outbound = now :: queue → now.ofKind n = true →
    (l.raise n).outbound.head? = some (.notice n) ∧ (l.raise n).outbound.length = l.outbound.length ∧
      (l.raise n).period = some { p with replaced := true }) ∧
  (∀ (s : State) (m : Bool) (clocked : Nat), s.pwc.power = .active →
    s.lnk.period = some { modeThree := m, head := none, replaced := false } → 2 ≤ clocked →
    ∃ t, exec (.readPeriod clocked true) s = .next t ∧
      t.lnk.sdo = 0x00 :: emptyMarker :: List.replicate (clocked - 2) fillByte ∧
      Unchanged [.period, .sdo, .selTimed, .pins] s t) ∧
  (∀ (s : State) (clocked : Nat), s.pwc.power = .active → 1 ≤ clocked → s.lnk.waiting = none →
    s.lnk.period.isSome ∨ s.pins.selLow = false →
    ∃ t, exec (.readPeriod clocked false) s = .next t ∧ t.lnk.waiting = some (.failed .partialPeriod 0) ∧
      Unchanged [.waiting, .period, .sdo, .selTimed, .pins] s t) ∧
  (∀ (c : Instr) (s : State), s.pwc.power = .active →
    (c = .wakePulse ∨ ∃ whole, c = .inboundFrame [] whole ∨ c = .readPeriod 0 whole) →
    ∃ t, exec c s = .next t ∧ t.lnk.period = none ∧ t.pwc.selTimed = false ∧ t.pins = { s.pins with selLow := false } ∧
      t.lnk.sdo = [] ∧ Unchanged [.period, .sdo, .selTimed, .pins] s t) ∧
  ∀ (s : State) (clocked : Nat) (whole : Bool), s.pwc.power = .standby ∨ s.pwc.power = .starting ∨
      (s.pwc.power = .active ∧ s.lnk.period = none ∧ s.pins.selLow = true) →
    ∃ t, exec (.readPeriod clocked whole) s = .next t ∧ t.lnk.sdo = List.replicate clocked fillByte ∧
      t.lnk.period = none ∧ t.pins = { s.pins with selLow := false } ∧ Unchanged [.period, .sdo, .selTimed, .pins] s t

/-- R181: while the link is open ATTN follows ATTN_MODE: under ANY it is high while the outbound queue holds a frame, under NOTICE while it
holds a notice; a frame being shifted out counts as held. While the link is closed it is low. The mode, ANY by default,
changes only at an accepted CONFIGURE that names it and at a scan, which takes it from POLICY or its fallback. Every cold
start, warm start and standby entry discards what LNK holds without a reply and clears the overrun flag, and at an opening
the queue holds notices alone. -/
def Obligations.AttnFollowsTheOutboundQueue : Prop :=
  (∀ s : State, s.pwc.power = .active →
    (s.sto.policy.attnMode = .any → (s.attn = true ↔ 1 ≤ s.lnk.outbound.length)) ∧
    (s.sto.policy.attnMode = .notice → (s.attn = true ↔ ∃ n, OutFrame.notice n ∈ s.lnk.outbound))) ∧
  (∀ s : State, s.pwc.power ≠ .active → s.attn = false) ∧ Policy.default.attnMode = .any ∧
  (∀ (s t : State) (sckHigh : Bool), exec (.selFall sckHigh) s = .next t → s.attn = true → t.attn = true) ∧
  (∀ (c : Instr) (s t : State), exec c s = .next t → t.sto.policy.attnMode ≠ s.sto.policy.attnMode →
    c = .coldStart ∨ c = .integrityScan ∨ ∃ h items v, c = .configure h 0 items ∧ { id := 16, value := v } ∈ items) ∧
  (∀ s t : State, exec .integrityScan s = .next t → s.pwc.power = .starting → (∃ cold, s.pwc.stage = .scanning cold) →
    (∀ p, s.sto.records.policy = .sound p → p.valid = true → t.sto.policy.attnMode = p.attnMode) ∧
    (s.sto.records.policy = .invalid → t.sto.policy.attnMode = .any)) ∧
  (∀ (c : Instr) (s t : State), exec c s = .next t →
    c = .coldStart ∨ (t.pwc.power ≠ s.pwc.power ∧ (t.pwc.power = .starting ∨ t.pwc.power = .standby)) → t.LinkEmptied) ∧
  ∀ (c : Instr) (s t : State), exec c s = .next t → s.OutboundSound → s.pwc.power = .starting ∨ s.pwc.power = .standby →
    t.pwc.power = .active → ∀ f ∈ t.lnk.outbound, ∃ n, f = .notice n

/-- R182, R151, R113: IDENTIFY, STATUS, READ_TIME and READ_CAPTURES are answered OK at once in every level, WIPING included, with the
values that stand, and change nothing else but the overrun flag, which STATUS reports and clears.
The model's own choices here: logs 13, 32, 62. -/
def Obligations.ReportsAreAnsweredInEveryLevel : Prop :=
  ∀ (s : State) (h : Header), h.sized = true →
    (s.Serves (.identify h) 1 → ∃ t, exec (.identify h) s = .next t ∧
      s.Replied 0x01 h.tag (okWith (.identify s.sto.identity.serial s.sto.identity.capacity s.visibleCapacity
        s.aut.lifecycle s.pwc.resetCause s.sto.guard s.sto.frozen s.sto.faulty)) t ∧ Unchanged Part.replies s t) ∧
    (s.Serves (.status h) 1 → ∃ t n, exec (.status h) s = .next t ∧
      s.Replied 0x02 h.tag (okWith (.status s.pwc.power s.thm.level s.aut.lifecycle s.rmg.mapGen s.lnk.overrun n
        s.lnk.pendingSet.length s.lnk.deferredItems s.aut.engine.state s.sto.inFlight.isSome s.sto.dirty.length)) t ∧
      s.lnk.outbound.length < n ∧ t.lnk.overrun = false ∧ Unchanged [.waiting, .outbound, .overrun] s t) ∧
    (s.Serves (.readTime h) 1 → ∃ t, exec (.readTime h) s = .next t ∧
      s.Replied 0x03 h.tag (okWith (.time s.pscNow (s.tmb.uptime / 1024) (s.tmb.uptime % 1024) s.tmb.quality
        s.tmb.supervisor s.tmb.acceptedM s.tmb.measuredM s.tmb.divisor s.sto.policy.stimulation)) t ∧
      Unchanged Part.replies s t) ∧
    (s.Serves (.readCaptures h) 1 → ∃ t grace, exec (.readCaptures h) s = .next t ∧
      grace = (if s.thm.level = .alarm then s.thm.grace else none) ∧
      s.Replied 0x34 h.tag (okWith (.captures s.thm.level grace (grace.map fun g => g - s.pscNow) s.pscNow
        s.aut.lastSignIn s.absenceState s.thm.bay.settled s.thm.caseSw.settled s.pins.halt s.thm.captures.list)) t ∧
      Unchanged Part.replies s t)

/-- R68, R14, R177: READ_SLOTS lists the eight slots, an acting authority outside 0 to 7 answered BAD_ARG. LIST_RANGES lists the global
range and then the defined ranges in ascending order of start, each once, under the map generation and the visible capacity, in one
frame or two numbered parts that split no entry. An acting authority that is not a signed-in admin sees no concealed range in either; for
another a concealed range carries its mark.
The model's own choices here: logs 12, 13, 47. -/
def Obligations.ListingsHideConcealedRanges : Prop :=
  ∀ (s : State) (h : Header) (acting : Option Nat), s.thm.level ≠ .wiping → h.sized = true →
    (s.Serves (.readSlots h acting) 1 → (∀ a, acting = some a → a ≤ 7) → ∃ t entries,
      exec (.readSlots h acting) s = .next t ∧
      s.Replied 0x32 h.tag (okWith (.slots s.rmg.mapGen s.kln.lane.number s.kln.hold s.kln.purgePulse
        s.sto.policy.haltPolicy s.kln.badRun (s.kln.queue.map fun f => (f.op, f.slot)) entries)) t ∧
      entries.length = 8 ∧
      (∀ i : SlotIx, ∃ e, entries[i.val]? = some e ∧ e.state = (s.kln.slots.get i).state ∧
        e.pins = (s.kln.slots.get i).pins ∧ e.lastUse = (s.kln.slots.get i).lastUse ∧
        (acting.any s.adminActs = true → e.occupant = (s.kln.slots.get i).occupant ∧ e.next = (s.kln.slots.get i).next ∧
          e.concealed = false) ∧
        (acting.any s.adminActs = false →
          (∀ o, (s.kln.slots.get i).occupant = some o → e.occupant = if s.concealed o.range then none else some o) ∧
          (∀ o, (s.kln.slots.get i).next = some o → e.next = if s.concealed o.range then none else some o) ∧
          ((s.kln.slots.get i).occupant = none → e.occupant = none) ∧ ((s.kln.slots.get i).next = none → e.next = none) ∧
          (e.concealed = true ↔ ∃ o, s.concealed o.range = true ∧
            ((s.kln.slots.get i).occupant = some o ∨ (s.kln.slots.get i).next = some o)))) ∧
      Unchanged Part.replies s t) ∧
    (∀ a, acting = some a → 8 ≤ a → s.Serves (.readSlots h acting) 1 → ∃ t, exec (.readSlots h acting) s = .next t ∧
      s.Replied 0x32 h.tag (.plain .badArg) t ∧ Unchanged Part.replies s t) ∧
    (s.Serves (.listRanges h acting) 2 → ∃ t parts, exec (.listRanges h acting) s = .next t ∧
      s.RepliedAll 0x23 h.tag parts t ∧ 1 ≤ parts.length ∧ parts.length ≤ 2 ∧
      (∀ (i : Nat) (r : Reply), parts[i]? = some r → r.result = .ok ∧ r.bytes.length ≤ 240 ∧
        r.body = .ranges (i + 1) parts.length s.rmg.mapGen s.visibleCapacity r.entries) ∧
      (∀ e ∈ parts.flatMap Reply.entries, e = s.listed e.index ∧ e.concealed = s.concealed e.index) ∧
      ((parts.flatMap Reply.entries).map ListedRange.index).Nodup ∧
      ((parts.flatMap Reply.entries).map ListedRange.index).head? = some 0 ∧
      (∀ r, r ∈ (parts.flatMap Reply.entries).map ListedRange.index ↔
        s.defined r = true ∧ (s.concealed r = false ∨ acting.any s.adminActs = true)) ∧
      (s.RangesSound →
        ((parts.flatMap Reply.entries).filterMap fun e => e.geometry.map Geometry.start).Pairwise (· < ·)) ∧
      Unchanged Part.replies s t)

/-! ## The guard -/

/-- R163, R147: CONFIGURE by a signed-in ADMIN, the guard passing, with 1 to 16 items of known ids, none twice: each setting named takes its
value brought within its values, ABSENCE_LIMIT keeping 0, and every other keeps its own; POLICY is marked and the reply deferred.
STIMULATION set OFF withdraws the stimulation deadline; set ON in HOLDOVER with the supervisor CONFIRMING it enters it at
uptime + 1,024; no other deadline moves.
The model's own choices here: logs 4, 13. -/
def Obligations.ConfigureSetsClampedSettings : Prop :=
  ∀ (s : State) (h : Header) (items : List SettingItem), s.TakesUp (.configure h 0 items) →
    (s.aut.auth.get 0).signedIn = true → s.guardPasses h.strap = true → 1 ≤ items.length → items.length ≤ 16 →
    (∀ i ∈ items, 1 ≤ i.id ∧ i.id ≤ 16) → (items.map SettingItem.id).Nodup → s.freeDeferred.isSome →
    ∃ t, exec (.configure h 0 items) s = .next t ∧ s.Deferring 0x04 h.tag .sto t ∧ s.KeepsWorking t ∧
      t.Marked .policy ∧
      (∀ i ∈ items, ∃ least greatest, (i.id, least, greatest) ∈
        [(1, 1, 255), (2, 0, 2), (3, 3, 64), (4, 0, 65535), (5, 16, 255), (6, 10, 600), (7, 0, 3), (8, 0, 3), (9, 0, 3),
          (10, 0, 3), (11, 0, 3), (12, 0, 3), (13, 3600, 31536000), (14, 0, 3600), (15, 0, 1), (16, 0, 1)] ∧
        t.sto.policy.value i.id = if i.id = 13 ∧ i.value = 0 then 0 else max least (min i.value greatest)) ∧
      (∀ id, id ∉ items.map SettingItem.id → t.sto.policy.value id = s.sto.policy.value id) ∧
      (s.sto.policy.stimulation = true → t.sto.policy.stimulation = false → t.deadline .stimulation = none) ∧
      (s.sto.policy.stimulation = false → t.sto.policy.stimulation = true →
        (∀ n, s.tmb.quality = .holdover → s.tmb.supervisor = .confirming n →
          t.deadline .stimulation = some (s.tmb.uptime + 1024)) ∧
        ((s.tmb.quality = .holdover → ∀ n, s.tmb.supervisor ≠ .confirming n) →
          t.deadline .stimulation = s.deadline .stimulation)) ∧
      (s.sto.policy.stimulation = t.sto.policy.stimulation → t.deadline .stimulation = s.deadline .stimulation) ∧
      (∀ p, p ≠ .stimulation → p ≠ .absence → t.deadline p = s.deadline p) ∧
      Unchanged [.waiting, .deferred, .policy, .deadlines, .operation, .dirty] s t

/-- R160, R162: SET_GUARD by a signed-in ADMIN, the guard passing, sets the stored mode, marks GUARD and defers its reply, or is
answered OK at once, with the mode, where that is the one stored. A stored mode of FIXED is never changed but by a start, which reads
GUARD afresh.
The model's own choices here: logs 4, 13, 48. -/
def Obligations.SetGuardMovesTheStoredMode : Prop :=
  (∀ (s : State) (h : Header) (mode : GuardMode), s.TakesUp (.setGuard h 0 (some mode)) →
    (s.aut.auth.get 0).signedIn = true → s.guardPasses h.strap = true →
    (s.sto.guard = mode → ∃ t, exec (.setGuard h 0 (some mode)) s = .next t ∧
      s.Replied 0x06 h.tag (okWith (.guardMode mode)) t ∧ Unchanged Part.replies s t) ∧
    (s.sto.guard ≠ mode → s.freeDeferred.isSome → ∃ t, exec (.setGuard h 0 (some mode)) s = .next t ∧
      t.sto.guard = mode ∧ t.sto.frozen = s.sto.frozen ∧ s.Deferring 0x06 h.tag .sto t ∧ s.KeepsWorking t ∧
      t.Marked .guard ∧ Unchanged [.waiting, .deferred, .guard, .operation, .dirty] s t)) ∧
  ∀ (c : Instr) (s t : State), exec c s = .next t → c ≠ .coldStart → c ≠ .integrityScan → s.sto.guard = .fixed →
    t.sto.guard = .fixed

/-! ## Authorities -/

/-- R74 to R76, R86, R87: with the engine IDLE and a deferred-reply entry free, PROVISION outside PROVISIONED and SET_CREDENTIAL by a
signed-in ADMIN or RESCUE each take the engine, DERIVING, with the WORK_FACTOR as it stands; nothing else changes before the derivation
completes. PROVISION derives for ADMIN, then for RESCUE if it has a credential; then both entries are set, RESCUE without a credential
disabled, every envelope is gone but the new domain envelopes at the lowest positions, and the records are marked. A SET_CREDENTIAL that
finds no domain key is answered DENIED and changes nothing; otherwise the user has its new credential and is signed out; its envelopes are
gone, and each range of the grant set that is defined, KEYED and whose key can be had takes, in the set's order, the lowest empty position
for its key under the user's new KEK, as far as they go; the reply then names for each range the position, NO_ROOM or WRONG_STATE.
The model's own choices here: logs 9, 10, 13, 20, 37. -/
def Obligations.CredentialJobsRunToTheirDerivation : Prop :=
  (∀ (s : State) (h : Header) (admin : List Byte) (rescue : Option (List Byte)) (adminSet rescueSet : List Nat),
    s.TakesUp (.provision h admin rescue adminSet rescueSet) → s.aut.lifecycle ≠ .provisioned → credentialFits admin = true →
    rescue.all credentialFits = true → (rescue = none → rescueSet = []) → indexSet 0 16 adminSet = true →
    indexSet 0 16 rescueSet = true → s.aut.engine = .idle → s.freeDeferred.isSome →
    ∃ t, exec (.provision h admin rescue adminSet rescueSet) s = .next t ∧ s.Deferring 0x10 h.tag .aut t ∧
      s.KeepsWorking t ∧ t.aut.engine = .deriving_ (.provision
        { admin := admin, rescue := rescue, adminSet := toIndices adminSet, rescueSet := toIndices rescueSet
          factor := s.sto.policy.workFactor, adminDone := false }) ∧ Unchanged [.waiting, .deferred, .engine] s t) ∧
  (∀ (s : State) (h : Header) (acting user : Nat) (u : AuthIx) (credential : List Byte) (grantSet startup : List Nat),
    s.TakesUp (.setCredential h acting user credential grantSet startup) → s.adminActs acting = true → user = u.val →
    isUser u = true → credentialFits credential = true →
    indexSet 1 15 grantSet = true → indexSet 0 16 startup = true → s.aut.engine = .idle → s.freeDeferred.isSome →
    ∃ t, exec (.setCredential h acting user credential grantSet startup) s = .next t ∧
      s.Deferring 0x13 h.tag .aut t ∧ s.KeepsWorking t ∧ t.model.draws = s.model.draws + 1 ∧
      t.aut.engine = .deriving_ (.setCredential u credential s.model.draws s.sto.policy.workFactor
        (toIndices grantSet) (toIndices startup)) ∧ Unchanged [.waiting, .deferred, .engine, .draws] s t) ∧
  (∀ (s : State) (p : ProvisionJob), s.pwc.power ≠ .unpowered → s.aut.engine = .deriving_ (.provision p) →
    (p.rescue.isSome → p.adminDone = false → ∃ t, exec .derivationComplete s = .next t ∧
      t.aut.engine = .deriving_ (.provision { p with adminDone := true }) ∧ Unchanged [.engine] s t) ∧
    (p.rescue = none ∨ p.adminDone = true → ∃ t n waits, exec .derivationComplete s = .next t ∧
      n = s.model.draws + (if p.rescue.isSome then 2 else 1) ∧ t.model.draws = n + 1 ∧
      t.aut.engine = .finishing .authorities (.drawn n) waits ∧
      (t.aut.auth.get 0).kept =
        { enabled := true, failures := 0, limit := s.sto.policy.failureLimit, startup := p.adminSet
          credential := some ⟨s.model.draws, ⟨p.admin, s.model.draws, p.factor⟩, p.factor⟩ } ∧
      t.rmg.envelopes.get 0 = some ⟨0, .domain, wrapped (.kek p.admin s.model.draws p.factor) (.drawn n)⟩ ∧
      (p.rescue = none → (t.aut.auth.get 7).kept.enabled = false ∧ t.rmg.envelopes.get 1 = none) ∧
      (∀ c, p.rescue = some c → (t.aut.auth.get 7).kept =
          { enabled := true, failures := 0, limit := s.sto.policy.failureLimit, startup := p.rescueSet
            credential := some ⟨s.model.draws + 1, ⟨c, s.model.draws + 1, p.factor⟩, p.factor⟩ } ∧
        t.rmg.envelopes.get 1 = some ⟨7, .domain, wrapped (.kek c (s.model.draws + 1) p.factor) (.drawn n)⟩) ∧
      (∀ q : EnvIx, 2 ≤ q.val → t.rmg.envelopes.get q = none) ∧
      (∀ a, isUser a = true → t.aut.auth.get a = s.aut.auth.get a) ∧
      (∀ a, (t.aut.auth.get a).signedIn = (s.aut.auth.get a).signedIn) ∧
      t.Marked (.authority 0) ∧ t.Marked (.authority 7) ∧ t.Marked (.envelope 0) ∧
      Unchanged [.authorities, .envelopes, .grants, .draws, .engine, .operation, .dirty] s t)) ∧
  ∀ (s : State) (u : AuthIx) (credential : List Byte) (salt factor : Nat) (grantSet startup : List RangeIx),
    s.pwc.power ≠ .unpowered → isUser u = true →
    s.aut.engine = .deriving_ (.setCredential u credential salt factor grantSet startup) →
    (s.rmg.domainKey = none → ∃ t, exec .derivationComplete s = .next t ∧ t.aut.engine = .idle ∧
      (∀ i d, s.lnk.deferred.get i = some d → d.state = .working .engine → t.Finishes i d (.plain .denied)) ∧
      Unchanged [.deferred, .engine] s t) ∧
    (s.rmg.domainKey.isSome → ∃ t, exec .derivationComplete s = .next t ∧ t.aut.engine = .idle ∧
      t.aut.auth.get u =
        { signedIn := false
          kept :=
            { enabled := true, failures := 0, limit := s.sto.policy.failureLimit, startup := startup
              credential := some ⟨salt, ⟨credential, salt, factor⟩, factor⟩ } } ∧
      ((s.aut.auth.get u).signedIn = true → t.rmg.keks.get u = none) ∧
      (∀ a, a ≠ u → t.aut.auth.get a = s.aut.auth.get a ∧ t.rmg.keks.get a = s.rmg.keks.get a) ∧
      (s.adminSignedIn = true → t.rmg.domainKey = s.rmg.domainKey) ∧ t.deadline (.backoff u) = none ∧
      (∀ q e, e.authority ≠ u → (t.rmg.envelopes.get q = some e ↔ s.rmg.envelopes.get q = some e)) ∧
      (∀ given free results,
        given = grantSet.filter (fun r => s.defined r && (s.rmg.ranges.get r).keyState == .keyed && (s.keyOf r).isSome) →
        free = (List.finRange 48).filter (fun q => (s.rmg.envelopes.get q).all fun e => e.authority == u) →
        results = grantSet.map (fun r => match given.findIdx? (· == r) with
          | some k => match free[k]? with
            | some q => .position q
            | none => .noRoom
          | none => GrantResult.wrongState) → grantSet.Nodup → s.AuthorityKeysSound →
        (∀ (k : Nat) r key q, given[k]? = some r → s.keyOf r = some key → free[k]? = some q → t.rmg.envelopes.get q =
            some { authority := u, target := .range r, wrapped := wrapped (.kek credential salt factor) key } ∧
          t.Marked (.envelope q)) ∧
        (∀ (k : Nat) q, free[k]? = some q → given[k]? = none → t.rmg.envelopes.get q = none) ∧
        ∀ i d, s.lnk.deferred.get i = some d → d.state = .working .engine →
          ∃ waits, (t.lnk.deferred.get i).map Deferred.plain =
            some { d with state := .working (.writes waits none (okWith (.granted results)) (storeFault .none)) }) ∧
      t.Marked (.authority u) ∧
      Unchanged [.deferred, .authorities, .domainKey, .keks, .envelopes, .grants, .engine, .deadlines, .fallen,
        .operation, .dirty] s t)

/-- R78, R79: an AUTHENTICATE that passes checks 1 to 5 is answered LOCKED_OUT with the rest of the backoff in seconds, rounded up,
before its deadline. Otherwise it is charged: f and G each rise by 1, within their ends, both records are marked,
and the engine is CHARGING until both are written.
The model's own choices here: log 13. -/
def Obligations.AuthenticateChargesBeforeItDerives : Prop :=
  ∀ (s : State) (h : Header) (a : AuthIx) (credential : List Byte), s.TakesUp (.authenticate h a.val credential) →
    credentialFits credential = true → s.aut.lifecycle = .provisioned → (s.thm.level = .alarm → isAdmin a = true) →
    (s.aut.auth.get a).kept.enabled = true → (s.aut.auth.get a).signedIn = false →
    (s.aut.secret = none ∨ s.aut.paired = true ∨ a = 7) →
    (∀ due, s.deadline (.backoff a) = some due → s.tmb.uptime < due →
      ∃ t, exec (.authenticate h a.val credential) s = .next t ∧
        s.Replied 0x11 h.tag
          { result := .lockedOut, body := .lockedOut ((due - s.tmb.uptime + 1023) / 1024) } t ∧
        Unchanged Part.replies s t) ∧
    ((∀ due, s.deadline (.backoff a) = some due → due ≤ s.tmb.uptime) → s.aut.engine = .idle → s.freeDeferred.isSome →
      ∃ t, exec (.authenticate h a.val credential) s = .next t ∧ s.Deferring 0x11 h.tag .aut t ∧ s.KeepsWorking t ∧
        (t.aut.auth.get a).kept.failures = min ((s.aut.auth.get a).kept.failures + 1) 255 ∧
        (t.aut.auth.get a).kept = { (s.aut.auth.get a).kept with failures := (t.aut.auth.get a).kept.failures } ∧
        (t.aut.auth.get a).signedIn = false ∧ (∀ b, b ≠ a → t.aut.auth.get b = s.aut.auth.get b) ∧
        t.aut.tryCount = min (s.aut.tryCount + 1) 65535 ∧
        t.aut.engine.plain = .charging (.authenticate a credential) (waitsFor [.authority a, .counters]) ∧
        t.Marked (.authority a) ∧ t.Marked .counters ∧
        Unchanged [.waiting, .deferred, .authorities, .tryCount, .engine, .operation, .dirty] s t)

/-- R85, R88, R77: SIGN_OUT takes its authority out of the signed-in set, and DISABLE_AUTHORITY disables its target, takes it out of the set
and aborts a job of the target: an AUTHENTICATE with DISABLED, its backoff set from the abort, a SET_CREDENTIAL with DENIED. A user's
KEK leaves the key cache, the domain key leaves with the last of ADMIN and RESCUE, and every other authority keeps its own.
The model's own choices here: logs 13, 50. -/
def Obligations.LeavingTheSetDropsItsKeys : Prop :=
  (∀ (s : State) (h : Header) (a : AuthIx), s.TakesUp (.signOut h a.val) →
    ∃ t, exec (.signOut h a.val) s = .next t ∧ s.Replied 0x12 h.tag (okWith .empty) t ∧
      (t.aut.auth.get a).signedIn = false ∧ (t.aut.auth.get a).kept = (s.aut.auth.get a).kept ∧
      (∀ b, b ≠ a → t.aut.auth.get b = s.aut.auth.get b ∧ t.rmg.keks.get b = s.rmg.keks.get b) ∧
      ((s.aut.auth.get a).signedIn = true → isUser a = true → t.rmg.keks.get a = none) ∧
      ((s.aut.auth.get a).signedIn = true → t.rmg.domainKey = if t.adminSignedIn then s.rmg.domainKey else none) ∧
      ((s.aut.auth.get a).signedIn = false → Unchanged Part.replies s t) ∧
      Unchanged [.waiting, .outbound, .authorities, .domainKey, .keks] s t) ∧
  ∀ (s : State) (h : Header) (acting : Nat) (a : AuthIx), s.TakesUp (.disableAuthority h acting a.val) →
    s.adminActs acting = true → a ≠ 0 → a.val ≠ acting → (a = 7 → acting = 0) →
    ((s.aut.auth.get a).kept.enabled = false → ∃ t, exec (.disableAuthority h acting a.val) s = .next t ∧
      s.Replied 0x14 h.tag (okWith .empty) t ∧ Unchanged Part.replies s t) ∧
    ((s.aut.auth.get a).kept.enabled = true → s.freeDeferred.isSome →
      ∃ t, exec (.disableAuthority h acting a.val) s = .next t ∧ s.Deferring 0x14 h.tag .aut t ∧
        (t.aut.auth.get a).signedIn = false ∧
        (t.aut.auth.get a).kept = { (s.aut.auth.get a).kept with enabled := false } ∧
        (∀ b, b ≠ a → t.aut.auth.get b = s.aut.auth.get b ∧ t.rmg.keks.get b = s.rmg.keks.get b) ∧
        ((s.aut.auth.get a).signedIn = true → (isUser a = true → t.rmg.keks.get a = none) ∧
          t.rmg.domainKey = if t.adminSignedIn then s.rmg.domainKey else none) ∧
        ((s.aut.auth.get a).signedIn = false → t.rmg.keks = s.rmg.keks ∧ t.rmg.domainKey = s.rmg.domainKey) ∧
        (∀ credential, s.aut.engine.job = some (.authenticate a credential) → t.aut.engine = .idle ∧
          t.deadline (.backoff a) = some (s.tmb.uptime + delay (s.aut.auth.get a).kept.failures * 1024) ∧
          ∀ i d, s.lnk.deferred.get i = some d → d.state = .working .engine → t.Finishes i d (.plain .disabled)) ∧
        (∀ credential salt factor grants startup,
          s.aut.engine.job = some (.setCredential a credential salt factor grants startup) → t.aut.engine = .idle ∧
          ∀ i d, s.lnk.deferred.get i = some d → d.state = .working .engine → t.Finishes i d (.plain .denied)) ∧
        ((∀ credential, s.aut.engine.job ≠ some (.authenticate a credential)) →
          (∀ credential salt factor grants startup,
            s.aut.engine.job ≠ some (.setCredential a credential salt factor grants startup)) →
          t.aut.engine.plain = s.aut.engine.plain ∧ s.KeepsWorking t) ∧
        (∀ p, p ≠ .backoff a → p ≠ .absence → t.deadline p = s.deadline p) ∧ t.Marked (.authority a) ∧
        Unchanged [.waiting, .outbound, .deferred, .authorities, .domainKey, .keks, .engine, .deadlines,
          .operation, .dirty] s t)

/-- R90 to R92: with a secret set, PAIR_CHALLENGE gives a fresh nonce; PAIR_PROVE consumes it, and a matching proof pairs the part and
withdraws the window, while another raises PAIRING. SET_PAIRING by a signed-in admin, the guard passing, replaces
secret and token, and the window's end discards the nonce and raises PAIRING.
The model's own choices here: logs 4, 9, 10, 11, 13, 16. -/
def Obligations.PairingFollowsTheProof : Prop :=
  (∀ (s : State) (h : Header), s.TakesUp (.pairChallenge h) → s.aut.secret.isSome →
    ∃ t, exec (.pairChallenge h) s = .next t ∧ s.Replied 0x17 h.tag (okWith (.nonce s.model.draws)) t ∧
      t.aut.nonce = some s.model.draws ∧ t.model.draws = s.model.draws + 1 ∧ t.aut.secret = s.aut.secret ∧
      t.aut.token = s.aut.token ∧ t.aut.paired = s.aut.paired ∧ Unchanged [.waiting, .outbound, .pairing, .draws] s t) ∧
  (∀ (s : State) (h : Header) (proof : List Byte), s.TakesUp (.pairProve h proof) → s.aut.secret.isSome → proof.length = 32 →
    s.aut.nonce.isSome →
    ∃ t, exec (.pairProve h proof) s = .next t ∧ t.aut.nonce = none ∧ t.aut.secret = s.aut.secret ∧
      t.aut.token = s.aut.token ∧
      (proofMatches s.aut.secret s.aut.nonce proof = true → s.Replied 0x18 h.tag (okWith .empty) t ∧
        t.aut.paired = true ∧ t.deadline .pairing = none ∧ t.thm.raised = s.thm.raised) ∧
      (proofMatches s.aut.secret s.aut.nonce proof = false → s.Replied 0x18 h.tag (.plain .failed) t ∧
        t.aut.paired = s.aut.paired ∧ t.thm.raised = s.thm.raised ++ [.pairing] ∧
        Unchanged [.waiting, .outbound, .pairing, .raised] s t) ∧ s.OthersStand (· == .pairing) t ∧
      Unchanged [.waiting, .outbound, .pairing, .deadlines, .fallen, .raised] s t) ∧
  (∀ (s : State) (h : Header) (acting : Nat) (secret token : Option (List Byte)),
    s.TakesUp (.setPairing h acting secret token) → s.adminActs acting = true → s.guardPasses h.strap = true →
    secret.all (fun l => l.length = 32) = true →
    token.all tokenFits = true → s.freeDeferred.isSome →
    ∃ t, exec (.setPairing h acting secret token) s = .next t ∧ s.Deferring 0x19 h.tag .aut t ∧ s.KeepsWorking t ∧
      t.aut.secret = secret.map bits256 ∧ t.aut.token = (token.map fun l => { token := l }) ∧ t.aut.nonce = none ∧
      (secret.isSome → t.aut.paired = true) ∧ t.deadline .pairing = none ∧ s.OthersStand (· == .pairing) t ∧
      t.Marked .pairing ∧
      Unchanged [.waiting, .deferred, .pairing, .deadlines, .fallen, .operation, .dirty] s t) ∧
  ∀ s : State, s.pwc.power ≠ .unpowered → s.HasFallen .pairing →
    ∃ t, exec .pairingWindowExpiry s = .next t ∧ t.Taken .pairing ∧ t.aut.nonce = none ∧
      t.aut.secret = s.aut.secret ∧ t.aut.paired = s.aut.paired ∧ t.thm.raised = s.thm.raised ++ [.pairing] ∧
      s.OthersStand (· == .pairing) t ∧ Unchanged [.pairing, .fallen, .raised] s t

/-- R80, R81, R102, R107, R109: a derivation that matches signs its authority in: f and G return to 0, the last sign-in is the PSC, the
backoff is withdrawn, the absence check is armed, the engine is IDLE, both records are marked, and the reply OK names the level, the
ranges opened, those whose unwrap failed and, to an admin, whether the domain key is cached. An admin's sign-in caches the domain key its
envelope yields and brings WARY or ALARM to CALM with a THREAT notice, where ranges with `lock_enabled` false open from their device
wraps; then its start-up set opens from the domain wraps. A user's leaves the level, caches its KEK, and opens its start-up set from its
envelopes, but for the ranges that WARY skips. The ranges opened take slots in ascending order. A range that is not opened stays as it
was. The engine holds no job that its level would have aborted (`EngineSound`).
The model's own choices here: logs 9, 10, 44. -/
def Obligations.MatchingDerivationSignsIn : Prop :=
  ∀ (s : State) (a : AuthIx) (credential : List Byte) (c : Credential) (kek : Key), s.pwc.power ≠ .unpowered →
    s.EngineSound → s.aut.engine = .deriving_ (.authenticate a credential) →
    (s.aut.auth.get a).kept.credential = some c →
    c.verifier = { credential := credential, salt := c.salt, factor := c.factor } →
    kek = .kek credential c.salt c.factor →
    ∃ t opened failed, exec .derivationComplete s = .next t ∧ t.aut.engine = .idle ∧
      (t.aut.auth.get a).signedIn = true ∧ (t.aut.auth.get a).kept = { (s.aut.auth.get a).kept with failures := 0 } ∧
      (∀ b, b ≠ a → t.aut.auth.get b = s.aut.auth.get b) ∧ t.aut.tryCount = 0 ∧ t.aut.lastSignIn = s.pscNow ∧
      t.deadline (.backoff a) = none ∧ t.thm.armed = true ∧ t.Marked (.authority a) ∧ t.Marked .counters ∧
      (∀ i d, s.lnk.deferred.get i = some d → d.state = .working .engine → t.Finishes i d (okWith
        (.signedIn a t.thm.level opened failed (if isAdmin a then some t.rmg.domainKey.isSome else none)))) ∧
      (∀ r, r ∉ opened → t.rmg.ranges.get r = s.rmg.ranges.get r ∧ t.rmg.rangeKeys.get r = s.rmg.rangeKeys.get r) ∧
      (∀ r ∈ opened, t.rmg.ranges.get r =
        { s.rmg.ranges.get r with lock := .opened, slot := (t.rmg.ranges.get r).slot }) ∧
      (∀ r ∈ opened, (s.rmg.ranges.get r).slot.isSome → (t.rmg.ranges.get r).slot = (s.rmg.ranges.get r).slot) ∧
      t.Loads ((List.finRange 16).filter fun r => opened.contains r && (s.rmg.ranges.get r).slot.isNone)
        s.kln.slots s.kln.queue s.kln.lane ∧
      s.OthersStand (fun p => p == .backoff a || p == .grace) t ∧
      (s.model.bumped = false →
        t.rmg.mapGen = if t.thm.level = s.thm.level ∧ opened = [] then s.rmg.mapGen else nextMapGen s.rmg.mapGen) ∧
      (isAdmin a = true →
        (t.thm.level = .calm ∧ t.rmg.keks = s.rmg.keks) ∧
        (s.thm.level ≠ .calm → t.thm.grace = none ∧ t.deadline .grace = none ∧ (s.pwc.power = .active →
          t.Notified (.threat .calm s.thm.level .signIn (some a) none t.rmg.mapGen))) ∧
        (∀ p e, s.envelopeAt a .domain = some p → s.rmg.envelopes.get p = some e →
          e.wrapped.intact = true ∧ e.wrapped.under = kek → t.rmg.domainKey = some e.wrapped.holds ∧
          ∀ r w, s.defined r = true → (s.rmg.ranges.get r).keyState = .keyed →
            (s.rmg.ranges.get r).flags.lockEnabled = true → (s.rmg.ranges.get r).domainWrap = some w →
            (r ∈ opened ↔ (r ∈ (s.aut.auth.get a).kept.startup ∧
              ((s.rmg.ranges.get r).lock = .locked ∨ (s.rmg.ranges.get r).lock = .readOnly)) ∧
              w.intact = true ∧ w.under = e.wrapped.holds) ∧
            (r ∈ failed ↔ (r ∈ (s.aut.auth.get a).kept.startup ∧
              ((s.rmg.ranges.get r).lock = .locked ∨ (s.rmg.ranges.get r).lock = .readOnly)) ∧
              ¬(w.intact = true ∧ w.under = e.wrapped.holds)) ∧
            (r ∈ opened → t.rmg.rangeKeys.get r = some w.holds)) ∧
        ((∀ p e, s.envelopeAt a .domain = some p → s.rmg.envelopes.get p = some e →
            ¬(e.wrapped.intact = true ∧ e.wrapped.under = kek)) → t.rmg.domainKey = s.rmg.domainKey ∧
          ∀ r, (s.rmg.ranges.get r).flags.lockEnabled = true → r ∉ opened ∧ r ∉ failed) ∧
        (∀ r w, s.defined r = true → (s.rmg.ranges.get r).keyState = .keyed →
          (s.rmg.ranges.get r).flags.lockEnabled = false → (s.rmg.ranges.get r).deviceWrap = some w →
          (r ∈ opened ↔ (s.thm.level ≠ .calm ∧ (s.rmg.ranges.get r).lock = .locked) ∧
            w.intact = true ∧ w.under = .device) ∧
          (r ∈ failed ↔ (s.thm.level ≠ .calm ∧ (s.rmg.ranges.get r).lock = .locked) ∧
            ¬(w.intact = true ∧ w.under = .device)) ∧
          (r ∈ opened → t.rmg.rangeKeys.get r = some w.holds))) ∧
      (isUser a = true → t.thm.level = s.thm.level ∧ t.rmg.keks = s.rmg.keks.set a (some kek) ∧
        t.rmg.domainKey = s.rmg.domainKey ∧
        (∀ r, r ∈ opened ∨ r ∈ failed → r ∈ (s.aut.auth.get a).kept.startup ∧ s.defined r = true ∧
          (s.rmg.ranges.get r).keyState = .keyed ∧ (s.rmg.ranges.get r).flags.lockEnabled = true ∧
          ((s.rmg.ranges.get r).lock = .locked ∨ (s.rmg.ranges.get r).lock = .readOnly) ∧
          ¬(s.thm.level = .wary ∧ (s.rmg.ranges.get r).flags.concealOnWary = true) ∧
          (s.envelopeAt a (.range r)).isSome) ∧
        ∀ r p e, r ∈ (s.aut.auth.get a).kept.startup → s.defined r = true → (s.rmg.ranges.get r).keyState = .keyed →
          (s.rmg.ranges.get r).flags.lockEnabled = true →
          (s.rmg.ranges.get r).lock = .locked ∨ (s.rmg.ranges.get r).lock = .readOnly →
          ¬(s.thm.level = .wary ∧ (s.rmg.ranges.get r).flags.concealOnWary = true) →
          s.envelopeAt a (.range r) = some p → s.rmg.envelopes.get p = some e →
          if e.wrapped.intact = true ∧ e.wrapped.under = kek then
            r ∈ opened ∧ r ∉ failed ∧ t.rmg.rangeKeys.get r = some e.wrapped.holds
          else r ∈ failed ∧ r ∉ opened) ∧
      Unchanged [.outbound, .pendingSet, .deferred, .period, .ranges, .domainKey, .rangeKeys, .keks, .mapGen, .slots,
        .lane, .authorities, .tryCount, .lastSignIn, .engine, .level, .grace, .armed, .reports, .deadlines, .fallen,
        .operation, .dirty, .faulty] s t

/-- R82, R83: a derivation that does not match leaves f and G as charged and sets the backoff from delay(f). A USER at its limit is
disabled; an admin authority at its limit, or a spent device-wide budget, raises BUDGET. The reply is FAILED with f,
the limit and the delay. A backoff that falls due ends.
The model's own choices here: logs 10, 16. -/
def Obligations.FailedDerivationSetsTheBackoff : Prop :=
  (∀ (s : State) (a : AuthIx) (credential : List Byte) (c : Credential), s.pwc.power ≠ .unpowered →
    s.aut.engine = .deriving_ (.authenticate a credential) → (s.aut.auth.get a).kept.credential = some c →
    c.verifier ≠ { credential := credential, salt := c.salt, factor := c.factor } →
    ∃ t f pause, exec .derivationComplete s = .next t ∧ f = (s.aut.auth.get a).kept.failures ∧
      pause = (if f < 3 then 0 else min (2 ^ (f - 3)) 3600) ∧ t.aut.engine = .idle ∧
      t.deadline (.backoff a) = some (s.tmb.uptime + pause * 1024) ∧
      (t.aut.auth.get a).signedIn = (s.aut.auth.get a).signedIn ∧
      (t.aut.auth.get a).kept = { (s.aut.auth.get a).kept with enabled := (t.aut.auth.get a).kept.enabled } ∧
      (∀ b, b ≠ a → t.aut.auth.get b = s.aut.auth.get b) ∧
      (isUser a = true → (s.aut.auth.get a).kept.limit ≤ f →
        (t.aut.auth.get a).kept.enabled = false) ∧
      (isUser a = false ∨ f < (s.aut.auth.get a).kept.limit →
        (t.aut.auth.get a).kept.enabled = (s.aut.auth.get a).kept.enabled) ∧
      ((isAdmin a = true ∧ (s.aut.auth.get a).kept.limit ≤ f) ∨ s.overBudget = true →
        t.thm.raised = s.thm.raised ++ [.budget]) ∧
      ((isUser a = true ∨ f < (s.aut.auth.get a).kept.limit) → s.overBudget = false → t.thm.raised = s.thm.raised) ∧
      (∀ i d, s.lnk.deferred.get i = some d → d.state = .working .engine →
        t.Finishes i d (.mk .failed
          (.attemptFailed f (s.aut.auth.get a).kept.limit pause (!(t.aut.auth.get a).kept.enabled)))) ∧
      s.OthersStand (· == .backoff a) t ∧
      Unchanged [.outbound, .deferred, .authorities, .engine, .raised, .deadlines, .fallen, .operation, .dirty] s t) ∧
  ∀ (s : State) (a : AuthIx), s.pwc.power ≠ .unpowered → s.HasFallen (.backoff a) →
    ∃ t, exec (.backoffExpiry a.val) s = .next t ∧ t.Taken (.backoff a) ∧
      s.OthersStand (· == .backoff a) t ∧ Unchanged [.fallen] s t

/-- R79, R75, R16: what AUT does as a write it waits on ends. Both writes of an attempt's charge written, the engine enters DERIVING; one
that fails twice ends the attempt with STORE_FAULT, the engine IDLE, the charge standing and the backoff set from that uptime, no
threshold applied. PROVISION's stages follow one another as their writes end: the lifecycle with G and the last sign-in, then a fresh key
for every defined range, the ranges with `lock_enabled` false opening under CALM or WARY, then the reply OK; a write of it that fails
twice ends it with STORE_FAULT where it stands.
The model's own choices here: logs 5, 9, 12, 17, 31. -/
def Obligations.ChargesAndProvisionGoOnAsTheirWritesEnd : Prop :=
  ∀ (s : State) (w : RecContent) (good retry first : Bool), s.pwc.power ≠ .unpowered → s.pwc.stage = .done →
    s.sto.inFlight = some (.write w retry false) → good = true ∨ retry = true → waitsOn w.id s.wpc.waits = false →
    waitsOn w.id s.rmg.grants = false →
    (∀ job waits, s.aut.engine = .charging job waits → waitsOn w.id waits = true →
      ∃ t, exec (.recordWrite good first) s = .next t ∧
        (good = true → (∀ x ∈ waits, x.record = w.id ∧ x.started = true) → t.aut.engine = .deriving_ job) ∧
        (good = true → (∃ x ∈ waits, x.record ≠ w.id) →
          t.aut.engine.plain = .charging job (waitsFor ((servedWait w.id waits).map Wait.record))) ∧
        (good = true → Unchanged [.outbound, .deferred, .engine, .records, .operation, .dirty, .faulty] s t) ∧
        (good = false → t.aut.engine = .idle ∧
          (∀ i d, s.lnk.deferred.get i = some d → d.state = .working .engine → t.Finishes i d (storeFault .none)) ∧
          (∀ a credential, job = .authenticate a credential → t.deadline (.backoff a) =
            some (s.tmb.uptime + delay (s.aut.auth.get a).kept.failures * 1024)) ∧
          s.OthersStand (fun p => s.aut.engine.backoff == some p) t ∧
          w.id ∈ t.sto.faulty ∧ Unchanged [.outbound, .pendingSet, .period, .deferred, .engine, .deadlines, .records,
            .operation, .dirty, .faulty] s t)) ∧
    ∀ stage domain waits, s.aut.engine = .finishing stage domain waits → waitsOn w.id waits = true →
      ∃ t, exec (.recordWrite good first) s = .next t ∧
        (good = false → t.aut.engine = .idle ∧
          (∀ i d, s.lnk.deferred.get i = some d → d.state = .working .engine → t.Finishes i d (storeFault .none)) ∧
          Unchanged [.outbound, .pendingSet, .period, .deferred, .engine, .records, .operation, .dirty, .faulty] s t) ∧
        (good = true → (∃ x ∈ waits, x.record ≠ w.id) →
          t.aut.engine.plain = .finishing stage domain (waitsFor ((servedWait w.id waits).map Wait.record)) ∧
          Unchanged [.outbound, .deferred, .engine, .records, .operation, .dirty, .faulty] s t) ∧
        (good = true → (∀ x ∈ waits, x.record = w.id ∧ x.started = true) →
          (stage = .authorities → t.aut.lifecycle = .provisioned ∧ t.aut.tryCount = 0 ∧ t.aut.lastSignIn = s.pscNow ∧
            t.Marked .counters ∧ t.aut.engine.plain = .finishing .lifecycle domain (waitsFor [.counters]) ∧
            Unchanged [.outbound, .deferred, .lifecycle, .tryCount, .lastSignIn, .engine, .records, .operation, .dirty,
              .faulty] s t) ∧
          (stage = .lifecycle → t.thm.armed = true ∧
            t.aut.engine.plain = .finishing .rangeKeys domain (waitsFor (s.definedRanges.map .rangeKey)) ∧
            (s.model.bumped = false → t.rmg.mapGen = nextMapGen s.rmg.mapGen) ∧
            (∀ r, s.defined r = false → t.rmg.ranges.get r = s.rmg.ranges.get r) ∧
            (∀ r, s.defined r = true → ∃ n, s.model.draws ≤ n ∧ n < t.model.draws ∧ t.Marked (.rangeKey r) ∧
              (t.rmg.ranges.get r).keyState = .keyed ∧
              (t.rmg.ranges.get r).generation = ((s.rmg.ranges.get r).generation + 1) % 65536 ∧
              (t.rmg.ranges.get r).domainWrap = some (wrapped domain (.drawn n)) ∧
              (t.rmg.ranges.get r).geometry = (s.rmg.ranges.get r).geometry ∧
              (t.rmg.ranges.get r).flags = (s.rmg.ranges.get r).flags ∧
              (t.rmg.ranges.get r).deviceWrap =
                (if (s.rmg.ranges.get r).flags.lockEnabled then none else some (wrapped .device (.drawn n))) ∧
              (if (s.rmg.ranges.get r).flags.lockEnabled = false ∧ (s.rmg.ranges.get r).lock = .locked ∧
                  (s.thm.level = .calm ∨ s.thm.level = .wary) then
                (t.rmg.ranges.get r).lock = .opened ∧ t.rmg.rangeKeys.get r = some (.drawn n)
              else (t.rmg.ranges.get r).lock = (s.rmg.ranges.get r).lock ∧
                t.rmg.rangeKeys.get r = s.rmg.rangeKeys.get r)) ∧
            t.Loads ((List.finRange 16).filter fun r => s.defined r && (s.rmg.ranges.get r).lock == .locked &&
              (t.rmg.ranges.get r).lock == .opened && (s.rmg.ranges.get r).slot.isNone)
              s.kln.slots s.kln.queue s.kln.lane ∧
            (∀ q r, q ≠ r → s.defined q = true → s.defined r = true →
              (t.rmg.ranges.get q).domainWrap ≠ (t.rmg.ranges.get r).domainWrap) ∧
            Unchanged [.outbound, .deferred, .ranges, .rangeKeys, .mapGen, .slots, .lane, .armed, .engine, .draws,
              .records, .operation, .dirty, .faulty] s t) ∧
          (stage = .rangeKeys → t.aut.engine = .idle ∧
            (∀ i d, s.lnk.deferred.get i = some d → d.state = .working .engine → t.Finishes i d (okWith
              (.provisioned s.aut.lifecycle
                (s.definedRanges.map fun r => (r, (s.rmg.ranges.get r).generation))))) ∧
            Unchanged [.outbound, .deferred, .engine, .records, .operation, .dirty, .faulty] s t))

/-! ## Ranges, keys and envelopes -/

/-- R22, R23: GRANT wraps the range's key under the user's KEK at the lowest empty position, in force at once, and is answered at once
where the envelope exists; REVOKE empties the envelope's position at once. Either marks the ENVELOPE record and defers
its reply, and neither moves a lock.
The model's own choices here: logs 9, 13, 20, 48. -/
def Obligations.GrantAndRevokeMoveOneEnvelope : Prop :=
  ∀ (s : State) (h : Header) (acting : Nat) (u : AuthIx) (r : RangeIx), s.adminActs acting = true → isUser u = true →
    r ≠ 0 → s.defined r = true →
    (∀ kek key p, s.TakesUp (.grant h acting u.val r.val) → (s.rmg.ranges.get r).keyState = .keyed → s.rmg.keks.get u = some kek →
      s.envelopeAt u (.range r) = none → s.emptyPosition = some p → s.freeDeferred.isSome → s.keyOf r = some key →
      ∃ t, exec (.grant h acting u.val r.val) s = .next t ∧ s.Deferring 0x15 h.tag .rmg t ∧ s.KeepsWorking t ∧
        t.rmg.envelopes.get p = some { authority := u, target := .range r, wrapped := wrapped kek key } ∧
        (∀ q, q ≠ p → t.rmg.envelopes.get q = s.rmg.envelopes.get q) ∧ t.Marked (.envelope p) ∧
        Unchanged [.waiting, .deferred, .envelopes, .grants, .operation, .dirty] s t) ∧
    (∀ kek p, s.TakesUp (.grant h acting u.val r.val) → (s.rmg.ranges.get r).keyState = .keyed → s.rmg.keks.get u = some kek →
      s.envelopeAt u (.range r) = some p →
      ∃ t, exec (.grant h acting u.val r.val) s = .next t ∧ s.Replied 0x15 h.tag (okWith (.position (some p))) t ∧
        Unchanged Part.replies s t) ∧
    ∀ p, s.TakesUp (.revoke h acting u.val r.val) → s.envelopeAt u (.range r) = some p → s.freeDeferred.isSome →
      ∃ t, exec (.revoke h acting u.val r.val) s = .next t ∧ s.Deferring 0x16 h.tag .rmg t ∧ s.KeepsWorking t ∧
        t.rmg.envelopes.get p = none ∧ (∀ q, q ≠ p → t.rmg.envelopes.get q = s.rmg.envelopes.get q) ∧
        t.Marked (.envelope p) ∧ Unchanged [.waiting, .deferred, .envelopes, .grants, .operation, .dirty] s t

/-- R10, R13, R16: DEFINE_RANGE by a signed-in admin, the guard passing, with a geometry that fits: the lowest free index takes geometry,
flags, a fresh key and the next key generation, LOCKED, or OPEN with an eager load where `lock_enabled` is false under CALM or WARY.
DELETE_RANGE of a LOCKED range: its entry is undefined and ERASED with its key generation kept, its user envelopes and its
place in the start-up sets are gone. Either increments the map generation and marks the records concerned.
The model's own choices here: logs 4, 9, 13, 20. -/
def Obligations.DefineAndDeleteRanges : Prop :=
  (∀ (s : State) (h : Header) (acting : Nat) (g : Geometry) (flags : RangeFlags) (r : RangeIx)
      (domain : Key),
    s.TakesUp (.defineRange h acting g flags) → s.model.bumped = false → s.adminActs acting = true → s.guardPasses h.strap = true →
    1 ≤ g.length → g.start + g.length ≤ s.sto.identity.capacity → s.clearOf g none = true → s.freeIndex = some r →
    s.rmg.domainKey = some domain → s.freeDeferred.isSome →
    ∃ t lock, exec (.defineRange h acting g flags) s = .next t ∧
      lock = (if flags.lockEnabled = false ∧ s.thm.level ≠ .alarm then LockState.opened else .locked) ∧
      t.rmg.ranges.get r =
        { geometry := some g, flags := flags, keyState := .keyed
          generation := ((s.rmg.ranges.get r).generation + 1) % 65536
          domainWrap := some (wrapped domain (.drawn s.model.draws))
          deviceWrap := if flags.lockEnabled then none else some (wrapped .device (.drawn s.model.draws))
          lock := lock, slot := (t.rmg.ranges.get r).slot } ∧
      (lock = .opened → t.rmg.rangeKeys.get r = some (.drawn s.model.draws) ∧
        t.Loads [r] s.kln.slots s.kln.queue s.kln.lane) ∧
      (lock = .locked → (t.rmg.ranges.get r).slot = none ∧ t.rmg.rangeKeys.get r = s.rmg.rangeKeys.get r ∧
        t.kln.slots = s.kln.slots) ∧
      (∀ q, q ≠ r → t.rmg.ranges.get q = s.rmg.ranges.get q ∧ t.rmg.rangeKeys.get q = s.rmg.rangeKeys.get q) ∧
      t.rmg.mapGen = nextMapGen s.rmg.mapGen ∧ s.Deferring 0x20 h.tag .rmg t ∧ s.KeepsWorking t ∧
      t.Marked (.rangeKey r) ∧ t.Marked (.range r) ∧ t.model.draws = s.model.draws + 1 ∧
      Unchanged [.waiting, .deferred, .ranges, .rangeKeys, .mapGen, .slots, .lane, .operation, .dirty, .draws] s t) ∧
  ∀ (s : State) (h : Header) (acting : Nat) (r : RangeIx),
    s.TakesUp (.deleteRange h acting r.val) → s.model.bumped = false →
    s.adminActs acting = true → s.guardPasses h.strap = true → r ≠ 0 → s.defined r = true →
    (s.rmg.ranges.get r).lock = .locked → s.freeDeferred.isSome →
    ∃ t, exec (.deleteRange h acting r.val) s = .next t ∧
      t.rmg.ranges.get r = { RangeEntry.bare with generation := (s.rmg.ranges.get r).generation } ∧
      (∀ q, q ≠ r → t.rmg.ranges.get q = s.rmg.ranges.get q) ∧
      (∀ p e, s.rmg.envelopes.get p = some e → e.target = .range r →
        t.rmg.envelopes.get p = none ∧ t.Marked (.envelope p)) ∧
      (∀ p, (∀ e, s.rmg.envelopes.get p = some e → e.target ≠ .range r) →
        t.rmg.envelopes.get p = s.rmg.envelopes.get p) ∧
      (∀ a, (t.aut.auth.get a).signedIn = (s.aut.auth.get a).signedIn ∧
        (t.aut.auth.get a).kept = { (s.aut.auth.get a).kept with
          startup := (s.aut.auth.get a).kept.startup.filter fun q => !(q == r) } ∧
        (r ∈ (s.aut.auth.get a).kept.startup → t.Marked (.authority a))) ∧
      t.rmg.mapGen = nextMapGen s.rmg.mapGen ∧ s.Deferring 0x22 h.tag .rmg t ∧ s.KeepsWorking t ∧
      t.Marked (.rangeKey r) ∧ t.Marked (.range r) ∧
      Unchanged [.waiting, .deferred, .ranges, .envelopes, .grants, .authorities, .mapGen, .operation, .dirty] s t

/-- R11, R12: MODIFY_RANGE by a signed-in admin, the guard passing. Flags take their values in any lock state: `lock_enabled` to false
makes the device wrap and opens a LOCKED or READ_ONLY range, with an eager load, under CALM or WARY; to true it removes the device wrap
and leaves the lock. A geometry is taken by a LOCKED range, which keeps its key. The map generation is incremented.
The model's own choices here: logs 4, 9, 13, 20, 47. -/
def Obligations.ModifyRangeSetsFlagsAndGeometry : Prop :=
  (∀ (s : State) (h : Header) (acting : Nat) (r : RangeIx) (old : RangeEntry) (flags : RangeFlags)
      (geometry : Option Geometry),
    s.TakesUp (.modifyRange h acting r.val flags geometry) → s.model.bumped = false → s.adminActs acting = true →
    s.guardPasses h.strap = true → s.defined r = true →
    old = s.rmg.ranges.get r → (r = 0 → flags.conceal = false ∧ flags.concealOnWary = false) →
    (∀ g, geometry = some g → r ≠ 0 ∧ old.lock = .locked ∧ 1 ≤ g.length ∧
      g.start + g.length ≤ s.sto.identity.capacity ∧ s.clearOf g (some r) = true) →
    (old.flags.lockEnabled = true → flags.lockEnabled = false → old.keyState = .keyed → (s.keyOf r).isSome) →
    s.freeDeferred.isSome →
    ∃ t new, exec (.modifyRange h acting r.val flags geometry) s = .next t ∧ new = t.rmg.ranges.get r ∧
      new.flags = flags ∧ (geometry = none → new.geometry = old.geometry) ∧
      (∀ g, geometry = some g → new.geometry = some g) ∧ new.keyState = old.keyState ∧
      new.generation = old.generation ∧ new.domainWrap = old.domainWrap ∧
      (old.flags.lockEnabled = flags.lockEnabled → new.lock = old.lock ∧ new.deviceWrap = old.deviceWrap ∧
        t.rmg.rangeKeys = s.rmg.rangeKeys) ∧
      (old.flags.lockEnabled = false → flags.lockEnabled = true → new.lock = old.lock ∧ new.deviceWrap = none ∧
        t.Marked (.rangeKey r)) ∧
      (∀ k, old.flags.lockEnabled = true → flags.lockEnabled = false → old.keyState = .keyed → s.keyOf r = some k →
        new.deviceWrap = some (wrapped .device k) ∧ t.Marked (.rangeKey r) ∧
        if (old.lock = .locked ∨ old.lock = .readOnly) ∧ s.thm.level ≠ .alarm then
          new.lock = .opened ∧ t.rmg.rangeKeys.get r = some k ∧
          (old.slot = none → t.Loads [r] s.kln.slots s.kln.queue s.kln.lane) ∧
          (old.slot.isSome → new.slot = old.slot ∧ t.Loads [] s.kln.slots s.kln.queue s.kln.lane)
        else new.lock = old.lock) ∧
      (∀ q, q ≠ r → t.rmg.ranges.get q = s.rmg.ranges.get q ∧ t.rmg.rangeKeys.get q = s.rmg.rangeKeys.get q) ∧
      t.rmg.mapGen = nextMapGen s.rmg.mapGen ∧ s.Deferring 0x21 h.tag .rmg t ∧ s.KeepsWorking t ∧
      t.Marked (.range r) ∧
      Unchanged [.waiting, .deferred, .ranges, .rangeKeys, .mapGen, .slots, .lane, .operation, .dirty] s t) ∧
  ∀ (s : State) (h : Header) (acting : Nat) (r : RangeIx) (g : Geometry),
    s.TakesUp (.modifyRangeGeometry h acting r.val g) → s.model.bumped = false →
    s.adminActs acting = true → s.guardPasses h.strap = true → r ≠ 0 → s.defined r = true →
    (s.rmg.ranges.get r).lock = .locked → 1 ≤ g.length → g.start + g.length ≤ s.sto.identity.capacity →
    s.clearOf g (some r) = true → s.freeDeferred.isSome →
    ∃ t, exec (.modifyRangeGeometry h acting r.val g) s = .next t ∧
      t.rmg.ranges.get r = { s.rmg.ranges.get r with geometry := some g } ∧
      (∀ q, q ≠ r → t.rmg.ranges.get q = s.rmg.ranges.get q) ∧ t.rmg.mapGen = nextMapGen s.rmg.mapGen ∧
      s.Deferring 0x21 h.tag .rmg t ∧ s.KeepsWorking t ∧ t.Marked (.range r) ∧
      Unchanged [.waiting, .deferred, .ranges, .mapGen, .operation, .dirty] s t

/-- R17 to R19, R54: LOCK_RANGE by an authority with the rights on a range with `lock_enabled`. WRITE takes OPEN to READ_ONLY and leaves
every other state. ALL takes OPEN or READ_ONLY to LOCKED at once without a slot, its key leaving the cache; with a slot to LOCKING, the
reply deferred, and a slot without pins is cleared: a LOADED one, or a LOADING one whose LOAD is in flight, by a CLEAR at the tail of the
lane queue, one with its LOAD still queued by that LOAD's removal, which completes the lock, a CLEARING one by the CLEAR under way, the
LOAD that waited for the range being taken away. Without a free deferred-reply entry such an ALL is BUSY. ALL in LOCKING is WRONG_STATE,
in LOCKED OK.
The model's own choices here: logs 13, 29, 42, 48. -/
def Obligations.LockRangeNarrowsAccess : Prop :=
  ∀ (s : State) (h : Header) (acting : Nat) (r : RangeIx) (old : RangeEntry) (mode : LockMode),
    s.TakesUp (.lockRange h acting r.val (some mode)) → s.model.bumped = false →
    s.defined r = true → s.showsTo acting (some r) = true → s.signedIn acting = true →
    s.mayLock acting (some r) = true → old = s.rmg.ranges.get r → old.flags.lockEnabled = true →
    (mode = .write → old.lock = .opened → ∃ t, exec (.lockRange h acting r.val (some mode)) s = .next t ∧
      t.rmg.ranges = s.rmg.ranges.set r { old with lock := .readOnly } ∧ t.rmg.mapGen = nextMapGen s.rmg.mapGen ∧
      s.Replied 0x24 h.tag (okWith (.lockState .readOnly)) t ∧ Unchanged [.waiting, .outbound, .ranges, .mapGen] s t) ∧
    ((mode = .write ∧ old.lock ≠ .opened) ∨ (mode = .all ∧ old.lock = .locked) →
      ∃ t, exec (.lockRange h acting r.val (some mode)) s = .next t ∧
        s.Replied 0x24 h.tag (okWith (.lockState old.lock)) t ∧ Unchanged Part.replies s t) ∧
    (mode = .all → old.lock = .opened ∨ old.lock = .readOnly → old.slot = none →
      ∃ t, exec (.lockRange h acting r.val (some mode)) s = .next t ∧
        t.rmg.ranges = s.rmg.ranges.set r { old with lock := .locked } ∧
        t.rmg.rangeKeys = s.rmg.rangeKeys.set r none ∧ t.rmg.mapGen = nextMapGen s.rmg.mapGen ∧
        s.Replied 0x24 h.tag (okWith (.lockState .locked)) t ∧
        Unchanged [.waiting, .outbound, .ranges, .rangeKeys, .mapGen] s t) ∧
    (∀ i slot clear, mode = .all → old.lock = .opened ∨ old.lock = .readOnly → old.slot = some i →
      slot = s.kln.slots.get i → clear = { op := .clear, slot := i, key := none } → s.freeDeferred.isSome →
      (1 ≤ slot.pins ∨ slot.state = .loaded ∨
          (slot.state = .loading ∧ ∀ f ∈ s.kln.queue, ¬(f.op = .load ∧ f.slot = i)) →
        ∃ t, exec (.lockRange h acting r.val (some mode)) s = .next t ∧
          t.rmg.ranges = s.rmg.ranges.set r { old with lock := .locking } ∧ t.rmg.mapGen = nextMapGen s.rmg.mapGen ∧
          s.Deferring 0x24 h.tag .rmg t ∧ s.KeepsWorking t ∧
          (1 ≤ slot.pins → t.kln.slots = s.kln.slots ∧ Part.same s t .lane) ∧
          (slot.pins = 0 → t.kln.slots = s.kln.slots.set i { slot with state := .clearing } ∧
            (s.kln.lane = .idle → t.LaneRuns (s.kln.queue ++ [clear])) ∧
            (s.kln.lane ≠ .idle → t.kln.lane = s.kln.lane ∧ t.kln.queue = s.kln.queue ++ [clear])) ∧
          Unchanged [.waiting, .deferred, .ranges, .mapGen, .slots, .lane] s t) ∧
      (slot.pins = 0 → slot.state = .loading → (∃ f ∈ s.kln.queue, f.op = .load ∧ f.slot = i) → s.SlotsDistinct →
        s.LocksAwaited →
        ∃ t j d, exec (.lockRange h acting r.val (some mode)) s = .next t ∧
          t.rmg.ranges = s.rmg.ranges.set r { old with lock := .locked, slot := none } ∧
          t.rmg.rangeKeys = s.rmg.rangeKeys.set r none ∧ t.rmg.mapGen = nextMapGen s.rmg.mapGen ∧
          t.kln.slots = s.kln.slots.set i slot.emptied ∧
          (∀ queue, queue = s.kln.queue.filter (fun f => !(f.op == .load && f.slot == i)) →
            (s.kln.lane = .idle → t.LaneRuns queue) ∧
            (s.kln.lane ≠ .idle → t.kln.lane = s.kln.lane ∧ t.kln.queue = queue)) ∧
          s.lnk.deferred.get j = none ∧ d.kind = 0x24 ∧ d.tag = h.tag ∧ t.Finishes j d lockedReply ∧
          s.KeepsWorking t ∧
          Unchanged [.waiting, .outbound, .deferred, .ranges, .rangeKeys, .mapGen, .slots, .lane] s t)) ∧
    (∀ i, mode = .all → old.lock = .opened ∨ old.lock = .readOnly → old.slot = some i →
      (s.freeDeferred = none → ∃ t, exec (.lockRange h acting r.val (some mode)) s = .next t ∧
        s.Replied 0x24 h.tag (.plain .busy) t ∧ Unchanged Part.replies s t) ∧
      ∀ slot, slot = s.kln.slots.get i → slot.pins = 0 → slot.state = .clearing → s.freeDeferred.isSome →
        ∃ t, exec (.lockRange h acting r.val (some mode)) s = .next t ∧
          t.rmg.ranges = s.rmg.ranges.set r { old with lock := .locking } ∧ t.rmg.mapGen = nextMapGen s.rmg.mapGen ∧
          s.Deferring 0x24 h.tag .rmg t ∧ s.KeepsWorking t ∧
          (∀ o queue, slot.next = some o → o.range = r →
            queue = s.kln.queue.filter (fun f => !(f.op == .load && f.slot == i)) →
            t.kln.slots = s.kln.slots.set i { slot with next := none } ∧
            (s.kln.lane = .idle → t.LaneRuns queue) ∧
            (s.kln.lane ≠ .idle → t.kln.lane = s.kln.lane ∧ t.kln.queue = queue)) ∧
          ((∀ o, slot.next = some o → o.range ≠ r) → Unchanged [.waiting, .deferred, .ranges, .mapGen] s t) ∧
          Unchanged [.waiting, .deferred, .ranges, .mapGen, .slots, .lane] s t) ∧
    (mode = .all → old.lock = .locking → ∃ t, exec (.lockRange h acting r.val (some mode)) s = .next t ∧
      s.Replied 0x24 h.tag (.plain .wrongState) t ∧ Unchanged Part.replies s t)

/-- R15: UNLOCK_RANGE by an authority with the rights on a KEYED range with `lock_enabled`. A LOCKED range opens to READ_ONLY by READ and
to OPEN by BOTH, with the key its unwrap yields and an eager load into the lowest EMPTY slot, if there is one, and a failed unwrap gives
STORE_FAULT with no effect; WRITE on it is WRONG_STATE. READ_ONLY opens by WRITE or BOTH. Access is never narrowed: READ_ONLY under READ
and OPEN under any mode are answered OK and stay as they are. In LOCKING every mode is WRONG_STATE.
The model's own choices here: logs 9, 13, 29, 55. -/
def Obligations.UnlockRangeNeverNarrowsAccess : Prop :=
  ∀ (s : State) (h : Header) (acting : Nat) (r : RangeIx) (old : RangeEntry) (mode : UnlockMode),
    s.TakesUp (.unlockRange h acting r.val (some mode)) → s.model.bumped = false →
    s.defined r = true → s.showsTo acting (some r) = true → s.signedIn acting = true →
    s.mayLock acting (some r) = true → old = s.rmg.ranges.get r → old.flags.lockEnabled = true →
    old.keyState = .keyed →
    (∀ k lock, old.lock = .locked → s.unlockKey acting r = some k →
      (mode = .read ∧ lock = .readOnly) ∨ (mode = .both ∧ lock = .opened) →
      ∃ t, exec (.unlockRange h acting r.val (some mode)) s = .next t ∧
        t.rmg.ranges.get r = { old with lock := lock, slot := (t.rmg.ranges.get r).slot } ∧
        (∀ q, q ≠ r → t.rmg.ranges.get q = s.rmg.ranges.get q) ∧
        t.rmg.rangeKeys = s.rmg.rangeKeys.set r (some k) ∧ t.rmg.mapGen = nextMapGen s.rmg.mapGen ∧
        (old.slot = none → t.Loads [r] s.kln.slots s.kln.queue s.kln.lane) ∧
        (old.slot.isSome → (t.rmg.ranges.get r).slot = old.slot ∧ t.kln.slots = s.kln.slots ∧ Part.same s t .lane) ∧
        s.Replied 0x25 h.tag (okWith (.lockState lock)) t ∧
        Unchanged [.waiting, .outbound, .ranges, .rangeKeys, .mapGen, .slots, .lane] s t) ∧
    (old.lock = .locked → s.unlockKey acting r = none → mode ≠ .write →
      ∃ t, exec (.unlockRange h acting r.val (some mode)) s = .next t ∧
        s.Replied 0x25 h.tag (storeFault (.range r)) t ∧ Unchanged Part.replies s t) ∧
    ((old.lock = .locked ∧ mode = .write) ∨ old.lock = .locking →
      ∃ t, exec (.unlockRange h acting r.val (some mode)) s = .next t ∧
        s.Replied 0x25 h.tag (.plain .wrongState) t ∧ Unchanged Part.replies s t) ∧
    (old.lock = .readOnly → mode ≠ .read →
      ∃ t, exec (.unlockRange h acting r.val (some mode)) s = .next t ∧
        t.rmg.ranges = s.rmg.ranges.set r { old with lock := .opened } ∧ t.rmg.mapGen = nextMapGen s.rmg.mapGen ∧
        s.Replied 0x25 h.tag (okWith (.lockState .opened)) t ∧
        Unchanged [.waiting, .outbound, .ranges, .mapGen] s t) ∧
    ((old.lock = .readOnly ∧ mode = .read) ∨ old.lock = .opened →
      ∃ t, exec (.unlockRange h acting r.val (some mode)) s = .next t ∧
        s.Replied 0x25 h.tag (okWith (.lockState old.lock)) t ∧ Unchanged Part.replies s t)

/-- R20, R21, R48, R54: REKEY_RANGE by a signed-in admin gives the range a fresh key and the next key generation, and deletes its user
envelopes, with one increment of the map generation. The forced lock: without a slot LOCKED at once; with a slot without pins as R54 has
it: a LOADED slot, or a LOADING one whose LOAD is in flight, is cleared by a CLEAR at the tail of the lane queue, a CLEARING one by the
CLEAR under way, the range LOCKING meanwhile, and a LOAD still queued is taken away, which completes the lock; with a pinned slot LOCKED
at a purge, which raises a VOID notice with cause REKEY, empties every slot and completes the locks of LOCKING ranges. The range stays
shut where `lock_enabled` is true, and without it opens under CALM or WARY as its lock completes, with an eager load; no other range, key
or lock changes.
The model's own choices here: logs 9, 13, 20, 29, 30, 42. -/
def Obligations.RekeyRangeReplacesKeyAndEnvelopes : Prop :=
  ∀ (s : State) (h : Header) (acting : Nat) (r : RangeIx) (old : RangeEntry) (domain : Key),
    s.TakesUp (.rekeyRange h acting r.val) → s.model.bumped = false → s.adminActs acting = true → s.defined r = true →
    s.rmg.domainKey = some domain → s.rekeyDeferred (some r) = false → s.freeDeferred.isSome →
    old = s.rmg.ranges.get r →
    ∃ t new shut, exec (.rekeyRange h acting r.val) s = .next t ∧ new = t.rmg.ranges.get r ∧ new.keyState = .keyed ∧
      (shut = true ↔ old.flags.lockEnabled = true ∨ s.thm.level = .alarm) ∧
      new.generation = (old.generation + 1) % 65536 ∧
      new.domainWrap = some (wrapped domain (.drawn s.model.draws)) ∧
      new.deviceWrap = (if old.flags.lockEnabled then none else some (wrapped .device (.drawn s.model.draws))) ∧
      new.geometry = old.geometry ∧ new.flags = old.flags ∧
      (∀ p e, s.rmg.envelopes.get p = some e → e.target = .range r →
        t.rmg.envelopes.get p = none ∧ t.Marked (.envelope p)) ∧
      (∀ p, (∀ e, s.rmg.envelopes.get p = some e → e.target ≠ .range r) →
        t.rmg.envelopes.get p = s.rmg.envelopes.get p) ∧
      t.rmg.mapGen = nextMapGen s.rmg.mapGen ∧ s.Deferring 0x26 h.tag .rmg t ∧ t.Marked (.rangeKey r) ∧
      (old.slot = none →
        (shut = true → new.lock = .locked ∧ t.rmg.rangeKeys.get r = none ∧ new.slot = none ∧
          t.Loads [] s.kln.slots s.kln.queue s.kln.lane) ∧
        (shut = false → new.lock = .opened ∧ t.rmg.rangeKeys.get r = some (.drawn s.model.draws) ∧
          t.Loads [r] s.kln.slots s.kln.queue s.kln.lane) ∧
        (∀ q, q ≠ r → t.rmg.ranges.get q = s.rmg.ranges.get q ∧ t.rmg.rangeKeys.get q = s.rmg.rangeKeys.get q)) ∧
      (∀ i slot clear queue, old.slot = some i → slot = s.kln.slots.get i → slot.pins = 0 →
        clear = { op := .clear, slot := i, key := none } →
        queue = s.kln.queue.filter (fun f => !(f.op == .load && f.slot == i)) →
        (slot.state = .loaded ∨ (slot.state = .loading ∧ queue = s.kln.queue) → new.lock = .locking ∧
          new.slot = some i ∧ t.kln.slots = s.kln.slots.set i { slot with state := .clearing } ∧
          (s.kln.lane = .idle → t.LaneRuns (s.kln.queue ++ [clear])) ∧
          (s.kln.lane ≠ .idle → t.kln.lane = s.kln.lane ∧ t.kln.queue = s.kln.queue ++ [clear])) ∧
        (slot.state = .clearing → new.lock = .locking ∧ new.slot = some i ∧
          (∀ o, slot.next = some o → o.range = r → t.kln.slots = s.kln.slots.set i { slot with next := none } ∧
            (s.kln.lane = .idle → t.LaneRuns queue) ∧
            (s.kln.lane ≠ .idle → t.kln.lane = s.kln.lane ∧ t.kln.queue = queue)) ∧
          ((∀ o, slot.next = some o → o.range ≠ r) → t.kln.slots = s.kln.slots ∧ Part.same s t .lane)) ∧
        (slot.state = .loading → queue ≠ s.kln.queue → s.SlotsDistinct →
          (shut = true → new.lock = .locked ∧ t.rmg.rangeKeys.get r = none ∧ new.slot = none ∧
            t.Loads [] (s.kln.slots.set i slot.emptied) queue s.kln.lane) ∧
          (shut = false → new.lock = .opened ∧ t.rmg.rangeKeys.get r = some (.drawn s.model.draws) ∧
            t.Loads [r] (s.kln.slots.set i slot.emptied) queue s.kln.lane)) ∧
        (slot.state = .loaded ∨ slot.state = .clearing ∨ (slot.state = .loading ∧ queue = s.kln.queue) →
          t.rmg.rangeKeys = s.rmg.rangeKeys) ∧
        (slot.state = .loaded ∨ slot.state = .clearing ∨ slot.state = .loading → s.SlotsDistinct →
          ∀ q, q ≠ r → t.rmg.ranges.get q = s.rmg.ranges.get q ∧ t.rmg.rangeKeys.get q = s.rmg.rangeKeys.get q)) ∧
      (∀ i, old.slot = some i → 1 ≤ (s.kln.slots.get i).pins → s.LockingStayLocked →
        t.kln.lane = .idle ∧ t.Notified (.void t.rmg.mapGen .rekey) ∧
        (shut = true → new.lock = .locked ∧ t.rmg.rangeKeys.get r = none ∧ t.Purged) ∧
        (shut = false → new.lock = .opened ∧ t.rmg.rangeKeys.get r = some (.drawn s.model.draws) ∧
          t.srv.verdicts = [] ∧ t.kln.badRun = 0 ∧ t.kln.purgePulse = true ∧
          t.Loads [r] (s.kln.slots.imap fun _ l => l.emptied) [] .idle) ∧
        (∀ q, q ≠ r → t.rmg.ranges.get q =
          { s.rmg.ranges.get q with
            slot := none, lock := if (s.rmg.ranges.get q).lock = .locking then .locked else (s.rmg.ranges.get q).lock } ∧
          t.rmg.rangeKeys.get q =
            if (s.rmg.ranges.get q).lock = .locking then none else s.rmg.rangeKeys.get q)) ∧
      t.model.draws = s.model.draws + 1 ∧ s.OthersStand Purpose.purged t ∧
      (∀ i, old.slot = some i → 1 ≤ (s.kln.slots.get i).pins →
        ∀ d, d ∈ t.tmb.deadlines ∨ d ∈ t.tmb.fallen → d.purpose.purged = false) ∧
      ((∀ i, old.slot = some i → (s.kln.slots.get i).pins = 0) →
        Unchanged [.waiting, .outbound, .deferred, .ranges, .rangeKeys, .envelopes, .grants, .mapGen, .slots, .lane,
          .operation, .dirty, .faulty, .draws] s t) ∧
      Unchanged [.waiting, .outbound, .pendingSet, .deferred, .period, .ranges, .rangeKeys, .envelopes, .grants, .mapGen,
        .verdicts, .slots, .badRun, .purgePulse, .lane, .deadlines, .fallen, .operation, .dirty, .faulty, .draws] s t

/-- R8, R24: a request that names a concealed range from an acting authority other than a signed-in ADMIN or RESCUE is answered exactly
as one that names an undefined index is: BAD_ARG, with no effect.
The model's own choices here: logs 13, 47. -/
def Obligations.ConcealedRangeAnswersAsUndefined : Prop :=
  ∀ (c : Instr) (s : State) (kind : Byte) (h : Header) (acting : Nat) (r : RangeIx),
    requestOf c = some (kind, h) → namedRange c = some (acting, r.val) → s.TakesUp c →
    (s.defined r = false ∨ (s.concealed r = true ∧ s.adminActs acting = false)) →
    ∃ t, exec c s = .next t ∧ s.Replied kind h.tag (.plain .badArg) t ∧ Unchanged Part.replies s t

/-- R8, R15, R17, R86, R88, R90, R114, R160, R162, R163: a request whose acting authority is not signed in, or lacks the rights its rule
asks, is answered DENIED, and a guarded request of one that has them, while the guard does not pass, GUARDED, either with no effect. Of
the requests that name a range the index and its concealment are judged first.
The model's own choices here: logs 4, 13. -/
def Obligations.UnauthorisedRequestsAreDenied : Prop :=
  ∀ (c : Instr) (s : State), s.TakesUp c →
    (∀ acting r, namedRange c = some (acting, r.val) → s.defined r = true → (r = 0 → mayNameZero c = true) →
      s.showsTo acting (some r) = true →
      (s.signedIn acting = false → s.Refuses c .denied) ∧
      (mayUserAct c = true → s.mayLock acting (some r) = false → s.Refuses c .denied) ∧
      (mayUserAct c = false → namesAdmin acting = false → s.Refuses c .denied) ∧
      (isGuarded c = true → s.adminActs acting = true → s.guardPasses c.strap = false → s.Refuses c .guarded)) ∧
    (∀ acting, actingAdmin c = some acting →
      (s.adminActs acting = false → s.Refuses c .denied) ∧
      (isGuarded c = true → s.adminActs acting = true → s.guardPasses c.strap = false → s.Refuses c .guarded)) ∧
    ∀ acting, actingAdminItself c = some acting →
      (acting ≠ 0 ∨ s.signedIn acting = false → s.Refuses c .denied) ∧
      (isGuarded c = true → acting = 0 → s.signedIn acting = true → s.guardPasses c.strap = false →
        s.Refuses c .guarded)

/-- R78: AUTHENTICATE outside PROVISIONED is WRONG_STATE; a USER's under ALARM is DENIED; a disabled authority's is DISABLED, a signed-in
one's WRONG_STATE; with a secret set and the part not paired any but RESCUE's is NOT_PAIRED; and with the engine taken or no deferred-reply
entry free it is BUSY: each with no charge and no other effect.
R8, R22, R74, R86: a request that its own checks pass is answered NO_ROOM where the envelope or the range table is full, and BUSY where
the derivation engine or every deferred-reply entry is taken, with no effect.
The model's own choices here: logs 4, 13, 20, 50. -/
def Obligations.RefusalsShortOfAcceptanceHaveNoEffect : Prop :=
  (∀ (s : State) (h : Header) (a : AuthIx) (credential : List Byte) (c : Instr), c = .authenticate h a.val credential →
    s.TakesUp c → credentialFits credential = true →
    (s.aut.lifecycle ≠ .provisioned → s.Refuses c .wrongState) ∧
    (s.aut.lifecycle = .provisioned →
      (s.thm.level = .alarm → isUser a = true → s.Refuses c .denied) ∧
      ((s.thm.level = .alarm → isAdmin a = true) →
        ((s.aut.auth.get a).kept.enabled = false → s.Refuses c .disabled) ∧
        ((s.aut.auth.get a).kept.enabled = true →
          ((s.aut.auth.get a).signedIn = true → s.Refuses c .wrongState) ∧
          ((s.aut.auth.get a).signedIn = false →
            (s.aut.secret.isSome → s.aut.paired = false → a ≠ 7 → s.Refuses c .notPaired) ∧
            (s.aut.secret = none ∨ s.aut.paired = true ∨ a = 7 →
              (∀ due, s.deadline (.backoff a) = some due → due ≤ s.tmb.uptime) →
              s.aut.engine ≠ .idle ∨ s.freeDeferred = none → s.Refuses c .busy)))))) ∧
  (∀ (s : State) (h : Header) (acting : Nat) (u : AuthIx) (r : RangeIx) (c : Instr), s.TakesUp c →
    s.adminActs acting = true →
    (c = .grant h acting u.val r.val → r ≠ 0 → s.defined r = true → isUser u = true →
      (s.rmg.ranges.get r).keyState = .keyed → (s.rmg.keks.get u).isSome → s.envelopeAt u (.range r) = none →
      (s.emptyPosition = none → s.Refuses c .noRoom) ∧
      (s.emptyPosition.isSome → s.freeDeferred = none → s.Refuses c .busy)) ∧
    (c = .revoke h acting u.val r.val → r ≠ 0 → s.defined r = true → isUser u = true →
      (s.envelopeAt u (.range r)).isSome → s.freeDeferred = none → s.Refuses c .busy) ∧
    (∀ g flags, c = .defineRange h acting g flags → s.guardPasses h.strap = true → 1 ≤ g.length →
      g.start + g.length ≤ s.sto.identity.capacity → s.clearOf g none = true →
      (s.freeIndex = none → s.Refuses c .noRoom) ∧
      (s.freeIndex.isSome → s.freeDeferred = none → s.Refuses c .busy)) ∧
    (∀ flags, c = .modifyRange h acting r.val flags none → s.guardPasses h.strap = true → s.defined r = true →
      (r = 0 → flags.conceal = false ∧ flags.concealOnWary = false) → s.freeDeferred = none → s.Refuses c .busy) ∧
    (∀ flags g, c = .modifyRange h acting r.val flags (some g) ∨ c = .modifyRangeGeometry h acting r.val g →
      s.guardPasses h.strap = true → r ≠ 0 → s.defined r = true → (s.rmg.ranges.get r).lock = .locked →
      1 ≤ g.length → g.start + g.length ≤ s.sto.identity.capacity → s.clearOf g (some r) = true →
      s.freeDeferred = none → s.Refuses c .busy) ∧
    (c = .deleteRange h acting r.val → s.guardPasses h.strap = true → r ≠ 0 → s.defined r = true →
      (s.rmg.ranges.get r).lock = .locked → s.freeDeferred = none → s.Refuses c .busy) ∧
    (c = .rekeyRange h acting r.val → s.defined r = true → s.rekeyDeferred (some r) = true ∨ s.freeDeferred = none →
      s.Refuses c .busy)) ∧
  (∀ (s : State) (h : Header) (acting : Nat) (u : AuthIx) (c : Instr), s.TakesUp c →
    (∀ admin rescue adminSet rescueSet, c = .provision h admin rescue adminSet rescueSet →
      s.aut.lifecycle ≠ .provisioned → credentialFits admin = true → rescue.all credentialFits = true →
      (rescue = none → rescueSet = []) → indexSet 0 16 adminSet = true → indexSet 0 16 rescueSet = true →
      s.aut.engine ≠ .idle ∨ s.freeDeferred = none → s.Refuses c .busy) ∧
    (∀ credential grantSet startup, c = .setCredential h acting u.val credential grantSet startup →
      s.adminActs acting = true → isUser u = true → credentialFits credential = true → indexSet 1 15 grantSet = true →
      indexSet 0 16 startup = true → s.aut.engine ≠ .idle ∨ s.freeDeferred = none → s.Refuses c .busy) ∧
    (c = .disableAuthority h acting u.val → s.adminActs acting = true → u ≠ 0 → u.val ≠ acting →
      (s.aut.auth.get u).kept.enabled = true → s.freeDeferred = none → s.Refuses c .busy)) ∧
  ∀ (s : State) (h : Header) (c : Instr), s.TakesUp c → s.freeDeferred = none →
    (∀ acting secret token, c = .setPairing h acting secret token → s.adminActs acting = true →
      s.guardPasses h.strap = true → secret.all (fun l => l.length = 32) = true → token.all tokenFits = true →
      s.Refuses c .busy) ∧
    ((s.aut.auth.get 0).signedIn = true →
      (∀ items, c = .configure h 0 items → s.guardPasses h.strap = true → itemsFit items = true → s.Refuses c .busy) ∧
      (∀ mode, c = .setGuard h 0 (some mode) → s.guardPasses h.strap = true → mode ≠ s.sto.guard →
        s.Refuses c .busy) ∧
      ∀ k, c = .clearCapture h 0 (some k) → (s.thm.captures.get (kindIx k)).isSome → s.Refuses c .busy)

/-- R25: every block from V up to C lies in a concealed range, V below C is the start of one, and none ends just below V. -/
def Obligations.VisibleCapacityEndsBelowTheConcealedRun : Prop :=
  ∀ s : State, s.RangesSound →
    s.visibleCapacity ≤ s.sto.identity.capacity ∧
    (∀ p, s.visibleCapacity ≤ p → p < s.sto.identity.capacity → ∃ r g, s.concealed r = true ∧
      (s.rmg.ranges.get r).geometry = some g ∧ g.start ≤ p ∧ p < g.start + g.length) ∧
    (s.visibleCapacity < s.sto.identity.capacity → ∃ r g, s.concealed r = true ∧
      (s.rmg.ranges.get r).geometry = some g ∧ g.start = s.visibleCapacity) ∧
    ∀ r g, s.concealed r = true → (s.rmg.ranges.get r).geometry = some g → g.start + g.length ≠ s.visibleCapacity

/-! ## Spans and verdicts -/

/-- R32, over stages 1 and 2 (R30, R31): with C the capacity and E = S + N − 1, a span that ends beyond C−1 has one final BEYOND segment,
with no range index, its first LBA max(S, C), its count E − max(S, C) + 1, from 1 to 65,536; alone where S ≥ C, and after the segments of
the span's part below C otherwise; a span that ends below C has none. The runs of stages 1 to 3 are contiguous and cover the span exactly,
each inside one defined range, or in the global range, or wholly beyond the medium, and none joins the next. -/
def Obligations.SpanRunsCoverTheSpan : Prop :=
  ∀ (s : State) (start n capacity last : Nat), s.RangesSound → 1 ≤ n → capacity = s.sto.identity.capacity →
    last = start + n - 1 →
    (capacity ≤ last → ∃ below, s.pieces start n =
        below ++ [{ first := max start capacity, count := last - max start capacity + 1, range := none }] ∧
      (∀ p ∈ below, p.range ≠ none) ∧ (capacity ≤ start → below = []) ∧
      (start < capacity → below = s.pieces start (capacity - start))) ∧
    (last < capacity → ∀ p ∈ s.pieces start n, p.range ≠ none) ∧
    (n ≤ 65536 → ∀ p ∈ s.pieces start n, 1 ≤ p.count ∧ p.count ≤ 65536) ∧
    (∀ kind full v p, p.range = none → dispose kind full v p =
      { v with segments := v.segments ++ [{ first := p.first, count := p.count, range := none, disposition := .beyond }] }) ∧
    ((s.pieces start n).map Piece.count).sum = n ∧
    (∀ i p, (s.pieces start n)[i]? = some p →
      p.first = start + (((s.pieces start n).take i).map Piece.count).sum ∧ 1 ≤ p.count ∧
      (p.range = none ↔ capacity ≤ p.first) ∧
      (∀ r, p.range = some r → p.first + p.count ≤ capacity ∧
        (r ≠ 0 → ∃ g, (s.rmg.ranges.get r).geometry = some g ∧ g.start ≤ p.first ∧
          p.first + p.count ≤ g.start + g.length) ∧
        (r = 0 → ∀ q g, (s.rmg.ranges.get q).geometry = some g →
          g.start + g.length ≤ p.first ∨ p.first + p.count ≤ g.start))) ∧
    ∀ i p q, (s.pieces start n)[i]? = some p → (s.pieces start n)[i + 1]? = some q → p.range ≠ q.range

/-- R28 to R41: RESOLVE keeps the first 8 runs and resumes at the ninth. A run beyond the medium is BEYOND; one that R34's table refuses
takes that disposition. A run it permits is PASS where its range's slot is LOADED and the verdict table has room, and
WAIT(VERDICTS_FULL) where it has none, as long as no allocation of the same RESOLVE evicts that slot; WAIT(LOADING) where the slot is
not LOADED; and without a slot WAIT(LOADING) if one could be allocated, WAIT(SLOTS_PINNED) if not. A RESOLVE that
passes enters one verdict with a new id, its lifetime and its deadline, and adds one pin to each slot passed; one
that passes nothing has id 0 and leaves the verdict table. No lock, flag or key changes.
The model's own choices here: log 13. -/
def Obligations.ResolveIssuesVerdictsForPasses : Prop :=
  ∀ (s : State) (h : Header) (start countLessOne : Nat) (kind : Access),
    s.TakesUp (.resolve h start countLessOne (some kind)) → s.VerdictsSound →
    ∃ t id lifetime segs, exec (.resolve h start countLessOne (some kind)) s = .next t ∧
      s.Replied 0x30 h.tag (okWith (.resolved s.rmg.mapGen id lifetime
        (((s.pieces start (countLessOne + 1)).drop 8).head?.map Piece.first) segs)) t ∧
      segs.map (fun g => (g.first, g.count, g.range)) =
        ((s.pieces start (countLessOne + 1)).take 8).map (fun p => (p.first, p.count, p.range)) ∧
      (∀ g ∈ segs, g.range = none → g.disposition = .beyond) ∧
      (∀ g ∈ segs, ∀ r d, g.range = some r → s.tabled r kind = some d → g.disposition = d) ∧
      (∀ g ∈ segs, ∀ i, g.disposition = .pass i → ∃ r, g.range = some r ∧ s.tabled r kind = none ∧
        (s.rmg.ranges.get r).slot = some i ∧ (s.kln.slots.get i).state = .loaded ∧ s.srv.verdicts.length < 32) ∧
      (∀ k g r, segs[k]? = some g → g.range = some r → s.tabled r kind = none →
        (∀ i, (s.rmg.ranges.get r).slot = some i → (s.kln.slots.get i).state = .loaded →
          (1 ≤ (s.kln.slots.get i).pins ∨ ∀ e ∈ segs, ∀ q, e.range = some q → s.tabled q kind = none →
            (s.rmg.ranges.get q).slot.isSome) →
          g.disposition = if s.srv.verdicts.length < 32 then .pass i else .wait .verdictsFull) ∧
        (∀ i, (s.rmg.ranges.get r).slot = some i → (s.kln.slots.get i).state ≠ .loaded →
          g.disposition = .wait .loading) ∧
        ((s.rmg.ranges.get r).slot = none →
          (g.disposition = .wait .loading ∨ g.disposition = .wait .slotsPinned) ∧
          ((∀ e ∈ segs, ∀ q, e.range = some q → q ≠ r → s.tabled q kind = none → (s.rmg.ranges.get q).slot.isSome) →
            (g.disposition = .wait .loading ↔ ∃ i, (s.kln.slots.get i).state = .empty ∨
              ((s.kln.slots.get i).state = .loaded ∧ (s.kln.slots.get i).pins = 0 ∧
                i ∉ passedSlots (segs.take k)))))) ∧
      (segs.any Segment.passes = false → id = 0 ∧ lifetime = none ∧ t.srv = s.srv) ∧
      (segs.any Segment.passes = true → 1 ≤ id ∧ id ≤ 65535 ∧ id ∉ s.srv.verdicts.map Verdict.id ∧
        lifetime = some s.sto.policy.verdictLifetime ∧
        t.srv.verdicts = s.srv.verdicts ++ [{ id := id, issued := s.tmb.uptime
                                              expiry := s.tmb.uptime + s.sto.policy.verdictLifetime * 1024
                                              segments := segs }] ∧
        t.deadline (.verdict id) = some (s.tmb.uptime + s.sto.policy.verdictLifetime * 1024)) ∧
      (∀ i, i ∈ passedSlots segs → (t.kln.slots.get i).pins = (s.kln.slots.get i).pins + 1 ∧
        (t.kln.slots.get i).lastUse = s.tmb.uptime ∧ (t.kln.slots.get i).state = .loaded) ∧
      (∀ i, i ∉ passedSlots segs → (s.kln.slots.get i).state ≠ .empty →
        (t.kln.slots.get i).pins = (s.kln.slots.get i).pins) ∧
      (∀ r, { t.rmg.ranges.get r with slot := none } = { s.rmg.ranges.get r with slot := none }) ∧
      (segs.any Segment.passes = false → Unchanged [.waiting, .outbound, .ranges, .slots, .lane] s t) ∧
      s.OthersStand (· == .verdict id) t ∧
      Unchanged [.waiting, .outbound, .ranges, .verdicts, .slots, .lane, .deadlines, .fallen] s t

/-- R52, R53, R35: the slot that an allocation takes, for a RESOLVE whose one run lies in a permitted range without a slot. The lowest EMPTY
slot is LOADING at once for the range's key, its LOAD at the tail of the lane queue. With none EMPTY the LOADED slot without pins whose last
use is oldest, ties to the lowest number, is evicted: CLEARING with the range's key as next occupant, the old occupant's range left
without the slot, a CLEAR and then a LOAD at the tail of the queue; once the CLEAR is answered good the slot is LOADING for the next
occupant. With neither nothing changes.
The model's own choices here: logs 13, 29. -/
def Obligations.AllocationTakesTheSlotOfTheRules : Prop :=
  (∀ (s : State) (h : Header) (start countLessOne : Nat) (kind : Access) (p : Piece) (r : RangeIx) (o : Occupant),
    s.TakesUp (.resolve h start countLessOne (some kind)) → s.pieces start (countLessOne + 1) = [p] → p.range = some r →
    s.tabled r kind = none → (s.rmg.ranges.get r).slot = none →
    o = { range := r, generation := (s.rmg.ranges.get r).generation } →
    ((∃ i, (s.kln.slots.get i).state = .empty) → ∃ t, exec (.resolve h start countLessOne (some kind)) s = .next t ∧
      t.Loads [r] s.kln.slots s.kln.queue s.kln.lane ∧
      (∀ q, q ≠ r → t.rmg.ranges.get q = s.rmg.ranges.get q) ∧
      Unchanged [.waiting, .outbound, .ranges, .slots, .lane] s t) ∧
    (∀ i slot frames, (∀ j, (s.kln.slots.get j).state ≠ .empty) → slot = s.kln.slots.get i → slot.state = .loaded →
      slot.pins = 0 →
      (∀ j, (s.kln.slots.get j).state = .loaded → (s.kln.slots.get j).pins = 0 →
        slot.lastUse < (s.kln.slots.get j).lastUse ∨ (slot.lastUse = (s.kln.slots.get j).lastUse ∧ i ≤ j)) →
      frames = [{ op := .clear, slot := i, key := none }, { op := .load, slot := i, key := some o }] →
      ∃ t, exec (.resolve h start countLessOne (some kind)) s = .next t ∧
        t.kln.slots = s.kln.slots.set i { slot with state := .clearing, next := some o, lastUse := s.tmb.uptime } ∧
        t.rmg.ranges.get r = { s.rmg.ranges.get r with slot := some i } ∧
        (∀ q, q ≠ r → t.rmg.ranges.get q =
          if slot.occupant.map Occupant.range = some q ∧ (s.rmg.ranges.get q).slot = some i then
            { s.rmg.ranges.get q with slot := none }
          else s.rmg.ranges.get q) ∧
        (s.kln.lane = .idle → t.LaneRuns (s.kln.queue ++ frames)) ∧
        (s.kln.lane ≠ .idle → t.kln.lane = s.kln.lane ∧ t.kln.queue = s.kln.queue ++ frames) ∧
        Unchanged [.waiting, .outbound, .ranges, .slots, .lane] s t) ∧
    ((∀ j, (s.kln.slots.get j).state ≠ .empty ∧ ((s.kln.slots.get j).state = .loaded → 1 ≤ (s.kln.slots.get j).pins)) →
      ∃ t, exec (.resolve h start countLessOne (some kind)) s = .next t ∧ Unchanged Part.replies s t)) ∧
  ∀ (s : State) (f : LaneFrame) (o : Occupant), s.pwc.power ≠ .unpowered → s.kln.lane = .awaitAck f → f.op = .clear →
    (s.kln.slots.get f.slot).next = some o →
    ∃ t, exec (.clearAck true) s = .next t ∧ t.LaneRuns s.kln.queue ∧ t.kln.slots = s.kln.slots.set f.slot
      { s.kln.slots.get f.slot with state := .loading, occupant := some o, next := none }

/-- R42, R43, R45: RELEASE removes the verdicts it names, answering OK for each id the table holds as it is reached and STALE otherwise; a
verdict whose deadline falls due is removed likewise. With a verdict its deadline is gone. Each slot it passed loses one pin, and a
LOADED slot whose last pin falls while its range is LOCKING is cleared.
The model's own choices here: logs 13, 16. -/
def Obligations.VerdictsEndByReleaseAndExpiry : Prop :=
  (∀ (s : State) (h : Header) (ids : List Nat), s.TakesUp (.release h ids) → 1 ≤ ids.length → ids.length ≤ 16 →
    ∃ t results, exec (.release h ids) s = .next t ∧ s.Replied 0x31 h.tag (okWith (.released results)) t ∧
      results.length = ids.length ∧
      (∀ k id, ids[k]? = some id → results[k]? =
        some (decide (id ∈ s.srv.verdicts.map Verdict.id ∧ id ∉ ids.take k))) ∧
      t.srv.verdicts = s.srv.verdicts.filter (fun v => !(ids.contains v.id)) ∧ t.srv.lastId = s.srv.lastId ∧
      (∀ id ∈ ids, id ∈ s.srv.verdicts.map Verdict.id → t.deadline (.verdict id) = none ∧ t.Taken (.verdict id)) ∧
      s.OthersStand (fun p => ids.any fun id => p == .verdict id) t ∧
      (∀ freed : SlotIx → Nat, s.VerdictsSound → (∀ i, freed i =
          (s.srv.verdicts.filter fun v => ids.contains v.id).countP fun v => (passedSlots v.segments).contains i) →
        ((∀ r, (s.rmg.ranges.get r).lock ≠ .locking) →
          (∀ i, t.kln.slots.get i = { s.kln.slots.get i with pins := (s.kln.slots.get i).pins - freed i }) ∧
          Unchanged [.waiting, .outbound, .verdicts, .slots, .deadlines, .fallen] s t) ∧
        ∀ i o, (s.kln.slots.get i).occupant = some o → (s.rmg.ranges.get o.range).slot = some i →
          (s.kln.slots.get i).state = .loaded → (s.rmg.ranges.get o.range).lock = .locking → s.SlotsDistinct →
          (∀ j p, (s.kln.slots.get j).occupant = some p → p.range = o.range → j = i) →
          (t.kln.slots.get i).pins = (s.kln.slots.get i).pins - freed i ∧
          (1 ≤ freed i → (s.kln.slots.get i).pins ≤ freed i → (t.kln.slots.get i).state = .clearing) ∧
          (freed i = 0 ∨ freed i < (s.kln.slots.get i).pins → (t.kln.slots.get i).state = .loaded)) ∧
      Unchanged [.waiting, .outbound, .deferred, .ranges, .rangeKeys, .mapGen, .verdicts, .slots, .lane, .deadlines,
        .fallen, .faulty] s t) ∧
  ∀ (s : State) (id : Nat), s.pwc.power ≠ .unpowered → s.HasFallen (.verdict id) →
    ∃ t, exec (.verdictExpiry id) s = .next t ∧ t.Taken (.verdict id) ∧ s.OthersStand (· == .verdict id) t ∧
      t.srv.verdicts = s.srv.verdicts.filter (fun v => !(v.id == id)) ∧ t.srv.lastId = s.srv.lastId ∧
      (∀ v, s.srv.verdicts.find? (fun v => v.id == id) = some v → t.deadline (.verdict id) = none ∧
        ((∀ r, (s.rmg.ranges.get r).lock ≠ .locking) →
          (∀ i, t.kln.slots.get i =
            if i ∈ passedSlots v.segments then { s.kln.slots.get i with pins := (s.kln.slots.get i).pins - 1 }
            else s.kln.slots.get i) ∧
          Unchanged [.verdicts, .slots, .deadlines, .fallen] s t)) ∧
      (∀ v i o, s.srv.verdicts.find? (fun v => v.id == id) = some v → passedSlots v.segments = [i] →
        (s.kln.slots.get i).occupant = some o → (s.rmg.ranges.get o.range).slot = some i →
        (s.kln.slots.get i).state = .loaded → (s.rmg.ranges.get o.range).lock = .locking →
        ((s.kln.slots.get i).pins = 1 → (t.kln.slots.get i).state = .clearing) ∧
        (2 ≤ (s.kln.slots.get i).pins → (t.kln.slots.get i).state = .loaded)) ∧
      Unchanged [.deferred, .outbound, .ranges, .rangeKeys, .mapGen, .verdicts, .slots, .lane, .deadlines, .fallen,
        .faulty] s t

/-! ## The key lane -/

/-- R58 to R61: a frame's last bit sets the acknowledgement deadline at uptime + 4. A LOAD answered good makes its slot LOADED and ends the
bad-load run, and leaves a CLEARING one to its CLEAR; answered bad, short of the third, it makes the slot EMPTY and the run one longer,
and on a CLEARING slot takes the queued CLEAR away and completes the lock that waits on it. A CLEAR answered good
makes the slot LOADING for its next occupant, or EMPTY, completing the lock that waits on it. The lane then runs on.
R16, R19: a completed lock leaves the range LOCKED without a slot or a cached key and answers what waits on it; where `lock_enabled` is
false the range opens from its device wrap under CALM or WARY, with an eager load.
The model's own choices here: logs 29, 42. -/
def Obligations.LaneAnswersMoveTheirSlot : Prop :=
  (∀ (s : State) (f : LaneFrame), s.pwc.power ≠ .unpowered → s.kln.lane = .sending f →
    ∃ t, exec .laneFrameSent s = .next t ∧ t.kln.lane = .awaitAck f ∧ t.kln.queue = s.kln.queue ∧
      t.kln.ldo = s.kln.ldo ∧ t.deadline .laneAck = some (s.tmb.uptime + 4) ∧
      s.OthersStand (· == .laneAck) t ∧ Unchanged [.lane, .deadlines, .fallen] s t) ∧
  (∀ (s : State) (f : LaneFrame), s.pwc.power ≠ .unpowered → s.kln.lane = .awaitAck f → f.op = .load →
    (∃ t, exec (.loadAck true) s = .next t ∧ t.kln.badRun = 0 ∧ t.deadline .laneAck = none ∧ s.OthersStand (· == .laneAck) t ∧
      t.LaneRuns s.kln.queue ∧
      ((s.kln.slots.get f.slot).state = .loading →
        t.kln.slots = s.kln.slots.set f.slot { s.kln.slots.get f.slot with state := .loaded }) ∧
      ((s.kln.slots.get f.slot).state = .clearing → t.kln.slots = s.kln.slots) ∧
      Unchanged [.slots, .badRun, .lane, .deadlines, .fallen] s t) ∧
    ((s.kln.slots.get f.slot).state = .loading → s.kln.badRun ≤ 1 →
      ∃ t, exec (.loadAck false) s = .next t ∧ t.kln.badRun = s.kln.badRun + 1 ∧ t.deadline .laneAck = none ∧
        s.OthersStand (· == .laneAck) t ∧
        t.LaneRuns s.kln.queue ∧ t.kln.slots = s.kln.slots.set f.slot (s.kln.slots.get f.slot).emptied ∧
        (∀ r, t.rmg.ranges.get r = if (s.rmg.ranges.get r).slot = some f.slot then
          { s.rmg.ranges.get r with slot := none } else s.rmg.ranges.get r) ∧
        Unchanged [.ranges, .slots, .badRun, .lane, .deadlines, .fallen] s t) ∧
    ∀ r, (s.kln.slots.get f.slot).state = .clearing → s.kln.badRun ≤ 1 → (s.rmg.ranges.get r).slot = some f.slot →
      (∀ q, (s.rmg.ranges.get q).slot = some f.slot → q = r) → s.model.bumped = false →
      ∃ t, exec (.loadAck false) s = .next t ∧ t.kln.badRun = s.kln.badRun + 1 ∧ t.deadline .laneAck = none ∧
        s.OthersStand (· == .laneAck) t ∧
        (∀ slots queue, slots = s.kln.slots.set f.slot (s.kln.slots.get f.slot).emptied →
          queue = s.kln.queue.filter (fun g => !(g.op == .clear && g.slot == f.slot)) →
          ((s.rmg.ranges.get r).lock ≠ .locking ∨ (s.rmg.ranges.get r).flags.lockEnabled = true →
            t.kln.slots = slots ∧ t.LaneRuns queue) ∧
          ((s.rmg.ranges.get r).lock = .locking → (s.rmg.ranges.get r).flags.lockEnabled = false →
            s.LockOpens r slots queue t ∧ t.rmg.mapGen = nextMapGen s.rmg.mapGen ∧ s.LockTold r t ∧
            Unchanged [.outbound, .deferred, .ranges, .rangeKeys, .mapGen, .slots, .badRun, .lane, .deadlines, .fallen,
              .faulty] s t)) ∧
        ((s.rmg.ranges.get r).lock ≠ .locking →
          t.rmg.ranges = s.rmg.ranges.set r { s.rmg.ranges.get r with slot := none } ∧
          Unchanged [.ranges, .slots, .badRun, .lane, .deadlines, .fallen] s t) ∧
        ((s.rmg.ranges.get r).lock = .locking → (s.rmg.ranges.get r).flags.lockEnabled = true →
          t.rmg.ranges = s.rmg.ranges.set r { s.rmg.ranges.get r with lock := .locked, slot := none } ∧
          t.rmg.rangeKeys = s.rmg.rangeKeys.set r none ∧ t.rmg.mapGen = nextMapGen s.rmg.mapGen ∧
          s.LockTold r t ∧
          Unchanged [.outbound, .deferred, .ranges, .rangeKeys, .mapGen, .slots, .badRun, .lane, .deadlines,
            .fallen] s t)) ∧
  ∀ (s : State) (f : LaneFrame), s.pwc.power ≠ .unpowered → s.kln.lane = .awaitAck f → f.op = .clear →
    (∀ o, (s.kln.slots.get f.slot).next = some o → ∃ t, exec (.clearAck true) s = .next t ∧
      t.deadline .laneAck = none ∧ s.OthersStand (· == .laneAck) t ∧ t.LaneRuns s.kln.queue ∧
      t.kln.slots = s.kln.slots.set f.slot
        { s.kln.slots.get f.slot with state := .loading, occupant := some o, next := none } ∧
      Unchanged [.slots, .lane, .deadlines, .fallen] s t) ∧
    ((s.kln.slots.get f.slot).next = none →
      (∀ r, (s.rmg.ranges.get r).slot = some f.slot → (s.rmg.ranges.get r).lock ≠ .locking) →
      ∃ t, exec (.clearAck true) s = .next t ∧ t.deadline .laneAck = none ∧ s.OthersStand (· == .laneAck) t ∧ t.LaneRuns s.kln.queue ∧
        t.kln.slots = s.kln.slots.set f.slot (s.kln.slots.get f.slot).emptied ∧
        Unchanged [.ranges, .slots, .lane, .deadlines, .fallen] s t) ∧
    ∀ r, (s.kln.slots.get f.slot).next = none → (s.rmg.ranges.get r).slot = some f.slot →
      (∀ q, (s.rmg.ranges.get q).slot = some f.slot → q = r) → (s.rmg.ranges.get r).lock = .locking →
      s.model.bumped = false →
      ((s.rmg.ranges.get r).flags.lockEnabled = true →
        ∃ t, exec (.clearAck true) s = .next t ∧ t.deadline .laneAck = none ∧ s.OthersStand (· == .laneAck) t ∧ t.LaneRuns s.kln.queue ∧
          t.kln.slots = s.kln.slots.set f.slot (s.kln.slots.get f.slot).emptied ∧
          t.rmg.ranges = s.rmg.ranges.set r { s.rmg.ranges.get r with lock := .locked, slot := none } ∧
          t.rmg.rangeKeys = s.rmg.rangeKeys.set r none ∧ t.rmg.mapGen = nextMapGen s.rmg.mapGen ∧
          s.LockTold r t ∧
          Unchanged [.outbound, .deferred, .ranges, .rangeKeys, .mapGen, .slots, .lane, .deadlines, .fallen] s t) ∧
      ((s.rmg.ranges.get r).flags.lockEnabled = false →
        ∃ t, exec (.clearAck true) s = .next t ∧ t.deadline .laneAck = none ∧ s.OthersStand (· == .laneAck) t ∧
          s.LockOpens r (s.kln.slots.set f.slot (s.kln.slots.get f.slot).emptied) s.kln.queue t ∧
          t.rmg.mapGen = nextMapGen s.rmg.mapGen ∧ s.LockTold r t ∧
          Unchanged [.outbound, .deferred, .ranges, .rangeKeys, .mapGen, .slots, .lane, .deadlines, .fallen, .faulty]
            s t)

/-- R62 to R64, R48: a third LOAD in a row answered bad, a CLEAR answered bad, an acknowledgement deadline that falls due and a sync error
each take the lane to FAULT with a purge in the same occurrence: every slot EMPTY, the verdict table empty, every
LOCKING range LOCKED without its key, other locks and keys standing, one increment of the map generation, and a VOID
notice with the fault.
The model's own choices here: logs 16, 18, 30. -/
def Obligations.LaneFaultsPurge : Prop :=
  ∀ (c : Instr) (s : State) (f : LaneFrame) (fault : LaneFault), s.pwc.power ≠ .unpowered → s.model.bumped = false →
    s.LockingStayLocked →
    ((c = .loadAck false ∧ s.kln.lane = .awaitAck f ∧ f.op = .load ∧ 2 ≤ s.kln.badRun ∧ fault = .loadBad) ∨
      (c = .clearAck false ∧ s.kln.lane = .awaitAck f ∧ f.op = .clear ∧ fault = .clearBad) ∨
      (c = .ackTimeout ∧ s.kln.lane = .awaitAck f ∧ s.HasFallen .laneAck ∧ fault = .ackTimeout) ∨
      (c = .syncError ∧ (s.kln.lane = .sending f ∨ s.kln.lane = .awaitAck f) ∧ fault = .syncError)) →
    ∃ t, exec c s = .next t ∧ t.kln.lane = .fault ∧ t.Purged ∧ t.deadline .laneAck = none ∧ t.Taken .laneAck ∧
      s.OthersStand Purpose.purged t ∧ t.rmg.mapGen = nextMapGen s.rmg.mapGen ∧
      (s.pwc.power = .active → t.Notified (.void t.rmg.mapGen (.laneFault fault))) ∧
      (∀ r, if (s.rmg.ranges.get r).lock = .locking then
          (t.rmg.ranges.get r).lock = .locked ∧ t.rmg.rangeKeys.get r = none
        else (t.rmg.ranges.get r).lock = (s.rmg.ranges.get r).lock ∧ t.rmg.rangeKeys.get r = s.rmg.rangeKeys.get r) ∧
      Unchanged [.outbound, .pendingSet, .period, .deferred, .ranges, .rangeKeys, .mapGen, .verdicts, .slots, .badRun,
        .purgePulse, .lane, .deadlines, .fallen] s t

/-- R63, R64, R66, R67: the end of the purge pulse brings FAULT to IDLE and the lane runs on. A rise of HALT in ACTIVE purges under PURGE,
and under IGNORE outside UNPROVISIONED; holds the lane under FINISH; and otherwise leaves the lane; in every case the
trigger HALT is raised. The fall ends the hold.
The model's own choices here: logs 16, 29, 30. -/
def Obligations.PulseAndHaltGovernTheLane : Prop :=
  (∀ s : State, s.pwc.power ≠ .unpowered → s.kln.purgePulse = true → s.kln.lane = .fault ∨ s.kln.lane = .idle →
    ∃ t, exec .purgePulseEnd s = .next t ∧ t.kln.purgePulse = false ∧ t.LaneRuns s.kln.queue ∧
      Unchanged [.purgePulse, .lane] s t) ∧
  (∀ s : State, s.pwc.power = .active → s.pwc.stage = .done → s.pins.halt = false → s.model.bumped = false →
    s.LockingStayLocked →
    ∃ t, exec .haltRise s = .next t ∧ t.pins = { s.pins with halt := true } ∧
      t.thm.raised = s.thm.raised ++ [.halt] ∧ s.OthersStand Purpose.purged t ∧
      (s.sto.policy.haltPolicy = .purge ∨ (s.sto.policy.haltPolicy = .ignore ∧ s.aut.lifecycle ≠ .unprovisioned) →
        t.Purged ∧ t.kln.lane = .idle ∧ t.rmg.mapGen = nextMapGen s.rmg.mapGen ∧
          t.Notified (.void t.rmg.mapGen .halt)) ∧
      (s.sto.policy.haltPolicy = .finish → t.kln.hold = true ∧ Unchanged [.hold, .raised, .pins] s t) ∧
      (s.sto.policy.haltPolicy = .ignore → s.aut.lifecycle = .unprovisioned → Unchanged [.raised, .pins] s t) ∧
      Unchanged [.outbound, .pendingSet, .period, .deferred, .ranges, .rangeKeys, .mapGen, .verdicts, .slots, .badRun,
        .hold, .purgePulse, .lane, .deadlines, .fallen, .raised, .pins] s t) ∧
  ∀ s : State, s.pwc.power ≠ .unpowered → s.pins.halt = true →
    ∃ t, exec .haltFall s = .next t ∧ t.pins = { s.pins with halt := false } ∧ t.kln.hold = false ∧
      Unchanged [.hold, .pins] s t

/-! ## Threat levels and the wipe -/

/-- R98, R100, R101, R114, R118, R119: CLEAR_CAPTURE by a signed-in ADMIN clears one record; a run of 16 settles its debouncer and, to
OPEN, raises its trigger; the absence check past its limit disarms and raises ABSENCE, and short of it waits for the next second; WIPE by
a signed-in ADMIN or by the token is answered ACCEPTED and raises REMOTE.
The model's own choices here: logs 10, 13, 16, 45. -/
def Obligations.ThreatSourcesRaiseTheirTriggers : Prop :=
  (∀ (s : State) (h : Header) (k : TriggerKind), s.TakesUp (.clearCapture h 0 (some k)) → (s.aut.auth.get 0).signedIn = true →
    ((s.thm.captures.get (kindIx k)).isSome → s.freeDeferred.isSome →
      ∃ t, exec (.clearCapture h 0 (some k)) s = .next t ∧ t.thm.captures = s.thm.captures.set (kindIx k) none ∧
        s.Deferring 0x35 h.tag .thm t ∧ s.KeepsWorking t ∧ t.Marked (.capture (kindIx k)) ∧
        Unchanged [.waiting, .deferred, .captures, .operation, .dirty] s t) ∧
    (s.thm.captures.get (kindIx k) = none → ∃ t, exec (.clearCapture h 0 (some k)) s = .next t ∧
      s.Replied 0x35 h.tag (okWith .empty) t ∧ Unchanged Part.replies s t)) ∧
  (∀ (s : State) (line : Line), s.pwc.power ≠ .unpowered → s.pwc.stage = .done → (s.thm.debouncer line).run = 16 →
    ∃ t, exec (.debouncerSettle line) s = .next t ∧ (t.thm.debouncer line).run = 0 ∧
      (t.thm.debouncer line).settled = (if (s.thm.debouncer line).runOpen then .opened else .closed) ∧
      (∀ other, other ≠ line → t.thm.debouncer other = s.thm.debouncer other) ∧
      t.thm.raised = s.thm.raised ++ (if (s.thm.debouncer line).runOpen then [lineTrigger line] else []) ∧
      Unchanged [.debouncers, .raised] s t) ∧
  (∀ s : State, s.pwc.power ≠ .unpowered → s.pwc.stage = .done → s.HasFallen .absence → s.aut.lifecycle = .provisioned →
    s.sto.policy.absenceLimit ≠ 0 → s.thm.armed = true →
    ∃ t, exec .absenceCheck s = .next t ∧ t.Taken .absence ∧
      (s.sto.policy.absenceLimit ≤ s.pscNow - s.aut.lastSignIn → t.thm.armed = false ∧ t.deadline .absence = none ∧
        t.thm.raised = s.thm.raised ++ [.absence]) ∧
      (s.pscNow - s.aut.lastSignIn < s.sto.policy.absenceLimit → s.deadline .absence = none → t.thm.armed = true ∧
        t.deadline .absence = some (min (s.pscNow + 1) 4294967295) ∧ t.thm.raised = s.thm.raised) ∧
      Unchanged [.armed, .raised] s t) ∧
  ∀ (s : State) (h : Header) (acting : Option Nat) (token : Option (List Byte)),
    s.TakesUp (.wipe h acting token) → s.aut.lifecycle = .provisioned → (acting.isSome ∨ token.isSome) → (∀ a, acting = some a →
    a < 8) →
    (∀ l, token = some l → tokenFits l = true) →
    (∀ byToken, (byToken = false ∧ acting = some 0 ∧ (s.aut.auth.get 0).signedIn = true) ∨
        (byToken = true ∧ (acting = some 0 → (s.aut.auth.get 0).signedIn = false) ∧
          ∃ l, token = some l ∧ s.aut.token = some { token := l }) →
      ∃ t, exec (.wipe h acting token) s = .next t ∧
        s.Replied 0x38 h.tag { result := .accepted, body := .wipeAccepted byToken } t ∧
        t.thm.raised = s.thm.raised ++ [.remote] ∧ Unchanged [.waiting, .outbound, .raised] s t) ∧
    ((acting = some 0 → (s.aut.auth.get 0).signedIn = false) →
      (∀ l, token = some l → s.aut.token ≠ some { token := l }) →
      ∃ t, exec (.wipe h acting token) s = .next t ∧ s.Replied 0x38 h.tag (.plain .denied) t ∧
        Unchanged Part.replies s t)

/-- R97, R112, R96, R104: THM takes a trigger whatever the level: a first occurrence fills its capture record, a later one counts up to
255. The level rises to the response's where that ranks above it, straight to WIPING where ALARM comes with GRACE 0; otherwise the trigger
is captured and nothing more.
The model's own choices here: logs 43, 46. -/
def Obligations.TriggersAreCapturedAndRaiseTheLevel : Prop :=
  ∀ (s : State) (k : TriggerKind), s.pwc.power ≠ .unpowered → s.pwc.stage = .done →
    ∃ t, exec (.trigger k) s = .next t ∧ t.thm.raised = s.thm.raised.erase k ∧
      (∀ c, s.thm.captures.get (kindIx k) = some c →
        t.thm.captures = s.thm.captures.set (kindIx k) (some { c with count := min (c.count + 1) 255 })) ∧
      (s.thm.captures.get (kindIx k) = none →
        t.thm.captures = s.thm.captures.set (kindIx k) (some
          { psc := s.pscNow, tick := s.tmb.uptime % 1024, quality := s.tmb.quality, before := s.thm.level
            count := 1 }) ∧
        (s.pwc.power = .active → ∃ c, t.thm.captures.get (kindIx k) = some c ∧ t.Notified (.capture k c))) ∧
      t.Marked (.capture (kindIx k)) ∧
      (s.thm.level = .wiping ∨ (s.response k).rank ≤ s.thm.level.rank → t.thm.level = s.thm.level ∧
        Unchanged [.outbound, .pendingSet, .period, .captures, .raised, .reports, .operation, .dirty] s t) ∧
      (s.thm.level ≠ .wiping → s.thm.level.rank < (s.response k).rank →
        t.thm.level = match s.response k with
          | .record => s.thm.level
          | .wary => .wary
          | .alarm => if s.sto.policy.grace = 0 then .wiping else .alarm
          | .wipe => .wiping)

/-- R103, R104, R108, R120, R105: what the entries do beside the level. WARY locks the ranges flagged for it and no other, and
clears their unpinned slots as R54 has it. ALARM locks every range, purges, empties the signed-in set, sets the grace, and aborts a USER's
AUTHENTICATE and any SET_CREDENTIAL with THREAT. WIPING, by a trigger or by the grace falling due, empties
the key cache too, ends every deadline of AUT and begins the wipe at bank K0. Each marks COUNTERS, increments the map
generation once and raises a THREAT notice.
The model's own choices here: logs 16, 29, 33, 42, 43, 49. -/
def Obligations.LevelEntriesTakeTheirEffects : Prop :=
  ∀ s : State, s.pwc.power ≠ .unpowered → s.pwc.stage = .done → s.model.bumped = false →
    (∀ k, s.response k = .wary → s.thm.level = .calm → s.SlotsDistinct →
      ∃ t, exec (.trigger k) s = .next t ∧ t.thm.level = .wary ∧ t.Marked .counters ∧
        t.rmg.mapGen = nextMapGen s.rmg.mapGen ∧
        (s.pwc.power = .active → t.Notified (.threat .wary .calm (.trigger k) none none t.rmg.mapGen)) ∧
        (∀ r e, e = s.rmg.ranges.get r →
          if s.defined r = true ∧ e.flags.lockEnabled = true ∧ e.flags.concealOnWary = true ∧
              (e.lock = .opened ∨ e.lock = .readOnly) then
            (t.rmg.ranges.get r).lock.readLocked = true ∧
            (e.slot = none → (t.rmg.ranges.get r).lock = .locked ∧ t.rmg.rangeKeys.get r = none) ∧
            (∀ i slot queued, e.slot = some i → slot = s.kln.slots.get i →
              queued = s.kln.queue.any (fun f => f.op == .load && f.slot == i) →
              (1 ≤ slot.pins → (t.rmg.ranges.get r).lock = .locking ∧
                t.rmg.rangeKeys.get r = s.rmg.rangeKeys.get r ∧ t.kln.slots.get i = slot) ∧
              (slot.pins = 0 → slot.state = .loaded ∨ (slot.state = .loading ∧ queued = false) →
                (t.rmg.ranges.get r).lock = .locking ∧ t.rmg.rangeKeys.get r = s.rmg.rangeKeys.get r ∧
                t.kln.slots.get i = { slot with state := .clearing }) ∧
              (slot.pins = 0 → slot.state = .clearing →
                (t.rmg.ranges.get r).lock = .locking ∧ t.rmg.rangeKeys.get r = s.rmg.rangeKeys.get r ∧
                t.kln.slots.get i = { slot with next := slot.next.filter fun o => o.range != r }) ∧
              (slot.pins = 0 → slot.state = .loading → queued = true →
                (t.rmg.ranges.get r).lock = .locked ∧ (t.rmg.ranges.get r).slot = none ∧
                t.rmg.rangeKeys.get r = none ∧ t.kln.slots.get i = slot.emptied))
          else t.rmg.ranges.get r = e ∧ t.rmg.rangeKeys.get r = s.rmg.rangeKeys.get r) ∧
        (∀ i, (∀ r, s.wary r = true → (s.rmg.ranges.get r).slot ≠ some i) → t.kln.slots.get i = s.kln.slots.get i) ∧
        (∀ free dropped cleared : List SlotIx, ∀ queue,
          free = (List.finRange 16).filterMap (fun r => if s.wary r then
            (s.rmg.ranges.get r).slot.filter fun i => (s.kln.slots.get i).pins == 0 else none) →
          dropped = free.filter (fun i => (s.kln.slots.get i).state == .loading || (s.kln.slots.get i).next.any fun o =>
            s.wary o.range && (s.rmg.ranges.get o.range).slot == some i) →
          cleared = free.filter (fun i => (s.kln.slots.get i).state == .loaded ||
            ((s.kln.slots.get i).state == .loading && !(s.kln.queue.any fun f => f.op == .load && f.slot == i))) →
          queue = s.kln.queue.filter (fun f => !(f.op == .load && dropped.contains f.slot)) ++
            cleared.map (fun i => { op := .clear, slot := i, key := none }) →
          (∀ i, (s.kln.slots.get i).next.isSome → (s.kln.slots.get i).state = .clearing) →
          (s.kln.lane = .idle → t.LaneRuns queue) ∧
          (s.kln.lane ≠ .idle → t.kln.lane = s.kln.lane ∧ t.kln.queue = queue)) ∧
        Unchanged [.outbound, .pendingSet, .period, .deferred, .captures, .raised, .reports, .level, .ranges, .rangeKeys,
          .mapGen, .slots, .lane, .operation, .dirty] s t) ∧
    (∀ k, s.response k = .alarm → s.thm.level = .calm ∨ s.thm.level = .wary → s.sto.policy.grace ≠ 0 →
      ∃ t due, exec (.trigger k) s = .next t ∧ due = s.pscNow + s.sto.policy.grace ∧ t.thm.level = .alarm ∧
        t.thm.grace = some due ∧ t.deadline .grace = some due ∧
        (∀ r, (t.rmg.ranges.get r).lock = .locked ∧ t.rmg.rangeKeys.get r = none) ∧ t.Purged ∧ t.kln.lane = .idle ∧
        t.SignedOut ∧ (∀ a, (t.aut.auth.get a).kept = (s.aut.auth.get a).kept) ∧
        (∀ a credential, s.aut.engine.job = some (.authenticate a credential) → isUser a = true →
          t.aut.engine = .idle ∧
          t.deadline (.backoff a) = some (s.tmb.uptime + delay (s.aut.auth.get a).kept.failures * 1024) ∧
          ∀ i d, s.lnk.deferred.get i = some d → d.state = .working .engine → t.Finishes i d (.plain .threat)) ∧
        (∀ u credential salt factor grants startup,
          s.aut.engine.job = some (.setCredential u credential salt factor grants startup) → t.aut.engine = .idle ∧
          ∀ i d, s.lnk.deferred.get i = some d → d.state = .working .engine → t.Finishes i d (.plain .threat)) ∧
        ((∃ a credential, s.aut.engine.job = some (.authenticate a credential) ∧ isAdmin a = true) ∨
            (∃ p, s.aut.engine.job = some (.provision p)) ∨ s.aut.engine.job = none →
          t.aut.engine.plain = s.aut.engine.plain ∧
          s.OthersStand (fun p => p == .grace || p.purged) t) ∧
        s.OthersStand (fun p => p == .grace || p.purged || s.aut.engine.backoff == some p) t ∧
        (∀ i d r, s.lnk.deferred.get i = some d → d.state = .working (.lock r) → (s.rmg.ranges.get r).lock = .locking →
          t.Finishes i d lockedReply) ∧
        t.Marked .counters ∧ t.rmg.mapGen = nextMapGen s.rmg.mapGen ∧
        (s.pwc.power = .active → t.Notified (.void t.rmg.mapGen .alarm) ∧
          t.Notified (.threat .alarm s.thm.level (.trigger k) none (some (due, s.pscNow)) t.rmg.mapGen)) ∧
        Unchanged [.outbound, .pendingSet, .period, .deferred, .captures, .raised, .reports, .level, .grace, .ranges,
          .domainKey, .rangeKeys, .keks, .mapGen, .verdicts, .slots, .badRun, .purgePulse, .lane, .authorities, .engine,
          .deadlines, .fallen, .operation, .dirty] s t) ∧
    ∀ c cause, (∃ k, c = .trigger k ∧ s.response k = .wipe ∧ s.thm.level ≠ .wiping ∧ cause = .trigger k) ∨
        (c = .graceExpiry ∧ s.thm.level = .alarm ∧ s.HasFallen .grace ∧ cause = .grace) →
      ∃ t, exec c s = .next t ∧ t.thm.level = .wiping ∧ t.wpc.step = .entry ∧ t.wpc.phase = .erasing ∧
        t.wpc.next = some .k0 ∧ t.wpc.resumed = false ∧ t.thm.grace = none ∧ t.deadline .grace = none ∧
        (∀ r, (t.rmg.ranges.get r).lock = .locked ∧ t.rmg.rangeKeys.get r = none) ∧ t.Purged ∧ t.kln.lane = .idle ∧
        t.SignedOut ∧ (∀ a, (t.aut.auth.get a).kept = (s.aut.auth.get a).kept ∧ t.deadline (.backoff a) = none) ∧
        t.deadline .pairing = none ∧ t.aut.engine = .idle ∧ t.aut.nonce = none ∧ t.aut.secret = s.aut.secret ∧
        t.aut.token = s.aut.token ∧ t.aut.paired = s.aut.paired ∧
        (∀ i d, s.lnk.deferred.get i = some d →
          d.state = .working .engine ∨ (∃ ws done fault, d.state = .working (.writes ws none done fault)) →
          t.Finishes i d (.plain .wiping)) ∧
        (∀ i d r, s.lnk.deferred.get i = some d → d.state = .working (.lock r) → (s.rmg.ranges.get r).lock = .locking →
          t.Finishes i d lockedReply) ∧
        s.OthersStand (fun p => p == .grace || p.purged || p.endedByWipe) t ∧
        t.Marked .counters ∧ t.rmg.mapGen = nextMapGen s.rmg.mapGen ∧
        (s.pwc.power = .active → t.Notified (.void t.rmg.mapGen .wiping) ∧
          t.Notified (.threat .wiping s.thm.level cause none none t.rmg.mapGen)) ∧
        Unchanged [.outbound, .pendingSet, .period, .deferred, .captures, .raised, .reports, .level, .grace, .ranges,
          .domainKey, .rangeKeys, .keks, .grants, .mapGen, .verdicts, .slots, .badRun, .purgePulse, .lane, .authorities,
          .engine, .pairing, .wipe, .deadlines, .fallen, .operation, .dirty] s t

/-- R121, R122, R124 to R127, R109: what the wipe does as a write that WPC waits on ends, good or failed twice. The entry write recorded,
the key records leave the dirty list and WPC asks for the erase of the recorded next bank, or in phase REWRITING for the first record of
phase 2; a progress write goes on likewise. Each phase-2 write asks for the next record in order, its group's image wiped at the group's
start; the last takes step CLOSING and marks COUNTERS. The final write ends the wipe: level CALM, lifecycle WIPED, G 0, WPC IDLE, one
increment of the map generation, a THREAT notice with cause WIPE_COMPLETE and a WIPE notice with phase COMPLETE. A failed write stops
nothing and is counted.
The model's own choices here: logs 17, 23. -/
def Obligations.WipeGoesOnAsItsWritesEnd : Prop :=
  ∀ (s : State) (w : RecContent) (good retry forWipe first : Bool), s.pwc.power = .active → s.pwc.stage = .done →
    s.aut.engine = .idle → s.rmg.grants = [] → s.sto.inFlight = some (.write w retry forWipe) →
    good = true ∨ retry = true →
    ((∃ k, w = .counters k) → forWipe = false → waitsOn .counters s.wpc.waits = true →
      s.wpc.step = .entry ∨ (∃ b, s.wpc.step = .erasing b) →
      ∃ t last, exec (.recordWrite good first) s = .next t ∧ last = (if s.wpc.step = .entry then .entry else .progress) ∧
        t.wpc.last = some last ∧ t.wpc.phase = s.wpc.phase ∧ t.wpc.next = s.wpc.next ∧
        (good = false → .counters ∈ t.wpc.failed ∧ .counters ∈ t.sto.faulty) ∧
        (s.wpc.step = .entry → (∀ e ∈ t.sto.dirty, e.record.isKey = false)) ∧
        (∀ e ∈ s.sto.dirty, e.record.isKey = false → t.Marked e.record) ∧
        (∀ b, s.wpc.phase = .erasing → s.wpc.next = some b → t.wpc.step = .erasing b ∧ t.Asked first (.erase b) ∧
          t.rmg.ranges = s.rmg.ranges ∧
          t.Notified (.wipe .erasing (some last) (some b) s.wpc.resumed t.wpc.failed.length)) ∧
        (s.wpc.phase = .rewriting → t.wpc.step = .rewriting 0 ∧ t.Asked first (.write (.rangeKey 0)) ∧
          (∀ r, t.rmg.ranges.get r =
            { s.rmg.ranges.get r with keyState := .erased, domainWrap := none, deviceWrap := none }) ∧
          t.Notified (.wipe .rewriting (some last) none s.wpc.resumed t.wpc.failed.length)) ∧
        Unchanged [.outbound, .pendingSet, .period, .deferred, .ranges, .wipe, .records, .operation, .dirty, .faulty]
          s t) ∧
    (∀ n, s.wpc.step = .rewriting n → forWipe = true →
      ∃ t, exec (.recordWrite good first) s = .next t ∧ (good = false → w.id ∈ t.wpc.failed ∧ w.id ∈ t.sto.faulty) ∧
        (∀ m : Fin 25, m.val = n.val + 1 → t.wpc.step = .rewriting m ∧ t.Asked first (.write (rewriteRecord m)) ∧
          t.aut.secret = (if m.val = 24 then none else s.aut.secret) ∧
          t.aut.token = (if m.val = 24 then none else s.aut.token) ∧
          ∀ a, t.aut.auth.get a = if m.val = 16 then
            { signedIn := (s.aut.auth.get a).signedIn
              kept := { AuthorityRec.factory with limit := (s.aut.auth.get a).kept.limit } }
            else s.aut.auth.get a) ∧
        (n.val = 24 → t.wpc.step = .closing ∧ t.Marked .counters ∧ t.thm.level = s.thm.level) ∧
        (∀ g, groupEnd n = some g →
          t.Notified (.wipe .rewriting (some (.group g)) none s.wpc.resumed t.wpc.failed.length)) ∧
        t.aut.paired = s.aut.paired ∧ t.aut.nonce = s.aut.nonce ∧
        Unchanged [.outbound, .pendingSet, .period, .deferred, .authorities, .pairing, .wipe, .records, .operation,
          .dirty, .faulty] s t) ∧
    ((∃ k, w = .counters k) → forWipe = false → waitsOn .counters s.wpc.waits = true → s.wpc.step = .closing →
      s.model.bumped = false →
      ∃ t, exec (.recordWrite good first) s = .next t ∧ t.thm.level = .calm ∧ t.aut.lifecycle = .wiped ∧
        t.aut.tryCount = 0 ∧ t.wpc.step = .idle ∧ t.wpc.phase = .none ∧ t.wpc.next = none ∧
        t.rmg.mapGen = nextMapGen s.rmg.mapGen ∧
        t.Notified (.threat .calm s.thm.level .wipeComplete none none t.rmg.mapGen) ∧
        t.Notified (.wipe .complete (some .final) none s.wpc.resumed t.wpc.failed.length) ∧
        (good = false → .counters ∈ t.wpc.failed ∧ .counters ∈ t.sto.faulty) ∧
        Unchanged [.outbound, .pendingSet, .period, .deferred, .mapGen, .lifecycle, .tryCount, .level, .reports, .wipe,
          .records, .operation, .dirty, .faulty] s t)

/-! ## The retained store -/

/-- R9, R154 to R157, R122, R123: a write that verifies good puts its content in its record, which leaves the faulty set, answers the
deferred replies that waited on nothing else, and the head of the dirty list is written next. A first verify failure repeats the
operation; a second leaves the record, or every record of the bank, invalid and faulty, raises a STORE notice, and answers STORE_FAULT. A
good erase blanks its bank. The wipe's erase, good or failed twice, changes the bank's image, K0's keeping the key generations and the
domain envelopes, moves the progress on and marks COUNTERS.
The model's own choices here: logs 5, 17, 23, 52. -/
def Obligations.StoreOperationsEndByTheirVerify : Prop :=
  (∀ (s : State) (c : RecContent) (retry forWipe first : Bool), s.pwc.power ≠ .unpowered →
    s.sto.inFlight = some (.write c retry forWipe) →
    (∃ t, exec (.recordWrite true first) s = .next t ∧ t.sto.records = s.sto.records.write c) ∧
    (retry = false → ∃ t, exec (.recordWrite false first) s = .next t ∧
      t.sto.inFlight = some (.write c true forWipe) ∧ t.sto.waitingWipe = s.sto.waitingWipe ∧
      Unchanged [.operation] s t) ∧
    (retry = true → ∃ t, exec (.recordWrite false first) s = .next t ∧ t.sto.records = s.sto.records.spoil c.id ∧
      c.id ∈ t.sto.faulty ∧
      (s.pwc.stage = .done → s.pwc.power = .active → ∃ n, t.Notified (.store (.write c.id) n)) ∧
      ∀ i d ws lock done fault, s.lnk.deferred.get i = some d → d.state = .working (.writes ws lock done fault) →
        waitsOn c.id ws = true → s.pwc.stage = .done → t.Finishes i d fault) ∧
    (forWipe = false → waitsOn c.id s.wpc.waits = false → waitsOn c.id s.rmg.grants = false → s.aut.engine = .idle →
      s.pwc.stage = .done →
      ∃ t, exec (.recordWrite true first) s = .next t ∧ c.id ∉ t.sto.faulty ∧
        (∀ i d ws done fault, s.lnk.deferred.get i = some d → d.state = .working (.writes ws none done fault) →
          ws ≠ [] → (∀ w ∈ ws, w.record = c.id ∧ w.started = true) → t.Finishes i d done) ∧
        (s.sto.waitingWipe = none → s.sto.dirty = [] → t.sto.inFlight = none) ∧
        (∀ e rest, s.sto.waitingWipe = none → s.sto.dirty = e :: rest →
          t.sto.inFlight = some (.write (s.content e.record) false false) ∧ t.sto.dirty = rest) ∧
        Unchanged [.outbound, .deferred, .records, .faulty, .operation, .dirty] s t)) ∧
  ∀ (s : State) (b : Bank) (retry first : Bool), s.pwc.power ≠ .unpowered → s.sto.inFlight = some (.erase b retry) →
    (retry = false → ∃ t, exec (.bankErase false first) s = .next t ∧ t.sto.inFlight = some (.erase b true) ∧
      t.sto.waitingWipe = s.sto.waitingWipe ∧ Unchanged [.operation] s t) ∧
    ∀ good, good = true ∨ retry = true → ∃ t, exec (.bankErase good first) s = .next t ∧
      (∀ r, t.sto.records.rangeKey.get r =
        if b = .k0 then (if good then .blank else .invalid) else s.sto.records.rangeKey.get r) ∧
      (∀ p, t.sto.records.envelope.get p =
        if b ≠ .k0 ∧ envelopeBank p = b then (if good then .blank else .invalid) else s.sto.records.envelope.get p) ∧
      t.sto.records = { s.sto.records with
        rangeKey := t.sto.records.rangeKey, envelope := t.sto.records.envelope } ∧
      (good = true → t.sto.faulty = s.sto.faulty ∧ t.sto.gained = s.sto.gained ∧ t.wpc.failed = s.wpc.failed) ∧
      (good = false → (∀ r, r ∈ t.sto.faulty ↔ r ∈ s.sto.faulty ∨ r ∈ b.records) ∧
        (∀ r, r ∈ t.wpc.failed ↔ r ∈ s.wpc.failed ∨ r ∈ b.records) ∧
        (s.pwc.power = .active → t.Notified (.store (.erase b) t.sto.faulty.length))) ∧
      (s.wpc.step = .erasing b → t.wpc.step = .erasing b ∧ t.wpc.last = some (.erased b) ∧ t.wpc.next = b.after ∧
        t.wpc.phase = (if b = .k3 then .rewriting else .erasing) ∧ t.Marked .counters ∧
        (s.pwc.power = .active → t.Notified
          (.wipe (if b = .k3 then .rewriting else .erasing) (some (.erased b)) b.after s.wpc.resumed
            t.wpc.failed.length)) ∧
        (b = .k0 → (∀ r, t.rmg.ranges.get r =
            { s.rmg.ranges.get r with keyState := .erased, domainWrap := none, deviceWrap := none }) ∧
          ∀ p, t.rmg.envelopes.get p = (s.rmg.envelopes.get p).filter fun e => e.target == .domain) ∧
        (b ≠ .k0 → t.rmg.ranges = s.rmg.ranges ∧
          ∀ p, t.rmg.envelopes.get p = if envelopeBank p = b then none else s.rmg.envelopes.get p)) ∧
      (s.wpc.step ≠ .erasing b → t.rmg.ranges = s.rmg.ranges ∧ t.rmg.envelopes = s.rmg.envelopes) ∧
      Unchanged [.outbound, .pendingSet, .period, .ranges, .envelopes, .wipe, .records, .operation, .dirty, .faulty] s t

/-! ## The time base -/

/-- R98, R135 to R138, R140, R144, R146, R147, R150: a tick boundary counts one tick, at a second boundary one powered second, hands each
deadline due to its owner, samples the lines, and counts the crystal's cycles up to 32,768. A debouncer's run grows while its line differs
from its settled state, begins anew where the line turns, and is 0 where they agree. The persistence deadline marks COUNTERS and is
entered again 64 seconds on; the calibration deadline opens the periodic window or has the retry await its edge; the watch raises CLOCK
where the quality is still UNCALIBRATED; the stimulation deadline drives a pulse on XO, whose end leaves the count at 0.
The model's own choices here: logs 4, 16, 36, 45. -/
def Obligations.DeadlinesFallDueAndAreTaken : Prop :=
  (∀ (s : State) (l : Lines), s.pwc.power ≠ .unpowered →
    ∃ t now, exec (.tickBoundary l) s = .next t ∧ now = s.tmb.uptime + 1 ∧ t.tmb.uptime = now ∧
      t.tmb.psc = (if now % 1024 = 0 then s.tmb.psc.map (fun p => min (p + 1) 4294967295) else s.tmb.psc) ∧
      (∀ d, d.purpose ≠ .absence →
        ((d ∈ t.tmb.deadlines ↔ d ∈ s.tmb.deadlines ∧
          ¬ (if d.purpose.inSeconds then now % 1024 = 0 ∧ ∃ p, t.tmb.psc = some p ∧ d.due ≤ p else d.due ≤ now)) ∧
        (d ∈ s.tmb.deadlines → d ∉ t.tmb.deadlines → { d with due := now } ∈ t.tmb.fallen) ∧
        (d ∈ t.tmb.fallen ↔ (d ∈ s.tmb.fallen ∧
            ∀ e ∈ s.tmb.deadlines, e.purpose = d.purpose → e ∈ t.tmb.deadlines) ∨
          (d.due = now ∧ ∃ e ∈ s.tmb.deadlines, e.purpose = d.purpose ∧ e ∉ t.tmb.deadlines)))) ∧
      t.tmb.source = s.tmb.source ∧ (s.tmb.source = .rc → t.tmb.divisorInUse = s.tmb.divisor) ∧
      (s.tmb.source = .crystal → t.tmb.divisorInUse = s.tmb.divisorInUse) ∧ t.tmb.divisor = s.tmb.divisor ∧
      t.tmb.cycles = 0 ∧ t.tmb.acceptedM = s.tmb.acceptedM ∧ t.tmb.measuredM = s.tmb.measuredM ∧
      t.tmb.window = s.tmb.window ∧ t.tmb.awaitEdge = s.tmb.awaitEdge ∧
      t.tmb.switchTo = s.tmb.switchTo.map (fun w => { w with boundary := true }) ∧
      (∀ n, s.tmb.supervisor = .confirming n → t.tmb.supervisor =
        .confirming (if s.tmb.xoPulse then n else min (n + l.xiCycles) 32768)) ∧
      ((∀ n, s.tmb.supervisor ≠ .confirming n) → t.tmb.supervisor = s.tmb.supervisor) ∧
      t.pins = { s.pins with bayOpen := l.bayOpen, caseOpen := l.caseOpen } ∧
      (s.pwc.stage = .done → ∀ line, (t.thm.debouncer line) =
        (s.thm.debouncer line).sample (match line with
          | .bay => l.bayOpen
          | .caseSw => l.caseOpen)) ∧
      Unchanged [.uptime, .psc, .tick, .supervisor, .calibration, .deadlines, .fallen, .debouncers, .pins] s t) ∧
  (∀ (d : Debouncer) (isOpen : Bool) (now : Settled), d.run ≠ 16 → now = (if isOpen then .opened else .closed) →
    d.sample isOpen = if d.settled = now then { d with run := 0 }
      else if d.run = 0 ∨ d.runOpen ≠ isOpen then { d with run := 1, runOpen := isOpen }
      else { d with run := d.run + 1 }) ∧ (∀ (d : Debouncer) (isOpen : Bool), d.run = 16 → d.sample isOpen = d) ∧
  (∀ s : State, s.pwc.power ≠ .unpowered → s.HasFallen .persistence →
    ∃ t, exec .pscPersistence s = .next t ∧ t.Taken .persistence ∧ s.OthersStand (· == .persistence) t ∧ t.Marked .counters ∧
      t.deadline .persistence = some (s.pscNow + 64) ∧ Unchanged [.deadlines, .fallen, .operation, .dirty] s t) ∧
  (∀ (s : State) (d : Deadline), s.pwc.power ≠ .unpowered →
    s.tmb.fallen.find? (fun e => e.purpose == .calibration) = some d →
    ∃ t, exec .calibrationDeadline s = .next t ∧ t.Taken .calibration ∧ s.OthersStand (· == .calibration) t ∧
      (s.tmb.supervisor = .inUse → t.tmb.window = some .periodic ∧
        t.deadline .calibration = some (d.due + 65536)) ∧
      (s.tmb.supervisor = .confirmed → t.tmb.awaitEdge = true ∧ t.tmb.window = s.tmb.window ∧
        t.deadline .calibration = s.deadline .calibration) ∧
      t.tmb.acceptedM = s.tmb.acceptedM ∧ t.tmb.divisor = s.tmb.divisor ∧ t.tmb.switchTo = s.tmb.switchTo ∧
      Unchanged [.calibration, .deadlines, .fallen] s t) ∧
  (∀ s : State, s.pwc.power ≠ .unpowered → s.HasFallen .watch →
    ∃ t, exec .uncalibratedWatch s = .next t ∧ t.Taken .watch ∧ s.OthersStand (· == .watch) t ∧
      (s.tmb.quality = .uncalibrated → t.thm.raised = s.thm.raised ++ [.clock] ∧
        (s.pwc.power = .active → t.Notified (.clock .uncalibrated .uncalibrated .uncalibrated none s.tmb.acceptedM
          s.tmb.divisor s.pscNow s.tmb.uptime))) ∧
      (s.tmb.quality ≠ .uncalibrated → Unchanged [.fallen] s t) ∧
      Unchanged [.outbound, .pendingSet, .period, .fallen, .raised, .clockEvent] s t) ∧
  (∀ (s : State) (d : Deadline) (n : Nat), s.pwc.power ≠ .unpowered →
    s.tmb.fallen.find? (fun e => e.purpose == .stimulation) = some d → s.tmb.quality = .holdover →
    s.tmb.supervisor = .confirming n → s.sto.policy.stimulation = true →
    ∃ t, exec .stimulationDeadline s = .next t ∧ t.Taken .stimulation ∧ s.OthersStand (· == .stimulation) t ∧
      t.tmb.xoPulse = true ∧
      t.deadline .stimulation = some (d.due + 1024) ∧ Unchanged [.xo, .deadlines, .fallen] s t) ∧
  ∀ s : State, s.pwc.power ≠ .unpowered → s.tmb.xoPulse = true →
    ∃ t, exec .stimulationPulseEnd s = .next t ∧ t.tmb.xoPulse = false ∧
      (∀ n, s.tmb.supervisor = .confirming n → t.tmb.supervisor = .confirming 0) ∧
      ((∀ n, s.tmb.supervisor ≠ .confirming n) → t.tmb.supervisor = s.tmb.supervisor) ∧
      Unchanged [.xo, .supervisor] s t

/-- R140 to R145, R147: a gap returns the supervisor to CONFIRMING with count 0, abandoning window, retry and switch; in IN_USE it is a
loss, to HOLDOVER on the RC with D, raising CLOCK. A count of 32,768, or one that the cycles of the tick in progress can bring to it,
confirms, and no lesser one; a confirmation awaits its edge, and the edge opens its window. A count within 4,096 to 16,384 is accepted
with D = (17 M + 511) / 512, from 136 to 544; another leaves M and D, raises CLOCK, and after a confirmation is retried 65,536 ticks on.
An accepted confirmation takes the ticks to the crystal at the boundary.
The model's own choices here: log 36. -/
def Obligations.CrystalIsSupervisedAndCalibrates : Prop :=
  (∀ s : State, s.pwc.power ≠ .unpowered →
    (∀ n, s.tmb.supervisor = .confirming n → ∃ t, exec .crystalGap s = .next t ∧
      t.tmb.supervisor = .confirming 0 ∧ Unchanged [.supervisor] s t) ∧
    (s.tmb.supervisor = .confirmed → ∃ t, exec .crystalGap s = .next t ∧ t.tmb.supervisor = .confirming 0 ∧
      t.tmb.window = none ∧ t.tmb.awaitEdge = false ∧ t.tmb.switchTo = none ∧ t.tmb.acceptedM = s.tmb.acceptedM ∧
      t.tmb.divisor = s.tmb.divisor ∧ t.deadline .calibration = none ∧
      (s.tmb.quality = .holdover → s.sto.policy.stimulation = true →
        t.deadline .stimulation = some (s.tmb.uptime + 1024)) ∧
      (s.tmb.quality ≠ .holdover ∨ s.sto.policy.stimulation = false → t.deadline .stimulation = s.deadline .stimulation) ∧
      s.OthersStand (fun p => p == .calibration || p == .stimulation) t ∧
      Unchanged [.supervisor, .calibration, .deadlines] s t) ∧
    (s.tmb.supervisor = .inUse → ∃ t, exec .crystalLoss s = .next t ∧ t.tmb.quality = .holdover ∧
      t.tmb.supervisor = .confirming 0 ∧ t.tmb.source = .rc ∧ t.tmb.divisorInUse = s.tmb.divisor ∧
      t.tmb.cycles = 0 ∧ t.tmb.window = none ∧ t.tmb.acceptedM = s.tmb.acceptedM ∧ t.tmb.divisor = s.tmb.divisor ∧
      t.deadline .calibration = none ∧
      (s.sto.policy.stimulation = true → t.deadline .stimulation = some (s.tmb.uptime + 1024)) ∧
      (s.sto.policy.stimulation = false → t.deadline .stimulation = s.deadline .stimulation) ∧
      s.OthersStand (fun p => p == .calibration || p == .stimulation) t ∧
      t.thm.raised = s.thm.raised ++ [.clock] ∧
      (s.pwc.power = .active → t.Notified (.clock .holdover s.tmb.quality .crystalLost none s.tmb.acceptedM
        s.tmb.divisor s.pscNow s.tmb.uptime)) ∧
      Unchanged [.outbound, .pendingSet, .period, .quality, .tick, .supervisor, .calibration, .deadlines, .fallen,
        .clockEvent, .raised] s t) ∧
    (∀ n, s.tmb.supervisor = .confirming n →
      n = 32768 ∨ (s.tmb.xoPulse = false ∧ 32768 ≤ n + s.tmb.divisorInUse / 4 + 1) →
      ∃ t, exec .crystalConfirmed s = .next t ∧
      t.tmb.supervisor = .confirmed ∧ t.tmb.awaitEdge = true ∧ t.tmb.window = s.tmb.window ∧
      t.tmb.acceptedM = s.tmb.acceptedM ∧ t.tmb.measuredM = s.tmb.measuredM ∧ t.tmb.switchTo = s.tmb.switchTo ∧
      t.tmb.divisor = s.tmb.divisor ∧ t.deadline .stimulation = none ∧ s.OthersStand (· == .stimulation) t ∧
      Unchanged [.supervisor, .calibration, .deadlines] s t) ∧
    ((∀ n, s.tmb.supervisor = .confirming n →
        n ≠ 32768 ∧ (s.tmb.xoPulse = true ∨ n + s.tmb.divisorInUse / 4 + 1 < 32768)) → ∃ t, exec .crystalConfirmed s = .next t ∧
          Unchanged [] s t) ∧
    (s.tmb.supervisor = .confirmed → s.tmb.awaitEdge = true → ∃ t, exec .calibrationWindowStart s = .next t ∧
      t.tmb.window = some .confirmation ∧ t.tmb.awaitEdge = false ∧ t.tmb.acceptedM = s.tmb.acceptedM ∧
      t.tmb.divisor = s.tmb.divisor ∧ Unchanged [.calibration] s t)) ∧
  (∀ (s : State) (w : Window) (m : Nat), s.pwc.power ≠ .unpowered → s.tmb.window = some w →
    (4096 ≤ m → m ≤ 16384 → ∃ t, exec (.calibrationCount m) s = .next t ∧ t.tmb.window = none ∧
      t.tmb.acceptedM = some m ∧ t.tmb.measuredM = some (m, true) ∧ t.tmb.divisor = (17 * m + 511) / 512 ∧
      136 ≤ t.tmb.divisor ∧ t.tmb.divisor ≤ 544 ∧ 17 * m ≤ t.tmb.divisor * 512 ∧
      (s.tmb.source = .rc → t.tmb.divisorInUse = max s.tmb.divisorInUse t.tmb.divisor) ∧
      (s.tmb.source = .crystal → t.tmb.divisorInUse = s.tmb.divisorInUse) ∧
      (w = .confirmation → t.tmb.switchTo = some { measured := m, boundary := false }) ∧
      (w = .periodic → t.tmb.switchTo = s.tmb.switchTo) ∧ t.tmb.source = s.tmb.source ∧
      Unchanged [.tick, .calibration] s t) ∧
    (m < 4096 ∨ 16384 < m → ∃ t, exec (.calibrationCount m) s = .next t ∧ t.tmb.window = none ∧
      t.tmb.acceptedM = s.tmb.acceptedM ∧ t.tmb.measuredM = some (m, false) ∧ t.tmb.divisor = s.tmb.divisor ∧
      (w = .confirmation → t.deadline .calibration = some (s.tmb.uptime + 65536)) ∧
      (w = .periodic → t.deadline .calibration = s.deadline .calibration) ∧ s.OthersStand (· == .calibration) t ∧
      t.thm.raised = s.thm.raised ++ [.clock] ∧
      (s.pwc.power = .active → t.Notified (.clock s.tmb.quality s.tmb.quality .calibrationBand (some m)
        s.tmb.acceptedM s.tmb.divisor s.pscNow s.tmb.uptime)) ∧
      Unchanged [.outbound, .pendingSet, .period, .calibration, .deadlines, .fallen, .clockEvent, .raised] s t)) ∧
  ∀ (s : State) (m : Nat), s.pwc.power ≠ .unpowered → s.tmb.switchTo = some { measured := m, boundary := true } →
    ∃ t, exec .switchToCrystal s = .next t ∧ t.tmb.source = .crystal ∧ t.tmb.quality = .true_ ∧
      t.tmb.supervisor = .inUse ∧ t.tmb.divisorInUse = 32 ∧ t.tmb.cycles = 0 ∧ t.tmb.switchTo = none ∧
      t.tmb.acceptedM = s.tmb.acceptedM ∧ t.tmb.divisor = s.tmb.divisor ∧
      t.deadline .calibration = some (s.tmb.uptime + 65536) ∧ t.deadline .stimulation = none ∧
      t.deadline .watch = none ∧
      s.OthersStand (fun p => p == .calibration || p == .stimulation || p == .watch) t ∧
      (s.pwc.power = .active → t.Notified (.clock .true_ s.tmb.quality .calibrated (some m) s.tmb.acceptedM
        s.tmb.divisor s.pscNow s.tmb.uptime)) ∧
      Unchanged [.outbound, .pendingSet, .period, .quality, .tick, .supervisor, .calibration, .deadlines, .fallen,
        .clockEvent] s t
end

