-- ==== Sys2Proof/Laws/State.lean ====
section
/-! SUPPORT. The laws of tables and of the updates of State, block by block: what each changes and what it leaves. -/

namespace Sys2Proof

/-- Two tables with the same entries are equal. -/
theorem Table.ext_get {α : Type} {n : Nat} {t u : Table α n} (h : ∀ i, t.get i = u.get i) : t = u := by
  obtain ⟨l, hl⟩ := t
  obtain ⟨m, hm⟩ := u
  have : l = m := List.ext_getElem (by omega) fun i h1 _ => h ⟨i, by omega⟩
  subst this
  rfl

/-- An entry by its position in the list. -/
theorem Table.get_eq {α : Type} {n : Nat} (t : Table α n) (i : Fin n) : t.get i = t.list[i.val]'(by simp [t.size]) := rfl

/-- The entry just set. -/
@[simp] theorem Table.get_set_self {α : Type} {n : Nat} (t : Table α n) (i : Fin n) (a : α) : (t.set i a).get i = a := by
  rw [Table.get_eq]
  exact List.getElem_set_self _

/-- Every other entry stands. -/
theorem Table.get_set_ne {α : Type} {n : Nat} (t : Table α n) {i j : Fin n} (a : α) (h : i ≠ j) :
    (t.set i a).get j = t.get j := by
  rw [Table.get_eq, Table.get_eq]
  exact List.getElem_set_ne (fun e => h (Fin.ext e)) _

/-- An entry after one is set. -/
theorem Table.get_set {α : Type} {n : Nat} (t : Table α n) (i j : Fin n) (a : α) :
    (t.set i a).get j = if i = j then a else t.get j := by
  split
  · next h => subst h; simp
  · next h => exact t.get_set_ne a h

/-- An entry of a table given by a function. -/
@[simp] theorem Table.get_ofFn {α : Type} {n : Nat} (f : Fin n → α) (i : Fin n) : (Table.ofFn f).get i = f i := by
  rw [Table.get_eq]
  exact List.getElem_ofFn _

/-- An entry of a constant table. -/
@[simp] theorem Table.get_fill {α : Type} {n : Nat} (a : α) (i : Fin n) : (Table.fill a : Table α n).get i = a := by
  rw [Table.get_eq]
  exact List.getElem_replicate _

/-- An entry of an image. -/
@[simp] theorem Table.get_imap {α β : Type} {n : Nat} (t : Table α n) (f : Fin n → α → β) (i : Fin n) :
    (t.imap f).get i = f i (t.get i) := by
  simp [Table.imap]

/-- Setting an entry to what it holds changes nothing. -/
@[simp] theorem Table.set_get_self {α : Type} {n : Nat} (t : Table α n) (i : Fin n) : t.set i (t.get i) = t := by
  apply Table.ext_get
  intro j
  rw [Table.get_set]
  split
  · next h => rw [h]
  · rfl

namespace Machine

@[simp] theorem State.onLnk_lnk (s : State) (f : Lnk → Lnk) : (s.onLnk f).lnk = f s.lnk := rfl
@[simp] theorem State.onLnk_rmg (s : State) (f : Lnk → Lnk) : (s.onLnk f).rmg = s.rmg := rfl
@[simp] theorem State.onLnk_srv (s : State) (f : Lnk → Lnk) : (s.onLnk f).srv = s.srv := rfl
@[simp] theorem State.onLnk_kln (s : State) (f : Lnk → Lnk) : (s.onLnk f).kln = s.kln := rfl
@[simp] theorem State.onLnk_aut (s : State) (f : Lnk → Lnk) : (s.onLnk f).aut = s.aut := rfl
@[simp] theorem State.onLnk_thm (s : State) (f : Lnk → Lnk) : (s.onLnk f).thm = s.thm := rfl
@[simp] theorem State.onLnk_wpc (s : State) (f : Lnk → Lnk) : (s.onLnk f).wpc = s.wpc := rfl
@[simp] theorem State.onLnk_tmb (s : State) (f : Lnk → Lnk) : (s.onLnk f).tmb = s.tmb := rfl
@[simp] theorem State.onLnk_sto (s : State) (f : Lnk → Lnk) : (s.onLnk f).sto = s.sto := rfl
@[simp] theorem State.onLnk_pwc (s : State) (f : Lnk → Lnk) : (s.onLnk f).pwc = s.pwc := rfl
@[simp] theorem State.onLnk_pins (s : State) (f : Lnk → Lnk) : (s.onLnk f).pins = s.pins := rfl
@[simp] theorem State.onLnk_model (s : State) (f : Lnk → Lnk) : (s.onLnk f).model = s.model := rfl
@[simp] theorem State.onLnk_pending (s : State) (f : Lnk → Lnk) : (s.onLnk f).pending = s.pending := rfl

@[simp] theorem State.onRmg_lnk (s : State) (f : Rmg → Rmg) : (s.onRmg f).lnk = s.lnk := rfl
@[simp] theorem State.onRmg_rmg (s : State) (f : Rmg → Rmg) : (s.onRmg f).rmg = f s.rmg := rfl
@[simp] theorem State.onRmg_srv (s : State) (f : Rmg → Rmg) : (s.onRmg f).srv = s.srv := rfl
@[simp] theorem State.onRmg_kln (s : State) (f : Rmg → Rmg) : (s.onRmg f).kln = s.kln := rfl
@[simp] theorem State.onRmg_aut (s : State) (f : Rmg → Rmg) : (s.onRmg f).aut = s.aut := rfl
@[simp] theorem State.onRmg_thm (s : State) (f : Rmg → Rmg) : (s.onRmg f).thm = s.thm := rfl
@[simp] theorem State.onRmg_wpc (s : State) (f : Rmg → Rmg) : (s.onRmg f).wpc = s.wpc := rfl
@[simp] theorem State.onRmg_tmb (s : State) (f : Rmg → Rmg) : (s.onRmg f).tmb = s.tmb := rfl
@[simp] theorem State.onRmg_sto (s : State) (f : Rmg → Rmg) : (s.onRmg f).sto = s.sto := rfl
@[simp] theorem State.onRmg_pwc (s : State) (f : Rmg → Rmg) : (s.onRmg f).pwc = s.pwc := rfl
@[simp] theorem State.onRmg_pins (s : State) (f : Rmg → Rmg) : (s.onRmg f).pins = s.pins := rfl
@[simp] theorem State.onRmg_model (s : State) (f : Rmg → Rmg) : (s.onRmg f).model = s.model := rfl
@[simp] theorem State.onRmg_pending (s : State) (f : Rmg → Rmg) : (s.onRmg f).pending = s.pending := rfl

@[simp] theorem State.onSrv_lnk (s : State) (f : Srv → Srv) : (s.onSrv f).lnk = s.lnk := rfl
@[simp] theorem State.onSrv_rmg (s : State) (f : Srv → Srv) : (s.onSrv f).rmg = s.rmg := rfl
@[simp] theorem State.onSrv_srv (s : State) (f : Srv → Srv) : (s.onSrv f).srv = f s.srv := rfl
@[simp] theorem State.onSrv_kln (s : State) (f : Srv → Srv) : (s.onSrv f).kln = s.kln := rfl
@[simp] theorem State.onSrv_aut (s : State) (f : Srv → Srv) : (s.onSrv f).aut = s.aut := rfl
@[simp] theorem State.onSrv_thm (s : State) (f : Srv → Srv) : (s.onSrv f).thm = s.thm := rfl
@[simp] theorem State.onSrv_wpc (s : State) (f : Srv → Srv) : (s.onSrv f).wpc = s.wpc := rfl
@[simp] theorem State.onSrv_tmb (s : State) (f : Srv → Srv) : (s.onSrv f).tmb = s.tmb := rfl
@[simp] theorem State.onSrv_sto (s : State) (f : Srv → Srv) : (s.onSrv f).sto = s.sto := rfl
@[simp] theorem State.onSrv_pwc (s : State) (f : Srv → Srv) : (s.onSrv f).pwc = s.pwc := rfl
@[simp] theorem State.onSrv_pins (s : State) (f : Srv → Srv) : (s.onSrv f).pins = s.pins := rfl
@[simp] theorem State.onSrv_model (s : State) (f : Srv → Srv) : (s.onSrv f).model = s.model := rfl
@[simp] theorem State.onSrv_pending (s : State) (f : Srv → Srv) : (s.onSrv f).pending = s.pending := rfl

@[simp] theorem State.onKln_lnk (s : State) (f : Kln → Kln) : (s.onKln f).lnk = s.lnk := rfl
@[simp] theorem State.onKln_rmg (s : State) (f : Kln → Kln) : (s.onKln f).rmg = s.rmg := rfl
@[simp] theorem State.onKln_srv (s : State) (f : Kln → Kln) : (s.onKln f).srv = s.srv := rfl
@[simp] theorem State.onKln_kln (s : State) (f : Kln → Kln) : (s.onKln f).kln = f s.kln := rfl
@[simp] theorem State.onKln_aut (s : State) (f : Kln → Kln) : (s.onKln f).aut = s.aut := rfl
@[simp] theorem State.onKln_thm (s : State) (f : Kln → Kln) : (s.onKln f).thm = s.thm := rfl
@[simp] theorem State.onKln_wpc (s : State) (f : Kln → Kln) : (s.onKln f).wpc = s.wpc := rfl
@[simp] theorem State.onKln_tmb (s : State) (f : Kln → Kln) : (s.onKln f).tmb = s.tmb := rfl
@[simp] theorem State.onKln_sto (s : State) (f : Kln → Kln) : (s.onKln f).sto = s.sto := rfl
@[simp] theorem State.onKln_pwc (s : State) (f : Kln → Kln) : (s.onKln f).pwc = s.pwc := rfl
@[simp] theorem State.onKln_pins (s : State) (f : Kln → Kln) : (s.onKln f).pins = s.pins := rfl
@[simp] theorem State.onKln_model (s : State) (f : Kln → Kln) : (s.onKln f).model = s.model := rfl
@[simp] theorem State.onKln_pending (s : State) (f : Kln → Kln) : (s.onKln f).pending = s.pending := rfl

@[simp] theorem State.onAut_lnk (s : State) (f : Aut → Aut) : (s.onAut f).lnk = s.lnk := rfl
@[simp] theorem State.onAut_rmg (s : State) (f : Aut → Aut) : (s.onAut f).rmg = s.rmg := rfl
@[simp] theorem State.onAut_srv (s : State) (f : Aut → Aut) : (s.onAut f).srv = s.srv := rfl
@[simp] theorem State.onAut_kln (s : State) (f : Aut → Aut) : (s.onAut f).kln = s.kln := rfl
@[simp] theorem State.onAut_aut (s : State) (f : Aut → Aut) : (s.onAut f).aut = f s.aut := rfl
@[simp] theorem State.onAut_thm (s : State) (f : Aut → Aut) : (s.onAut f).thm = s.thm := rfl
@[simp] theorem State.onAut_wpc (s : State) (f : Aut → Aut) : (s.onAut f).wpc = s.wpc := rfl
@[simp] theorem State.onAut_tmb (s : State) (f : Aut → Aut) : (s.onAut f).tmb = s.tmb := rfl
@[simp] theorem State.onAut_sto (s : State) (f : Aut → Aut) : (s.onAut f).sto = s.sto := rfl
@[simp] theorem State.onAut_pwc (s : State) (f : Aut → Aut) : (s.onAut f).pwc = s.pwc := rfl
@[simp] theorem State.onAut_pins (s : State) (f : Aut → Aut) : (s.onAut f).pins = s.pins := rfl
@[simp] theorem State.onAut_model (s : State) (f : Aut → Aut) : (s.onAut f).model = s.model := rfl
@[simp] theorem State.onAut_pending (s : State) (f : Aut → Aut) : (s.onAut f).pending = s.pending := rfl

@[simp] theorem State.onThm_lnk (s : State) (f : Thm → Thm) : (s.onThm f).lnk = s.lnk := rfl
@[simp] theorem State.onThm_rmg (s : State) (f : Thm → Thm) : (s.onThm f).rmg = s.rmg := rfl
@[simp] theorem State.onThm_srv (s : State) (f : Thm → Thm) : (s.onThm f).srv = s.srv := rfl
@[simp] theorem State.onThm_kln (s : State) (f : Thm → Thm) : (s.onThm f).kln = s.kln := rfl
@[simp] theorem State.onThm_aut (s : State) (f : Thm → Thm) : (s.onThm f).aut = s.aut := rfl
@[simp] theorem State.onThm_thm (s : State) (f : Thm → Thm) : (s.onThm f).thm = f s.thm := rfl
@[simp] theorem State.onThm_wpc (s : State) (f : Thm → Thm) : (s.onThm f).wpc = s.wpc := rfl
@[simp] theorem State.onThm_tmb (s : State) (f : Thm → Thm) : (s.onThm f).tmb = s.tmb := rfl
@[simp] theorem State.onThm_sto (s : State) (f : Thm → Thm) : (s.onThm f).sto = s.sto := rfl
@[simp] theorem State.onThm_pwc (s : State) (f : Thm → Thm) : (s.onThm f).pwc = s.pwc := rfl
@[simp] theorem State.onThm_pins (s : State) (f : Thm → Thm) : (s.onThm f).pins = s.pins := rfl
@[simp] theorem State.onThm_model (s : State) (f : Thm → Thm) : (s.onThm f).model = s.model := rfl
@[simp] theorem State.onThm_pending (s : State) (f : Thm → Thm) : (s.onThm f).pending = s.pending := rfl

@[simp] theorem State.onWpc_lnk (s : State) (f : Wpc → Wpc) : (s.onWpc f).lnk = s.lnk := rfl
@[simp] theorem State.onWpc_rmg (s : State) (f : Wpc → Wpc) : (s.onWpc f).rmg = s.rmg := rfl
@[simp] theorem State.onWpc_srv (s : State) (f : Wpc → Wpc) : (s.onWpc f).srv = s.srv := rfl
@[simp] theorem State.onWpc_kln (s : State) (f : Wpc → Wpc) : (s.onWpc f).kln = s.kln := rfl
@[simp] theorem State.onWpc_aut (s : State) (f : Wpc → Wpc) : (s.onWpc f).aut = s.aut := rfl
@[simp] theorem State.onWpc_thm (s : State) (f : Wpc → Wpc) : (s.onWpc f).thm = s.thm := rfl
@[simp] theorem State.onWpc_wpc (s : State) (f : Wpc → Wpc) : (s.onWpc f).wpc = f s.wpc := rfl
@[simp] theorem State.onWpc_tmb (s : State) (f : Wpc → Wpc) : (s.onWpc f).tmb = s.tmb := rfl
@[simp] theorem State.onWpc_sto (s : State) (f : Wpc → Wpc) : (s.onWpc f).sto = s.sto := rfl
@[simp] theorem State.onWpc_pwc (s : State) (f : Wpc → Wpc) : (s.onWpc f).pwc = s.pwc := rfl
@[simp] theorem State.onWpc_pins (s : State) (f : Wpc → Wpc) : (s.onWpc f).pins = s.pins := rfl
@[simp] theorem State.onWpc_model (s : State) (f : Wpc → Wpc) : (s.onWpc f).model = s.model := rfl
@[simp] theorem State.onWpc_pending (s : State) (f : Wpc → Wpc) : (s.onWpc f).pending = s.pending := rfl

@[simp] theorem State.onTmb_lnk (s : State) (f : Tmb → Tmb) : (s.onTmb f).lnk = s.lnk := rfl
@[simp] theorem State.onTmb_rmg (s : State) (f : Tmb → Tmb) : (s.onTmb f).rmg = s.rmg := rfl
@[simp] theorem State.onTmb_srv (s : State) (f : Tmb → Tmb) : (s.onTmb f).srv = s.srv := rfl
@[simp] theorem State.onTmb_kln (s : State) (f : Tmb → Tmb) : (s.onTmb f).kln = s.kln := rfl
@[simp] theorem State.onTmb_aut (s : State) (f : Tmb → Tmb) : (s.onTmb f).aut = s.aut := rfl
@[simp] theorem State.onTmb_thm (s : State) (f : Tmb → Tmb) : (s.onTmb f).thm = s.thm := rfl
@[simp] theorem State.onTmb_wpc (s : State) (f : Tmb → Tmb) : (s.onTmb f).wpc = s.wpc := rfl
@[simp] theorem State.onTmb_tmb (s : State) (f : Tmb → Tmb) : (s.onTmb f).tmb = f s.tmb := rfl
@[simp] theorem State.onTmb_sto (s : State) (f : Tmb → Tmb) : (s.onTmb f).sto = s.sto := rfl
@[simp] theorem State.onTmb_pwc (s : State) (f : Tmb → Tmb) : (s.onTmb f).pwc = s.pwc := rfl
@[simp] theorem State.onTmb_pins (s : State) (f : Tmb → Tmb) : (s.onTmb f).pins = s.pins := rfl
@[simp] theorem State.onTmb_model (s : State) (f : Tmb → Tmb) : (s.onTmb f).model = s.model := rfl
@[simp] theorem State.onTmb_pending (s : State) (f : Tmb → Tmb) : (s.onTmb f).pending = s.pending := rfl

@[simp] theorem State.onSto_lnk (s : State) (f : Sto → Sto) : (s.onSto f).lnk = s.lnk := rfl
@[simp] theorem State.onSto_rmg (s : State) (f : Sto → Sto) : (s.onSto f).rmg = s.rmg := rfl
@[simp] theorem State.onSto_srv (s : State) (f : Sto → Sto) : (s.onSto f).srv = s.srv := rfl
@[simp] theorem State.onSto_kln (s : State) (f : Sto → Sto) : (s.onSto f).kln = s.kln := rfl
@[simp] theorem State.onSto_aut (s : State) (f : Sto → Sto) : (s.onSto f).aut = s.aut := rfl
@[simp] theorem State.onSto_thm (s : State) (f : Sto → Sto) : (s.onSto f).thm = s.thm := rfl
@[simp] theorem State.onSto_wpc (s : State) (f : Sto → Sto) : (s.onSto f).wpc = s.wpc := rfl
@[simp] theorem State.onSto_tmb (s : State) (f : Sto → Sto) : (s.onSto f).tmb = s.tmb := rfl
@[simp] theorem State.onSto_sto (s : State) (f : Sto → Sto) : (s.onSto f).sto = f s.sto := rfl
@[simp] theorem State.onSto_pwc (s : State) (f : Sto → Sto) : (s.onSto f).pwc = s.pwc := rfl
@[simp] theorem State.onSto_pins (s : State) (f : Sto → Sto) : (s.onSto f).pins = s.pins := rfl
@[simp] theorem State.onSto_model (s : State) (f : Sto → Sto) : (s.onSto f).model = s.model := rfl
@[simp] theorem State.onSto_pending (s : State) (f : Sto → Sto) : (s.onSto f).pending = s.pending := rfl

@[simp] theorem State.onPwc_lnk (s : State) (f : Pwc → Pwc) : (s.onPwc f).lnk = s.lnk := rfl
@[simp] theorem State.onPwc_rmg (s : State) (f : Pwc → Pwc) : (s.onPwc f).rmg = s.rmg := rfl
@[simp] theorem State.onPwc_srv (s : State) (f : Pwc → Pwc) : (s.onPwc f).srv = s.srv := rfl
@[simp] theorem State.onPwc_kln (s : State) (f : Pwc → Pwc) : (s.onPwc f).kln = s.kln := rfl
@[simp] theorem State.onPwc_aut (s : State) (f : Pwc → Pwc) : (s.onPwc f).aut = s.aut := rfl
@[simp] theorem State.onPwc_thm (s : State) (f : Pwc → Pwc) : (s.onPwc f).thm = s.thm := rfl
@[simp] theorem State.onPwc_wpc (s : State) (f : Pwc → Pwc) : (s.onPwc f).wpc = s.wpc := rfl
@[simp] theorem State.onPwc_tmb (s : State) (f : Pwc → Pwc) : (s.onPwc f).tmb = s.tmb := rfl
@[simp] theorem State.onPwc_sto (s : State) (f : Pwc → Pwc) : (s.onPwc f).sto = s.sto := rfl
@[simp] theorem State.onPwc_pwc (s : State) (f : Pwc → Pwc) : (s.onPwc f).pwc = f s.pwc := rfl
@[simp] theorem State.onPwc_pins (s : State) (f : Pwc → Pwc) : (s.onPwc f).pins = s.pins := rfl
@[simp] theorem State.onPwc_model (s : State) (f : Pwc → Pwc) : (s.onPwc f).model = s.model := rfl
@[simp] theorem State.onPwc_pending (s : State) (f : Pwc → Pwc) : (s.onPwc f).pending = s.pending := rfl

@[simp] theorem State.onPins_lnk (s : State) (f : Pins → Pins) : (s.onPins f).lnk = s.lnk := rfl
@[simp] theorem State.onPins_rmg (s : State) (f : Pins → Pins) : (s.onPins f).rmg = s.rmg := rfl
@[simp] theorem State.onPins_srv (s : State) (f : Pins → Pins) : (s.onPins f).srv = s.srv := rfl
@[simp] theorem State.onPins_kln (s : State) (f : Pins → Pins) : (s.onPins f).kln = s.kln := rfl
@[simp] theorem State.onPins_aut (s : State) (f : Pins → Pins) : (s.onPins f).aut = s.aut := rfl
@[simp] theorem State.onPins_thm (s : State) (f : Pins → Pins) : (s.onPins f).thm = s.thm := rfl
@[simp] theorem State.onPins_wpc (s : State) (f : Pins → Pins) : (s.onPins f).wpc = s.wpc := rfl
@[simp] theorem State.onPins_tmb (s : State) (f : Pins → Pins) : (s.onPins f).tmb = s.tmb := rfl
@[simp] theorem State.onPins_sto (s : State) (f : Pins → Pins) : (s.onPins f).sto = s.sto := rfl
@[simp] theorem State.onPins_pwc (s : State) (f : Pins → Pins) : (s.onPins f).pwc = s.pwc := rfl
@[simp] theorem State.onPins_pins (s : State) (f : Pins → Pins) : (s.onPins f).pins = f s.pins := rfl
@[simp] theorem State.onPins_model (s : State) (f : Pins → Pins) : (s.onPins f).model = s.model := rfl
@[simp] theorem State.onPins_pending (s : State) (f : Pins → Pins) : (s.onPins f).pending = s.pending := rfl

@[simp] theorem State.onModel_lnk (s : State) (f : Model → Model) : (s.onModel f).lnk = s.lnk := rfl
@[simp] theorem State.onModel_rmg (s : State) (f : Model → Model) : (s.onModel f).rmg = s.rmg := rfl
@[simp] theorem State.onModel_srv (s : State) (f : Model → Model) : (s.onModel f).srv = s.srv := rfl
@[simp] theorem State.onModel_kln (s : State) (f : Model → Model) : (s.onModel f).kln = s.kln := rfl
@[simp] theorem State.onModel_aut (s : State) (f : Model → Model) : (s.onModel f).aut = s.aut := rfl
@[simp] theorem State.onModel_thm (s : State) (f : Model → Model) : (s.onModel f).thm = s.thm := rfl
@[simp] theorem State.onModel_wpc (s : State) (f : Model → Model) : (s.onModel f).wpc = s.wpc := rfl
@[simp] theorem State.onModel_tmb (s : State) (f : Model → Model) : (s.onModel f).tmb = s.tmb := rfl
@[simp] theorem State.onModel_sto (s : State) (f : Model → Model) : (s.onModel f).sto = s.sto := rfl
@[simp] theorem State.onModel_pwc (s : State) (f : Model → Model) : (s.onModel f).pwc = s.pwc := rfl
@[simp] theorem State.onModel_pins (s : State) (f : Model → Model) : (s.onModel f).pins = s.pins := rfl
@[simp] theorem State.onModel_model (s : State) (f : Model → Model) : (s.onModel f).model = f s.model := rfl
@[simp] theorem State.onModel_pending (s : State) (f : Model → Model) : (s.onModel f).pending = s.pending := rfl

@[simp] theorem State.setPending_lnk (s : State) (q : List Instr) : (s.setPending q).lnk = s.lnk := rfl
@[simp] theorem State.setPending_rmg (s : State) (q : List Instr) : (s.setPending q).rmg = s.rmg := rfl
@[simp] theorem State.setPending_srv (s : State) (q : List Instr) : (s.setPending q).srv = s.srv := rfl
@[simp] theorem State.setPending_kln (s : State) (q : List Instr) : (s.setPending q).kln = s.kln := rfl
@[simp] theorem State.setPending_aut (s : State) (q : List Instr) : (s.setPending q).aut = s.aut := rfl
@[simp] theorem State.setPending_thm (s : State) (q : List Instr) : (s.setPending q).thm = s.thm := rfl
@[simp] theorem State.setPending_wpc (s : State) (q : List Instr) : (s.setPending q).wpc = s.wpc := rfl
@[simp] theorem State.setPending_tmb (s : State) (q : List Instr) : (s.setPending q).tmb = s.tmb := rfl
@[simp] theorem State.setPending_sto (s : State) (q : List Instr) : (s.setPending q).sto = s.sto := rfl
@[simp] theorem State.setPending_pwc (s : State) (q : List Instr) : (s.setPending q).pwc = s.pwc := rfl
@[simp] theorem State.setPending_pins (s : State) (q : List Instr) : (s.setPending q).pins = s.pins := rfl
@[simp] theorem State.setPending_model (s : State) (q : List Instr) : (s.setPending q).model = s.model := rfl
@[simp] theorem State.setPending_pending (s : State) (q : List Instr) : (s.setPending q).pending = q := rfl

end Machine

end Sys2Proof
end

