-- ==== Sys2Proof/Laws/Frames.lean ====
section
/-! SUPPORT. Frames: how `Unchanged` composes, and for each shared operation the parts of the state it can change. -/

namespace Sys2Proof.Machine

/-! ## Composition -/

/-- Every part is unchanged from a state to itself. -/
theorem Part.same_refl (p : Part) (s : State) : p.same s s := by
  cases p <;> simp [Part.same]

/-- Readiness does not depend on which writes have started. -/
theorem isReady_plain (o : Option Deferred) : isReady (o.map Deferred.plain) = isReady o := by
  obtain _ | ⟨k, t, b, r, _ | _⟩ := o <;> rfl

/-- A part unchanged twice over is unchanged. -/
theorem Part.same_trans {p : Part} {s t u : State} (h : p.same s t) (k : p.same t u) : p.same s u := by
  cases p
  case outbound =>
    obtain ⟨a, ha⟩ := h
    obtain ⟨b, hb⟩ := k
    exact ⟨a ++ b, by rw [hb, ha, List.append_assoc]⟩
  case pendingSet => exact List.IsSuffix.trans k h
  case deferred =>
    intro i hi
    have h1 := h i hi
    have h2 : isReady (t.lnk.deferred.get i) = false := by
      rw [← isReady_plain, h1, isReady_plain, hi]
    rw [k i h2, h1]
  case lane =>
    rcases h with ⟨h1, h2, h3⟩ | ⟨h1, f, g, h2, h3, h4⟩
    · rcases k with ⟨k1, k2, k3⟩ | ⟨k1, f, g, k2, k3, k4⟩
      · exact .inl ⟨k1.trans h1, k2.trans h2, k3.trans h3⟩
      · exact .inr ⟨h1 ▸ k1, f, g, h2 ▸ k2, k3, k4⟩
    · rcases k with ⟨k1, k2, -⟩ | ⟨k1, -⟩
      · exact .inr ⟨h1, f, g, by rw [h2, k2], k1.trans h3, h4⟩
      · rw [h3] at k1; cases k1
  all_goals simp only [Part.same] at *; simp_all

theorem Unchanged.refl (e : List Part) (s : State) : Unchanged e s s := fun p _ => p.same_refl s

/-- Frames compose: what two steps change is what either names. -/
theorem Unchanged.trans {d e f : List Part} {s t u : State} (h : Unchanged d s t) (k : Unchanged e t u)
    (hd : d ⊆ f := by decide) (he : e ⊆ f := by decide) : Unchanged f s u := fun p hp =>
  Part.same_trans (h p fun m => hp (hd m)) (k p fun m => hp (he m))

/-- Frames compose, what either names standing side by side. -/
theorem Unchanged.append {d e : List Part} {s t u : State} (h : Unchanged d s t) (k : Unchanged e t u) :
    Unchanged (d ++ e) s u :=
  h.trans k (List.subset_append_left d e) (List.subset_append_right d e)

/-- A frame may name more. -/
theorem Unchanged.mono {d e : List Part} {s t : State} (h : Unchanged d s t) (hd : d ⊆ e := by decide) :
    Unchanged e s t := fun p hp => h p fun m => hp (hd m)

/-! ## The operations of Ops -/

theorem State.withdrawAll_unchanged (q : Purpose → Bool) (s : State) : Unchanged [.deadlines] s (s.withdrawAll q) := by
  intro p hp; cases p <;> simp_all [Part.same, State.withdrawAll, Tmb.otherFallen]

theorem State.withdraw_unchanged (q : Purpose) (s : State) : Unchanged [.deadlines] s (s.withdraw q) :=
  s.withdrawAll_unchanged _

theorem State.cancelAll_unchanged (q : Purpose → Bool) (s : State) :
    Unchanged [.deadlines, .fallen] s (s.cancelAll q) := by
  intro p hp; cases p <;> simp_all [Part.same, State.cancelAll, State.withdrawAll]

theorem State.cancel_unchanged (q : Purpose) (s : State) : Unchanged [.deadlines, .fallen] s (s.cancel q) :=
  s.cancelAll_unchanged _

theorem State.enter_unchanged (q : Purpose) (due : Nat) (s : State) :
    Unchanged [.deadlines, .fallen] s (s.enter q due) := by
  intro p hp; cases p <;> simp_all [Part.same, State.enter, State.withdraw, State.withdrawAll]

theorem State.answer_unchanged (kind tag : Byte) (r : Reply) (s : State) : Unchanged [] s (s.answer kind tag r) := by
  intro p hp; cases p <;> simp_all [Part.same, State.answer]

theorem State.noAnswer_unchanged (s : State) : Unchanged [] s (s.noAnswer) := by
  intro p hp; cases p <;> simp_all [Part.same, State.noAnswer]

/-- A notice raised concerns the outbound queue, the pending set and the mark of a replaced head (R179). -/
theorem Lnk.raise_frame (n : Notice) (l : Lnk) :
    (l.raise n).waiting = l.waiting ∧ (l.raise n).reserved = l.reserved ∧ (l.raise n).deferred = l.deferred ∧
      (l.raise n).readyOrder = l.readyOrder ∧ (l.raise n).overrun = l.overrun ∧ (l.raise n).sdo = l.sdo := by
  unfold Lnk.raise
  split
  · simp
  · split
    · simp
    · split <;> simp

theorem State.notify_unchanged (n : Notice) (s : State) :
    Unchanged [.outbound, .pendingSet, .period] s (s.notify n) := by
  unfold State.notify
  split
  · obtain ⟨h1, -, h2, -, h3, h4⟩ := s.lnk.raise_frame n
    intro p hp
    cases p
    case deferred => exact fun i _ => by rw [State.onLnk_lnk, h2]
    all_goals simp_all [Part.same]
  · exact .refl _ _

/-- Rewriting the work of WORKING entries concerns the deferred-reply table alone. -/
theorem State.onWork_unchanged (f : Work → DeferState) (s : State) : Unchanged [.deferred] s (s.onLnk (Lnk.onWork f)) := by
  intro p hp; cases p <;> simp_all [Part.same, Lnk.onWork]

theorem State.answerJob_unchanged (r : Reply) (s : State) : Unchanged [.deferred] s (s.answerJob r) := by
  exact s.onWork_unchanged _

/-- A deferred reply's entry is the only one written. -/
theorem State.defer_unchanged (i : DeferIx) (kind tag : Byte) (b : Block) (r : Option RangeIx) (w : Work) (s : State) :
    Unchanged [.deferred] s (s.defer i kind tag b r w) := by
  intro p hp; cases p <;> simp_all [Part.same, State.defer]

theorem State.deferWrites_unchanged (kind : Byte) (h : Header) (b : Block) (range : Option RangeIx) (rs : List RecordId)
    (lock : Option RangeIx) (done fault : Reply) (s : State) :
    Unchanged [.deferred] s (s.deferWrites kind h b range rs lock done fault) := by
  unfold State.deferWrites
  split
  · exact s.defer_unchanged _ _ _ _ _ _
  · exact s.noAnswer_unchanged.mono

@[simp] theorem startWait_record (r : RecordId) (ws : List Wait) :
    (startWait r ws).map Wait.record = ws.map Wait.record := by
  simp only [startWait, List.map_map]
  congr 1
  funext w
  simp only [Function.comp]
  split <;> rfl

theorem Engine.plain_start (r : RecordId) (e : Engine) :
    (match e with
      | .charging j ws => Engine.charging j (startWait r ws)
      | .finishing st k ws => .finishing st k (startWait r ws)
      | e => e).plain = e.plain := by
  cases e <;> simp [Engine.plain]

/-- The start of a write tells whoever waits on it, and changes nothing else. -/
theorem State.startWaits_unchanged (r : RecordId) (s : State) : Unchanged [] s (s.startWaits r) := by
  intro p hp
  cases p
  case engine => exact Engine.plain_start r s.aut.engine
  case deferred =>
    intro i _
    simp only [State.startWaits, State.onPwc_lnk, State.onWpc_lnk, State.onAut_lnk, State.onRmg_lnk, State.onLnk_lnk,
      Lnk.onWork, Table.get_imap]
    obtain _ | ⟨k, t, b, q, w | r⟩ := s.lnk.deferred.get i
    · rfl
    · cases w <;> simp [Deferred.plain, Work.plain]
    · rfl
  all_goals simp_all [Part.same, State.startWaits, Lnk.onWork]

theorem State.beginOp_unchanged (s : State) : Unchanged Part.marks s s.beginOp := by
  have h (f : Sto → Sto) (hf : Unchanged Part.marks s (s.onSto f)) (r : RecordId) :
      Unchanged Part.marks s ((s.onSto f).startWaits r) := hf.trans ((s.onSto f).startWaits_unchanged r)
  unfold State.beginOp
  split
  · split
    · intro p hp; cases p <;> simp_all [Part.same, Part.marks]
    · apply h; intro p hp; cases p <;> simp_all [Part.same, Part.marks]
    · split
      · exact .refl _ _
      · apply h; intro p hp; cases p <;> simp_all [Part.same, Part.marks]
  · exact .refl _ _

theorem State.markAs_unchanged (urgent : Bool) (r : RecordId) (s : State) : Unchanged Part.marks s (s.markAs urgent r) := by
  refine Unchanged.trans (d := Part.marks) (e := Part.marks) ?_ (State.beginOp_unchanged _)
  intro p hp; cases p <;> simp_all [Part.same, Part.marks]

theorem State.mark_unchanged (r : RecordId) (s : State) : Unchanged Part.marks s (s.mark r) := s.markAs_unchanged _ r

theorem State.markAll_unchanged (rs : List RecordId) (s : State) : Unchanged Part.marks s (s.markAll rs) := by
  induction rs generalizing s with
  | nil => exact .refl _ _
  | cons r rs ih => exact (s.mark_unchanged r).trans (ih _)

theorem State.askStore_unchanged (op : WipeOp) (s : State) : Unchanged Part.marks s (s.askStore op) := by
  refine Unchanged.trans (d := Part.marks) (e := Part.marks) ?_ (State.beginOp_unchanged _)
  intro p hp; cases p <;> simp_all [Part.same, Part.marks]

theorem State.addFaulty_unchanged (r : RecordId) (s : State) : Unchanged [.faulty] s (s.addFaulty r) := by
  unfold State.addFaulty
  split
  · exact .refl _ _
  · intro p hp; cases p <;> simp_all [Part.same]

theorem State.bump_unchanged (s : State) : Unchanged [.mapGen] s s.bump := by
  unfold State.bump
  split
  · exact .refl _ _
  · intro p hp; cases p <;> simp_all [Part.same]

theorem State.newOccurrence_unchanged (s : State) : Unchanged [] s (s.newOccurrence) := by
  intro p hp; cases p <;> simp_all [Part.same, State.newOccurrence]

theorem State.draw_unchanged (s : State) : Unchanged [.draws] s (s.draw) := by
  intro p hp; cases p <;> simp_all [Part.same, State.draw]

theorem State.raiseTrigger_unchanged (k : TriggerKind) (s : State) : Unchanged [.raised] s (s.raiseTrigger k) := by
  intro p hp; cases p <;> simp_all [Part.same, State.raiseTrigger]

/-! ## The end of an occurrence -/

/-- LNK with more granted: the outbound queue has grown at its tail, the pending set lost from its head, READY entries were freed,
and the waiting position, the overrun flag, the period and SDO stand. -/
structure Lnk.Granted (l m : Lnk) : Prop where
  waiting : m.waiting = l.waiting
  outbound : ∃ more, m.outbound = l.outbound ++ more
  pendingSet : m.pendingSet <:+ l.pendingSet
  deferred : ∀ i, isReady (l.deferred.get i) = false → m.deferred.get i = l.deferred.get i
  overrun : m.overrun = l.overrun
  period : m.period = l.period
  sdo : m.sdo = l.sdo

theorem Lnk.Granted.refl (l : Lnk) : l.Granted l := ⟨rfl, ⟨[], by simp⟩, List.suffix_rfl, fun _ _ => rfl, rfl, rfl, rfl⟩

theorem Lnk.Granted.trans {l m n : Lnk} (h : l.Granted m) (k : m.Granted n) : l.Granted n := by
  obtain ⟨a, ha⟩ := h.outbound
  obtain ⟨b, hb⟩ := k.outbound
  refine ⟨k.waiting.trans h.waiting, ⟨a ++ b, by rw [hb, ha, List.append_assoc]⟩, k.pendingSet.trans h.pendingSet, ?_,
    k.overrun.trans h.overrun, k.period.trans h.period, k.sdo.trans h.sdo⟩
  intro i hi
  rw [k.deferred i (by rw [h.deferred i hi, hi]), h.deferred i hi]

theorem Lnk.grantReply_granted {l m : Lnk} (h : l.grantReply = some m) : l.Granted m := by
  unfold Lnk.grantReply at h
  split at h
  · next i rest _ =>
    split at h
    · next k t b q r hd =>
      cases h
      refine ⟨rfl, ⟨_, rfl⟩, List.suffix_rfl, ?_, rfl, rfl, rfl⟩
      intro j hj
      refine Table.get_set_ne _ _ fun e => ?_
      subst e
      rw [hd] at hj
      cases hj
    · cases h; exact ⟨rfl, ⟨[], by simp⟩, List.suffix_rfl, fun _ _ => rfl, rfl, rfl, rfl⟩
  · split at h
    · split at h
      · cases h; exact ⟨rfl, ⟨[], by simp⟩, List.suffix_rfl, fun _ _ => rfl, rfl, rfl, rfl⟩
      · cases h
    · cases h

theorem Lnk.grantOne_granted {l m : Lnk} (h : l.grantOne = some m) : l.Granted m := by
  unfold Lnk.grantOne at h
  split at h
  · cases h
  · split at h
    · next n rest hn =>
      split at h
      · cases h
        exact ⟨rfl, ⟨_, rfl⟩, by rw [hn]; exact List.suffix_cons _ _, fun _ _ => rfl, rfl, rfl, rfl⟩
      · exact Lnk.grantReply_granted h
    · exact Lnk.grantReply_granted h

theorem Lnk.grantAll_granted (n : Nat) (l : Lnk) : l.Granted (l.grantAll n) := by
  induction n generalizing l with
  | zero => exact .refl l
  | succ n ih =>
    unfold Lnk.grantAll
    split
    · next m h => exact (Lnk.grantOne_granted h).trans (ih m)
    · exact .refl l

/-- The grants of R178 leave everything but LNK, and LNK but for what is granted. -/
theorem State.grantLink_granted (s : State) : s.lnk.Granted s.grantLink.lnk := by
  unfold State.grantLink
  split
  · exact Lnk.Granted.trans (m := s.lnk.collectReady)
      ⟨rfl, ⟨[], by simp [Lnk.collectReady]⟩, List.suffix_rfl, fun _ _ => rfl, rfl, rfl, rfl⟩ (Lnk.grantAll_granted 16 _)
  · exact .refl _

theorem State.grantLink_unchanged (s : State) : Unchanged [] s s.grantLink := by
  have h := s.grantLink_granted
  obtain ⟨m, e⟩ : ∃ m, s.grantLink = s.onLnk fun _ => m := by
    unfold State.grantLink
    split <;> exact ⟨_, rfl⟩
  intro p hp
  cases p
  case waiting => exact h.waiting
  case outbound => exact h.outbound
  case pendingSet => exact h.pendingSet
  case deferred => exact fun i hi => by rw [h.deferred i hi]
  case overrun => exact h.overrun
  case period => exact h.period
  case sdo => exact h.sdo
  all_goals rw [e]; clear h e; simp_all [Part.same]

theorem State.laneStart_unchanged (s : State) : Unchanged [] s s.laneStart := by
  unfold State.laneStart
  split
  · next hc =>
    split
    · exact .refl _ _
    · next f rest hq =>
      intro p hp
      cases p
      case lane =>
        simp only [Bool.and_eq_true, beq_iff_eq] at hc
        exact .inr ⟨hc.1.1.2, f, _, hq, rfl, by split <;> simp_all, by split <;> simp_all⟩
      all_goals simp_all [Part.same]
  · exact .refl _ _

theorem insertDeadline_filter (q : Deadline → Bool) (d : Deadline) (hd : q d = false) (l : List Deadline) :
    (insertDeadline d l).filter q = l.filter q := by
  induction l with
  | nil => simp [insertDeadline, hd]
  | cons e l ih =>
    unfold insertDeadline
    split
    · simp [hd]
    · simp only [List.filter_cons, ih]

theorem State.syncAbsence_unchanged (s : State) : Unchanged [] s s.syncAbsence := by
  unfold State.syncAbsence
  split
  · split
    · exact .refl _ _
    · intro p hp
      cases p
      case deadlines =>
        simp only [Part.same, Tmb.otherDeadlines, State.enter, State.withdraw, State.withdrawAll, State.onTmb_tmb]
        rw [insertDeadline_filter _ _ rfl, List.filter_filter]
        simp
      case fallen =>
        simp only [Part.same, Tmb.otherFallen, State.enter, State.withdraw, State.withdrawAll, State.onTmb_tmb]
      all_goals simp_all [Part.same, State.enter, State.withdraw, State.withdrawAll]
  · intro p hp
    cases p
    case deadlines =>
      simp only [Part.same, Tmb.otherDeadlines, State.withdraw, State.withdrawAll, State.onTmb_tmb]
      rw [List.filter_filter]
      simp
    case fallen =>
      simp only [Part.same, Tmb.otherFallen, State.withdraw, State.withdrawAll, State.onTmb_tmb]
    all_goals simp_all [Part.same, State.withdraw, State.withdrawAll]

/-- The end of an occurrence changes no part of the state beyond the grants, the lane's next start and the absence check's
entry. -/
theorem State.settle_unchanged (s : State) : Unchanged [] s s.settle :=
  ((s.grantLink_unchanged.append s.grantLink.laneStart_unchanged).append (State.syncAbsence_unchanged _)).append
    (State.newOccurrence_unchanged _)

end Sys2Proof.Machine
end

