-- ==== Sys2Proof/Laws/Requests.lean ====
section
/-! SUPPORT. How a request reaches its owner and is answered: what `take`, `requestOf`, the answers and the end of the occurrence do. -/

namespace Sys2Proof.Machine

/-! ## Occurrences -/

/-- An occurrence of a powered part is its effect, then the end of the occurrence. -/
theorem State.occur_of_powered {f : State → State} {s : State} (h : s.powered = true) : s.occur f = .next (f s).settle := by
  simp [State.occur, h]

theorem State.powered_of_active {s : State} (h : s.pwc.power = .active) : s.powered = true := by
  simp [State.powered, h]

theorem State.linkOpen_of_active {s : State} (h : s.pwc.power = .active) : s.linkOpen = true := by
  simp [State.linkOpen, h]

/-- The end of an occurrence, block by block: LNK's grants aside, only KLN's lane and TMB's absence entry can change. -/
@[simp] theorem State.settle_rmg (s : State) : s.settle.rmg = s.rmg := by
  simp only [State.settle, State.newOccurrence, State.syncAbsence, State.enter, State.withdraw, State.withdrawAll,
    State.laneStart, State.grantLink]
  repeat' split
  all_goals rfl

@[simp] theorem State.settle_srv (s : State) : s.settle.srv = s.srv := by
  simp only [State.settle, State.newOccurrence, State.syncAbsence, State.enter, State.withdraw, State.withdrawAll,
    State.laneStart, State.grantLink]
  repeat' split
  all_goals rfl

@[simp] theorem State.settle_aut (s : State) : s.settle.aut = s.aut := by
  simp only [State.settle, State.newOccurrence, State.syncAbsence, State.enter, State.withdraw, State.withdrawAll,
    State.laneStart, State.grantLink]
  repeat' split
  all_goals rfl

@[simp] theorem State.settle_thm (s : State) : s.settle.thm = s.thm := by
  simp only [State.settle, State.newOccurrence, State.syncAbsence, State.enter, State.withdraw, State.withdrawAll,
    State.laneStart, State.grantLink]
  repeat' split
  all_goals rfl

@[simp] theorem State.settle_wpc (s : State) : s.settle.wpc = s.wpc := by
  simp only [State.settle, State.newOccurrence, State.syncAbsence, State.enter, State.withdraw, State.withdrawAll,
    State.laneStart, State.grantLink]
  repeat' split
  all_goals rfl

@[simp] theorem State.settle_sto (s : State) : s.settle.sto = s.sto := by
  simp only [State.settle, State.newOccurrence, State.syncAbsence, State.enter, State.withdraw, State.withdrawAll,
    State.laneStart, State.grantLink]
  repeat' split
  all_goals rfl

@[simp] theorem State.settle_pwc (s : State) : s.settle.pwc = s.pwc := by
  simp only [State.settle, State.newOccurrence, State.syncAbsence, State.enter, State.withdraw, State.withdrawAll,
    State.laneStart, State.grantLink]
  repeat' split
  all_goals rfl

@[simp] theorem State.settle_pins (s : State) : s.settle.pins = s.pins := by
  simp only [State.settle, State.newOccurrence, State.syncAbsence, State.enter, State.withdraw, State.withdrawAll,
    State.laneStart, State.grantLink]
  repeat' split
  all_goals rfl

@[simp] theorem State.settle_pending (s : State) : s.settle.pending = s.pending := by
  simp only [State.settle, State.newOccurrence, State.syncAbsence, State.enter, State.withdraw, State.withdrawAll,
    State.laneStart, State.grantLink]
  repeat' split
  all_goals rfl

/-- LNK at the end of an occurrence is LNK with the grants of R178. -/
@[simp] theorem State.settle_lnk (s : State) : s.settle.lnk = s.grantLink.lnk := by
  simp only [State.settle, State.newOccurrence, State.syncAbsence, State.enter, State.withdraw, State.withdrawAll,
    State.laneStart]
  repeat' split
  all_goals rfl

/-! ## The executor -/

/-- LNK with the request taken: the waiting position is empty and the entries of the reply are reserved. -/
structure Lnk.Taken (need : Nat) (l m : Lnk) : Prop where
  waiting : m.waiting = none
  outbound : m.outbound = l.outbound
  reserved : need ≤ m.reserved
  room : l.outbound.length + l.reserved ≤ 8 → m.outbound.length + m.reserved ≤ 8
  pendingSet : m.pendingSet = l.pendingSet
  deferred : m.deferred = l.deferred
  readyOrder : m.readyOrder = l.readyOrder
  overrun : m.overrun = l.overrun
  period : m.period = l.period
  sdo : m.sdo = l.sdo

/-- A served request is taken, and only LNK changes. -/
theorem State.take_of_serves {c : Instr} {need : Nat} {s : State} (h : s.Serves c need) (hn : 1 ≤ need) :
    ∃ m, s.take c need = some (s.onLnk fun _ => m) ∧ s.lnk.Taken need m := by
  obtain ⟨hp, ⟨hw, hr⟩ | ⟨w, hw, hf, hr⟩⟩ := h
  · refine ⟨{ s.lnk with reserved := need }, ?_, ?_⟩
    · have : need ≤ s.lnk.free := by simp only [Lnk.free]; omega
      simp only [State.take, State.linkOpen_of_active hp, hw, this, if_true]
      simp only [State.onLnk, hw]
    · exact ⟨hw, rfl, Nat.le_refl _, fun _ => by simp only; omega, rfl, rfl, rfl, rfl, rfl, rfl⟩
  · refine ⟨{ s.lnk with waiting := none }, ?_, ?_⟩
    · simp only [State.take, State.linkOpen_of_active hp, hw, hf, hr, decide_true, Bool.and_self, if_true]
      rfl
    · exact ⟨rfl, rfl, hr, id, rfl, rfl, rfl, rfl, rfl, rfl⟩

/-- Whatever the executor takes, it changes LNK alone. -/
theorem State.take_onLnk {c : Instr} {need : Nat} {s t : State} (h : s.take c need = some t) :
    ∃ m, t = s.onLnk fun _ => m := by
  unfold State.take at h
  split at h
  · split at h
    · split at h
      · cases h; exact ⟨_, rfl⟩
      · cases h
    · split at h
      · cases h; exact ⟨_, rfl⟩
      · cases h
  · cases h

theorem State.arrive_unchanged (c : Instr) (s : State) : Unchanged [.waiting, .overrun] s (s.arrive c) := by
  unfold State.arrive
  split
  · split
    · intro p hp; cases p <;> simp_all [Part.same]
    · split
      · exact .refl _ _
      · intro p hp; cases p <;> simp_all [Part.same]
  · exact .refl _ _

theorem State.taken_unchanged {need : Nat} {s : State} {m : Lnk} (h : s.lnk.Taken need m) :
    Unchanged [.waiting] s (s.onLnk fun _ => m) := by
  intro p hp
  cases p <;> simp_all [Part.same, h.outbound, h.pendingSet, h.deferred, h.overrun, h.period, h.sdo]

/-- A served request below WIPING that passes its checks has its own effect, from the state with the request taken. -/
theorem State.requestOf_accepts {need : Nat} {kind : Byte} {h : Header} {c : Instr} {checks : State → List (Bool × ResultCode)}
    {act : State → State} {s : State} (hs : s.Serves c need) (hn : 1 ≤ need) (hw : s.thm.level ≠ .wiping)
    (hc : ∀ m, judge (checks (s.onLnk fun _ => m)) = none) :
    ∃ m, s.lnk.Taken need m ∧ s.requestOf need c kind h checks act = .next (act (s.onLnk fun _ => m)).settle := by
  obtain ⟨m, hm, ht⟩ := State.take_of_serves hs hn
  refine ⟨m, ht, ?_⟩
  simp only [State.requestOf, State.occur_of_powered (State.powered_of_active hs.1), hm, State.onLnk_thm, hw, if_false, hc m]

theorem State.request_accepts {kind : Byte} {h : Header} {c : Instr} {checks : State → List (Bool × ResultCode)}
    {act : State → State} {s : State} (hs : s.Serves c 1) (hw : s.thm.level ≠ .wiping)
    (hc : ∀ m, judge (checks (s.onLnk fun _ => m)) = none) :
    ∃ m, s.lnk.Taken 1 m ∧ s.request c kind h checks act = .next (act (s.onLnk fun _ => m)).settle :=
  State.requestOf_accepts hs (Nat.le_refl 1) hw hc

theorem State.requestAlways_accepts {kind : Byte} {h : Header} {c : Instr} {checks : State → List (Bool × ResultCode)}
    {act : State → State} {s : State} (hs : s.Serves c 1)
    (hc : ∀ m, judge (checks (s.onLnk fun _ => m)) = none) :
    ∃ m, s.lnk.Taken 1 m ∧ s.requestAlways c kind h checks act = .next (act (s.onLnk fun _ => m)).settle := by
  obtain ⟨m, hm, ht⟩ := State.take_of_serves hs (Nat.le_refl 1)
  refine ⟨m, ht, ?_⟩
  simp only [State.requestAlways, State.occur_of_powered (State.powered_of_active hs.1), hm, hc m]

/-- A served request below WIPING that fails a check is answered with that check's code, and has no effect. -/
theorem State.requestOf_refuses {need : Nat} {kind : Byte} {h : Header} {c : Instr} {checks : State → List (Bool × ResultCode)}
    {act : State → State} {s : State} {code : ResultCode} (hs : s.Serves c need) (hn : 1 ≤ need)
    (hw : s.thm.level ≠ .wiping) (hc : ∀ m, judge (checks (s.onLnk fun _ => m)) = some code) :
    ∃ m, s.lnk.Taken need m ∧
      s.requestOf need c kind h checks act = .next ((s.onLnk fun _ => m).answer kind h.tag (.plain code)).settle := by
  obtain ⟨m, hm, ht⟩ := State.take_of_serves hs hn
  refine ⟨m, ht, ?_⟩
  simp only [State.requestOf, State.occur_of_powered (State.powered_of_active hs.1), hm, State.onLnk_thm, hw, if_false, hc m]

/-- A served request in WIPING is answered WIPING, and has no effect (R131). -/
theorem State.requestOf_wiping {need : Nat} {kind : Byte} {h : Header} {c : Instr} {checks : State → List (Bool × ResultCode)}
    {act : State → State} {s : State} (hs : s.Serves c need) (hn : 1 ≤ need) (hw : s.thm.level = .wiping) :
    ∃ m, s.lnk.Taken need m ∧
      s.requestOf need c kind h checks act = .next ((s.onLnk fun _ => m).answer kind h.tag (.plain .wiping)).settle := by
  obtain ⟨m, hm, ht⟩ := State.take_of_serves hs hn
  refine ⟨m, ht, ?_⟩
  simp only [State.requestOf, State.occur_of_powered (State.powered_of_active hs.1), hm, State.onLnk_thm, hw, if_true]

/-! ## Answers -/

/-- What has been answered stays answered at the end of the occurrence. -/
theorem State.RepliedAll.settle {kind tag : Byte} {rs : List Reply} {s t : State} (h : s.RepliedAll kind tag rs t) :
    s.RepliedAll kind tag rs t.settle := by
  obtain ⟨hw, more, ho⟩ := h
  have g := t.grantLink_granted
  obtain ⟨more', ho'⟩ := g.outbound
  exact ⟨by rw [State.settle_lnk, g.waiting, hw], more ++ more', by rw [State.settle_lnk, ho', ho, List.append_assoc]⟩

/-- An answer from a state whose outbound queue is that of `s`, the waiting position empty. -/
theorem State.replied_answer {kind tag : Byte} {r : Reply} {s t : State} (hw : t.lnk.waiting = none)
    (ho : t.lnk.outbound = s.lnk.outbound) : s.Replied kind tag r (t.answer kind tag r) :=
  ⟨hw, [], by simp [State.answer, ho]⟩

/-- The lowest free entry is free, and every entry below it is in use. -/
theorem Table.lowest_some {α : Type} {n : Nat} {t : Table α n} {p : α → Bool} {i : Fin n} (h : t.lowest p = some i) :
    p (t.get i) = true ∧ ∀ j, j < i → p (t.get j) = false := by
  unfold Table.lowest at h
  rw [List.find?_eq_some_iff_getElem] at h
  obtain ⟨h1, k, hk, hi, hj⟩ := h
  refine ⟨h1, fun j hji => ?_⟩
  simp only [List.getElem_finRange] at hi
  have hv : k = i.val := by rw [← hi]; simp
  have := hj j.val (by rw [hv]; exact hji)
  simpa using this

/-- A deferred-reply entry taken in state WORKING stays so to the end of the occurrence. -/
theorem State.Deferring.settle {kind tag : Byte} {b : Block} {s t : State} (h : s.Deferring kind tag b t) :
    s.Deferring kind tag b t.settle := by
  obtain ⟨hw, i, d, h1, h2, h3, h4, h5, h6, h7⟩ := h
  have g := t.grantLink_granted
  refine ⟨by rw [State.settle_lnk, g.waiting, hw], i, d, h1, h2, ?_, h4, h5, h6, h7⟩
  rw [State.settle_lnk, g.deferred i (by rw [h3, h7]), h3]

/-- A step that leaves the waiting position and the WORKING entries leaves an entry just taken in its place. -/
theorem State.Deferring.step {kind tag : Byte} {b : Block} {e : List Part} {s t u : State}
    (h : s.Deferring kind tag b t) (k : Unchanged e t u) (h1 : Part.waiting ∉ e := by decide)
    (h2 : Part.deferred ∉ e := by decide) : s.Deferring kind tag b u := by
  obtain ⟨hw, i, d, d1, d2, d3, d4, d5, d6, d7⟩ := h
  have e1 := k .waiting h1
  have e2 := k .deferred h2 i (by rw [d3, d7])
  rw [d3] at e2
  obtain ⟨d', hd', hp⟩ := Option.map_eq_some_iff.mp e2
  refine ⟨e1.trans hw, i, d', d1, d2, hd', ?_, ?_, ?_, ?_⟩
  · rw [← d4]; exact show d'.plain.kind = d.plain.kind by rw [hp]
  · rw [← d5]; exact show d'.plain.tag = d.plain.tag by rw [hp]
  · rw [← d6]; exact show d'.plain.owner = d.plain.owner by rw [hp]
  · have := isReady_plain (some d')
    rw [Option.map_some, hp] at this
    rw [← this]
    exact (isReady_plain (some d)).trans d7

/-- A request that takes an entry to wait for writes takes the lowest free one. -/
theorem State.deferring_deferWrites {kind : Byte} {h : Header} {b : Block} {range : Option RangeIx} {r : RecordId}
    {rs : List RecordId} {lock : Option RangeIx} {done fault : Reply} {s t : State} (hw : t.lnk.waiting = none)
    (hd : t.lnk.deferred = s.lnk.deferred) (hf : s.freeDeferred.isSome) :
    s.Deferring kind h.tag b (t.deferWrites kind h b range (r :: rs) lock done fault) := by
  obtain ⟨i, hi⟩ := Option.isSome_iff_exists.mp hf
  have hi' : t.freeDeferred = some i := by simpa [State.freeDeferred, hd] using hi
  obtain ⟨h1, h2⟩ := Table.lowest_some (show s.lnk.deferred.lowest Option.isNone = some i from hi)
  refine ⟨?_, i, { kind := kind, tag := h.tag, owner := b, range := range
                   state := .working (.writes (waitsFor (r :: rs)) lock done fault) }, by simpa using h1, fun j hj => ?_, ?_,
    rfl, rfl, rfl, rfl⟩
  · simp [State.deferWrites, hi', State.defer, hw]
  · have := h2 j hj
    cases h : s.lnk.deferred.get j <;> simp_all
  · simp only [State.deferWrites, hi', State.defer, State.onLnk_lnk, Table.get_set_self]

/-! ## Marks -/

/-- The content of a record is written into that record. -/
@[simp] theorem State.content_id (s : State) (r : RecordId) : (s.content r).id = r := by cases r <;> rfl

theorem insertDirty_mem (d e : DirtyEntry) (l : List DirtyEntry) : e ∈ insertDirty d l ↔ e = d ∨ e ∈ l := by
  induction l with
  | nil => simp [insertDirty]
  | cons a l ih =>
    unfold insertDirty
    split
    · simp
    · simp only [List.mem_cons, ih]; tauto

/-- After a mark the record is on the dirty list. -/
theorem markDirty_mem (r : RecordId) (urgent : Bool) (now : Nat) (l : List DirtyEntry) :
    ∃ e ∈ markDirty r urgent now l, e.record = r := by
  unfold markDirty
  split
  · next e he =>
    have hr : e.record = r := by simpa using List.find?_some he
    split
    · exact ⟨_, (insertDirty_mem _ _ _).mpr (.inl rfl), hr⟩
    · exact ⟨e, List.mem_of_find?_eq_some he, hr⟩
  · exact ⟨_, (insertDirty_mem _ _ _).mpr (.inl rfl), rfl⟩

/-- A mark keeps every other record on the dirty list. -/
theorem markDirty_keeps {q : RecordId} (r : RecordId) (urgent : Bool) (now : Nat) {l : List DirtyEntry}
    (h : ∃ e ∈ l, e.record = q) : ∃ e ∈ markDirty r urgent now l, e.record = q := by
  by_cases hq : q = r
  · subst hq; exact markDirty_mem _ _ _ _
  · obtain ⟨e, he, hr⟩ := h
    refine ⟨e, ?_, hr⟩
    unfold markDirty
    split
    · split
      · refine (insertDirty_mem _ _ _).mpr (.inr ?_)
        simp only [dropDirty, List.mem_filter]
        exact ⟨he, by simp [hr, hq]⟩
      · exact he
    · exact (insertDirty_mem _ _ _).mpr (.inr he)

theorem State.startWaits_sto (r : RecordId) (s : State) : (s.startWaits r).sto = s.sto := rfl

/-- The start of the next operation leaves a marked record marked: on the list, or in flight (R157). -/
theorem State.Marked.beginOp {s : State} {q : RecordId} (h : s.Marked q) : s.beginOp.Marked q := by
  unfold State.beginOp
  split
  · next hc =>
    have hi : s.sto.inFlight = none := by
      simp only [Bool.and_eq_true, Option.isNone_iff_eq_none] at hc
      exact hc.2
    rcases h with h | ⟨c, a, b, h, -⟩
    · split
      · exact .inl h
      · next r _ =>
        by_cases hq : r = q
        · exact .inr ⟨_, _, _, rfl, by rw [← hq]; exact s.content_id r⟩
        · obtain ⟨e, he, hr⟩ := h
          refine .inl ⟨e, ?_, hr⟩
          simp only [State.startWaits_sto, State.onSto_sto, dropDirty, List.mem_filter]
          exact ⟨he, by simp [hr, Ne.symm hq]⟩
      · obtain ⟨e, he, hr⟩ := h
        split
        · next hd => rw [hd] at he; cases he
        · next d rest hd =>
          rw [hd, List.mem_cons] at he
          rcases he with rfl | he
          · exact .inr ⟨_, _, _, rfl, by rw [← hr]; exact s.content_id _⟩
          · exact .inl ⟨e, he, hr⟩
    · rw [hi] at h; cases h
  · exact h

theorem State.marked_markAs (urgent : Bool) (r : RecordId) (s : State) : (s.markAs urgent r).Marked r :=
  State.Marked.beginOp (.inl (markDirty_mem _ _ _ _))

theorem State.marked_mark (r : RecordId) (s : State) : (s.mark r).Marked r := s.marked_markAs _ r

theorem State.Marked.mark {s : State} {q : RecordId} (h : s.Marked q) (r : RecordId) : (s.mark r).Marked q := by
  refine State.Marked.beginOp ?_
  rcases h with h | h
  · exact .inl (markDirty_keeps _ _ _ h)
  · exact .inr h

theorem State.Marked.markAll {s : State} {q : RecordId} (h : s.Marked q) (rs : List RecordId) :
    (s.markAll rs).Marked q := by
  induction rs generalizing s with
  | nil => exact h
  | cons r rs ih => exact ih (h.mark r)

/-- Every record marked in one occurrence is on the dirty list or in flight at its end. -/
theorem State.marked_markAll {rs : List RecordId} {r : RecordId} (hr : r ∈ rs) (s : State) : (s.markAll rs).Marked r := by
  induction rs generalizing s with
  | nil => cases hr
  | cons q rs ih =>
    rcases List.mem_cons.mp hr with rfl | hr
    · exact (s.marked_mark r).markAll rs
    · exact ih hr _

theorem State.Marked.of_sto {s t : State} {r : RecordId} (h : s.Marked r) (e : t.sto = s.sto) : t.Marked r := by
  rcases h with h | h
  · exact .inl (e ▸ h)
  · exact .inr (e ▸ h)

end Sys2Proof.Machine
end

