-- ==== Sys2Proof/Laws/Commands.lean ====
section
/-! SUPPORT. The commands by their shape: which are requests through the executor, and which are occurrences. -/

namespace Sys2Proof.Machine

/-- The commands that move a line or the supply: not occurrences of the whole state as it stands. -/
def movesALine : Instr → Bool
  | .coldStart | .powerLoss | .dpwrRise | .dpwrFall | .haltRise | .haltFall | .selFall _ | .inboundFrame _ _ | .readPeriod _ _
  | .wakePulse => true
  | _ => false

/-- Every request that WIPING refuses goes through `requestOf`, with the entries its reply needs. -/
theorem exec_requestOf {c : Instr} {kind : Byte} {h : Header} (hr : requestOf c = some (kind, h))
    (ha : answeredInWiping kind = false) :
    ∃ need checks act, (∀ s, exec c s = s.requestOf need c kind h checks act) ∧ entriesNeeded kind = need := by
  cases c
  case listRanges => cases hr; exact ⟨2, _, _, fun _ => rfl, by decide⟩
  all_goals
    first
      | (cases hr; done)
      | (cases hr; exact absurd ha (by decide))
      | (cases hr; exact ⟨1, _, _, fun _ => rfl, by decide⟩)

/-- The requests that WIPING answers as any other level does. -/
theorem exec_requestAlways {c : Instr} {kind : Byte} {h : Header} (hr : requestOf c = some (kind, h))
    (ha : answeredInWiping kind = true) : ∃ checks act, ∀ s, exec c s = s.requestAlways c kind h checks act := by
  cases c
  all_goals
    first
      | (cases hr; done)
      | (cases hr; exact absurd ha (by decide))
      | (cases hr; exact ⟨_, _, fun _ => rfl⟩)

/-- Every command that moves no line and not the supply is one occurrence. -/
theorem exec_occur {c : Instr} (hc : movesALine c = false) : ∃ f, ∀ s, exec c s = s.occur f := by
  cases c <;> first | (cases hc; done) | exact ⟨_, fun _ => rfl⟩

end Sys2Proof.Machine
end

