-- ==== Sys2Proof/Laws/FramesLocks.lean ====
section
/-! SUPPORT. Frames of the operations over ranges, keys, slots, the lane, verdicts, authorities and the threat level. -/

namespace Sys2Proof.Machine

/-! ## Folds -/

/-- A fold of steps that each concern the same parts concerns them alone. -/
theorem Unchanged.foldl {α : Type} {e : List Part} (f : State → α → State) (h : ∀ s a, Unchanged e s (f s a))
    (l : List α) (s : State) : Unchanged e s (l.foldl f s) := by
  induction l generalizing s with
  | nil => exact .refl _ _
  | cons a l ih => exact (h s a).trans (ih _) (List.Subset.refl _) (List.Subset.refl _)

/-! ## Ranges, keys, slots -/

theorem State.onRange_unchanged (r : RangeIx) (f : RangeEntry → RangeEntry) (s : State) :
    Unchanged [.ranges] s (s.onRange r f) := by
  intro p hp; cases p <;> simp_all [Part.same, State.onRange]

theorem State.onSlot_unchanged (i : SlotIx) (f : Slot → Slot) (s : State) : Unchanged [.slots] s (s.onSlot i f) := by
  intro p hp; cases p <;> simp_all [Part.same, State.onSlot]

theorem State.cacheKey_unchanged (r : RangeIx) (k : Option Key) (s : State) :
    Unchanged [.rangeKeys] s (s.cacheKey r k) := by
  intro p hp; cases p <;> simp_all [Part.same, State.cacheKey]

theorem State.removeSlotField_unchanged (r : RangeIx) (i : SlotIx) (s : State) :
    Unchanged [.ranges] s (s.removeSlotField r i) := s.onRange_unchanged _ _

theorem State.assignSlot_unchanged (i : SlotIx) (r : RangeIx) (s : State) :
    Unchanged [.slots, .lane, .ranges] s (s.assignSlot i r) := by
  intro p hp; cases p <;> simp_all [Part.same, State.assignSlot, State.onSlot, State.onRange]

theorem State.evict_unchanged (i : SlotIx) (r : RangeIx) (s : State) :
    Unchanged [.slots, .lane, .ranges] s (s.evict i r) := by
  have h (t : State) (f : Slot → Slot) (g : List LaneFrame) (e : RangeEntry → RangeEntry) :
      Unchanged [.slots, .lane, .ranges] t
        (((t.onSlot i f).onKln fun k => { k with queue := k.queue ++ g }).onRange r e) := by
    intro p hp; cases p <;> simp_all [Part.same, State.onSlot, State.onRange]
  unfold State.evict
  split
  · exact (s.removeSlotField_unchanged _ _).trans (h _ _ _ _)
  · exact h _ _ _ _

theorem State.allocate_unchanged {r : RangeIx} {s t : State} (h : s.allocate r = some t) :
    Unchanged [.slots, .lane, .ranges] s t := by
  unfold State.allocate at h
  split at h
  · cases h; exact s.assignSlot_unchanged _ _
  · split at h
    · cases h; exact s.evict_unchanged _ _
    · cases h

theorem State.eagerLoad_unchanged (r : RangeIx) (s : State) : Unchanged [.slots, .lane, .ranges] s (s.eagerLoad r) := by
  unfold State.eagerLoad
  split
  · exact .refl _ _
  · split
    · exact s.assignSlot_unchanged _ _
    · exact .refl _ _

theorem State.eagerLoads_unchanged (opened : List RangeIx) (s : State) :
    Unchanged [.slots, .lane, .ranges] s (s.eagerLoads opened) := by
  refine Unchanged.foldl _ (fun s r => ?_) _ _
  split
  · exact s.eagerLoad_unchanged r
  · exact .refl _ _

theorem State.openWith_unchanged (r : RangeIx) (k : Key) (lock : LockState) (s : State) :
    Unchanged [.rangeKeys, .ranges] s (s.openWith r k lock) :=
  ((s.cacheKey_unchanged r _).append (State.onRange_unchanged _ _ _)).mono

/-- What opening without sign-in concerns (R16). -/
def Part.openings : List Part := [.rangeKeys, .ranges, .faulty, .slots, .lane, .mapGen]

theorem openPlainStep_unchanged (from_ : LockState → Bool) (acc : State × List RangeIx) (r : RangeIx) :
    Unchanged [.rangeKeys, .ranges, .faulty] acc.1 (openPlainStep from_ acc r).1 := by
  unfold openPlainStep
  split
  · split
    · exact (acc.1.openWith_unchanged _ _ _).mono
    · exact (acc.1.addFaulty_unchanged _).mono
  · exact .refl _ _

theorem openPlainFold_unchanged (from_ : LockState → Bool) (rs : List RangeIx) (acc : State × List RangeIx) :
    Unchanged [.rangeKeys, .ranges, .faulty] acc.1 (rs.foldl (openPlainStep from_) acc).1 := by
  induction rs generalizing acc with
  | nil => exact .refl _ _
  | cons r rs ih => exact (openPlainStep_unchanged from_ acc r).trans (ih _)

theorem State.openPlain_unchanged (from_ : LockState → Bool) (rs : List RangeIx) (s : State) :
    Unchanged Part.openings s (s.openPlain from_ rs) := by
  have h := openPlainFold_unchanged from_ rs (s, [])
  unfold State.openPlain
  simp only
  split
  · exact h.mono
  · exact ((h.append (State.eagerLoads_unchanged _ _)).append (State.bump_unchanged _)).mono

theorem State.finishLock_unchanged (r : RangeIx) (s : State) :
    Unchanged [.rangeKeys, .ranges, .deferred] s (s.finishLock r) :=
  (((s.cacheKey_unchanged r none).append (State.onRange_unchanged _ _ _)).append (State.onWork_unchanged _ _)).mono

/-- What the completion of a clear concerns (R19, R54). -/
def Part.clears : List Part := .deferred :: Part.openings

theorem State.clearComplete_unchanged (i : SlotIx) (s : State) : Unchanged Part.clears s (s.clearComplete i) := by
  unfold State.clearComplete
  split
  · split
    · exact (((s.finishLock_unchanged _).append (State.bump_unchanged _)).append (State.openPlain_unchanged _ _ _)).mono
    · exact (s.removeSlotField_unchanged _ _).mono
  · exact .refl _ _

theorem State.onLane_unchanged (f : List LaneFrame → List LaneFrame) (s : State) :
    Unchanged [.lane] s (s.onKln fun k => { k with queue := f k.queue }) := by
  intro p hp; cases p <;> simp_all [Part.same]

theorem State.clearRequest_unchanged (r : RangeIx) (s : State) : Unchanged Part.clears s (s.clearRequest r) := by
  unfold State.clearRequest
  split
  · exact .refl _ _
  · next i _ =>
    split
    · exact ((s.onSlot_unchanged _ _).append (State.onLane_unchanged (· ++ _) _)).mono
    · split
      · exact (((s.onLane_unchanged (unqueue .load i)).append (State.onSlot_unchanged _ _ _)).append
          (State.clearComplete_unchanged _ _)).mono
      · exact ((s.onSlot_unchanged _ _).append (State.onLane_unchanged (· ++ _) _)).mono
    · split
      · exact ((s.onLane_unchanged (unqueue .load i)).append (State.onSlot_unchanged _ _ _)).mono
      · exact .refl _ _
    · exact .refl _ _
    · exact .refl _ _

theorem State.normalLock_unchanged (r : RangeIx) (s : State) : Unchanged Part.clears s (s.normalLock r) := by
  unfold State.normalLock
  split
  · exact ((s.cacheKey_unchanged r none).append (State.onRange_unchanged _ _ _)).mono
  · simp only
    split
    · exact ((s.onRange_unchanged r _).append (State.clearRequest_unchanged _ _)).mono
    · exact (s.onRange_unchanged r _).mono

/-! ## The purge -/

/-- What a purge concerns, but for its notice (R64). -/
def Part.purges : List Part := [.verdicts, .deadlines, .fallen, .badRun, .purgePulse] ++ Part.clears

theorem State.purgeEffects_unchanged (toFault : Bool) (s : State) : Unchanged Part.purges s (s.purgeEffects toFault) := by
  have h1 (f : Kln → Kln) (hf : ∀ k, (f k).hold = k.hold) :
      Unchanged [.slots, .lane, .badRun, .purgePulse] s (s.onKln f) := by
    intro p hp; cases p <;> simp_all [Part.same]
  have h2 (t : State) : Unchanged [.verdicts, .ranges] t ((t.onSrv fun v => { v with verdicts := [] }).onRmg fun m =>
      { m with ranges := m.ranges.imap fun _ e => { e with slot := none } }) := by
    intro p hp; cases p <;> simp_all [Part.same]
  unfold State.purgeEffects
  refine Unchanged.mono (d := [.slots, .lane, .badRun, .purgePulse] ++ [.deadlines, .fallen] ++ [.verdicts, .ranges] ++
    [.rangeKeys, .ranges, .deferred] ++ Part.openings) ?_
  refine Unchanged.append ?_ (State.openPlain_unchanged _ _ _)
  refine Unchanged.append ?_ (Unchanged.foldl (fun s r => State.finishLock r s) (fun s r => s.finishLock_unchanged r) _ _)
  refine Unchanged.append ?_ (h2 _)
  refine Unchanged.append ?_ (State.cancelAll_unchanged _ _)
  exact h1 _ fun _ => rfl

/-- What a notice concerns. -/
def Part.notices : List Part := [.outbound, .pendingSet, .period]

theorem State.purge_unchanged (c : VoidCause) (toFault : Bool) (s : State) :
    Unchanged (Part.notices ++ Part.purges) s (s.purge c toFault) :=
  (((s.purgeEffects_unchanged toFault).append (State.bump_unchanged _)).append (State.notify_unchanged _ _)).mono

theorem State.forceLocked_unchanged (q : RangeIx → RangeEntry → Bool) (s : State) :
    Unchanged [.ranges, .rangeKeys] s (s.forceLocked q) := by
  intro p hp; cases p <;> simp_all [Part.same, State.forceLocked]

theorem State.forceAll_unchanged (s : State) : Unchanged Part.purges s s.forceAll :=
  ((s.purgeEffects_unchanged false).append (State.forceLocked_unchanged _ _)).mono

theorem State.laneFault_unchanged (i : SlotIx) (f : LaneFault) (s : State) :
    Unchanged (Part.notices ++ Part.purges) s (s.laneFault i f) := by
  unfold State.laneFault
  split
  · exact (((s.removeSlotField_unchanged _ _).append (State.onSlot_unchanged _ _ _)).append
      (State.purge_unchanged _ _ _)).mono
  · exact ((s.onSlot_unchanged _ _).append (State.purge_unchanged _ _ _)).mono

/-! ## Verdicts -/

theorem State.unpinned_unchanged (i : SlotIx) (s : State) : Unchanged Part.clears s (s.unpinned i) := by
  unfold State.unpinned
  split
  · split
    · exact s.clearRequest_unchanged _
    · exact .refl _ _
  · exact .refl _ _

theorem State.dropVerdict_unchanged (v : Verdict) (s : State) :
    Unchanged ([.verdicts, .deadlines, .fallen] ++ Part.clears) s (s.dropVerdict v) := by
  have h1 (l : List Verdict) : Unchanged [.verdicts] s (s.onSrv fun t => { t with verdicts := l }) := by
    intro p hp; cases p <;> simp_all [Part.same]
  have h2 (f : Table Slot 8 → Table Slot 8) (t : State) :
      Unchanged [.slots] t (t.onKln fun k => { k with slots := f k.slots }) := by
    intro p hp; cases p <;> simp_all [Part.same]
  unfold State.dropVerdict
  refine Unchanged.mono (d := [.verdicts] ++ [.deadlines, .fallen] ++ [.slots] ++ Part.clears) ?_
  refine Unchanged.append ?_ (Unchanged.foldl (fun s i => State.unpinned i s) (fun s i => s.unpinned_unchanged i) _ _)
  refine Unchanged.append ?_ (h2 (Table.imap · fun i l =>
    if (passedSlots v.segments).contains i then { l with pins := l.pins - 1 } else l) _)
  refine Unchanged.append ?_ (State.cancel_unchanged _ _)
  exact h1 _

/-! ## Authorities and the derivation engine -/

theorem State.onAuthority_unchanged (a : AuthIx) (f : AuthorityRec → AuthorityRec) (s : State) :
    Unchanged [.authorities] s (s.onAuthority a f) := by
  intro p hp; cases p <;> simp_all [Part.same, State.onAuthority]

theorem State.setSignedIn_unchanged (a : AuthIx) (b : Bool) (s : State) :
    Unchanged [.authorities] s (s.setSignedIn a b) := by
  intro p hp; cases p <;> simp_all [Part.same, State.setSignedIn]

theorem State.leaveSet_unchanged (a : AuthIx) (s : State) :
    Unchanged [.authorities, .domainKey, .keks] s (s.leaveSet a) := by
  intro p hp; cases p <;> simp_all [Part.same, State.leaveSet, State.setSignedIn]

theorem State.emptySet_unchanged (s : State) : Unchanged [.authorities, .domainKey, .keks] s s.emptySet := by
  intro p hp; cases p <;> simp_all [Part.same, State.emptySet]

theorem State.setBackoff_unchanged (a : AuthIx) (s : State) : Unchanged [.deadlines, .fallen] s (s.setBackoff a) :=
  s.enter_unchanged _ _

theorem State.abortBackoff_unchanged (s : State) : Unchanged [.deadlines, .fallen] s s.abortBackoff := by
  unfold State.abortBackoff
  split
  · exact s.setBackoff_unchanged _
  all_goals exact .refl _ _

theorem State.setEngine_unchanged (e : Engine) (s : State) :
    Unchanged [.engine] s (s.onAut fun t => { t with engine := e }) := by
  intro p hp; cases p <;> simp_all [Part.same]

/-- What an abort of the engine's job concerns (R77). -/
def Part.aborts : List Part := [.deadlines, .fallen, .engine, .deferred]

theorem State.abortJob_unchanged (r : Reply) (s : State) : Unchanged Part.aborts s (s.abortJob r) :=
  ((s.abortBackoff_unchanged.append (State.setEngine_unchanged _ _)).append (State.answerJob_unchanged _ _)).mono

theorem State.abortForAlarm_unchanged (s : State) : Unchanged Part.aborts s s.abortForAlarm := by
  unfold State.abortForAlarm
  split
  · split
    · exact s.abortJob_unchanged _
    · exact .refl _ _
  · exact s.abortJob_unchanged _
  all_goals exact .refl _ _

theorem State.abortForStandby_unchanged (s : State) : Unchanged [.deadlines, .fallen, .engine] s s.abortForStandby := by
  unfold State.abortForStandby
  split
  · exact (s.abortBackoff_unchanged.append (State.setEngine_unchanged _ _)).mono
  · exact .refl _ _

/-! ## The threat level -/

theorem State.setLevel_unchanged (l : Level) (c : ThreatCause) (who : Option AuthIx) (s : State) :
    Unchanged [.level, .reports] s (s.setLevel l c who) := by
  intro p hp; cases p <;> simp_all [Part.same, State.setLevel]

theorem State.threatNotice_unchanged (l : Level) (c : ThreatCause) (who : Option AuthIx) (s : State) :
    Unchanged Part.notices s (s.threatNotice l c who) := s.notify_unchanged _

theorem State.setGrace_unchanged (g : Option Nat) (s : State) :
    Unchanged [.grace] s (s.onThm fun t => { t with grace := g }) := by
  intro p hp; cases p <;> simp_all [Part.same]

theorem State.clearGrace_unchanged (s : State) : Unchanged [.grace, .deadlines, .fallen] s s.clearGrace :=
  ((s.setGrace_unchanged none).append (State.cancel_unchanged _ _)).mono

/-- What WARY entry concerns (R103). -/
def Part.waryEntry : List Part := [.level, .reports, .operation, .dirty] ++ Part.notices ++ Part.clears

theorem State.enterWary_unchanged (k : TriggerKind) (s : State) : Unchanged Part.waryEntry s (s.enterWary k) := by
  refine Unchanged.mono (d := [.level, .reports] ++ Part.clears ++ [.mapGen] ++ Part.notices ++ Part.marks) ?_
  refine ((((s.setLevel_unchanged _ _ _).append (Unchanged.foldl _ (fun s r => ?_) _ _)).append
    (State.bump_unchanged _)).append (State.threatNotice_unchanged _ _ _ _)).append (State.mark_unchanged _ _)
  split
  · exact s.normalLock_unchanged r
  · exact .refl _ _

/-- What phase 0 of the wipe concerns (R120). -/
def Part.phaseZeros : List Part :=
  [.engine, .authorities, .domainKey, .keks, .pairing, .rangeKeys, .grants, .wipe] ++ Part.purges

theorem State.phaseZero_unchanged (phase : WipePhase) (next : Option Bank) (resumed : Bool) (s : State) :
    Unchanged Part.phaseZeros s (s.phaseZero phase next resumed) := by
  have h1 (t : State) : Unchanged [.pairing] t (t.onAut fun u => { u with nonce := none }) := by
    intro p hp; cases p <;> simp_all [Part.same]
  have h2 (t : State) :
      Unchanged [.rangeKeys, .grants] t (t.onRmg fun m => { m with rangeKeys := .fill none, grants := [] }) := by
    intro p hp; cases p <;> simp_all [Part.same]
  have h3 (t : State) (f : Wpc → Wpc) : Unchanged [.wipe] t (t.onWpc f) := by
    intro p hp; cases p <;> simp_all [Part.same]
  exact (((((((((s.forceAll_unchanged.append (State.abortBackoff_unchanged _)).append (State.setEngine_unchanged _ _)).append
    (State.answerJob_unchanged _ _)).append (State.emptySet_unchanged _)).append (State.withdrawAll_unchanged _ _)).append
    (h1 _)).append (h2 _)).append (State.onWork_unchanged _ _)).append (h3 _ _)).mono

/-- What WIPING entry concerns (R108, R120). -/
def Part.wipingEntry : List Part :=
  [.grace, .level, .reports, .operation, .dirty] ++ Part.notices ++ Part.phaseZeros

theorem State.enterWiping_unchanged (c : ThreatCause) (s : State) : Unchanged Part.wipingEntry s (s.enterWiping c) :=
  (((((((s.clearGrace_unchanged.append (State.setLevel_unchanged _ _ _ _)).append (State.phaseZero_unchanged _ _ _ _)).append
    (State.bump_unchanged _)).append (State.threatNotice_unchanged _ _ _ _)).append (State.notify_unchanged _ _)).append
    (State.mark_unchanged _ _))).mono

theorem State.enterAlarm_unchanged (k : TriggerKind) (s : State) : Unchanged Part.wipingEntry s (s.enterAlarm k) := by
  have h := (((((s.setLevel_unchanged .alarm (.trigger k) none).append (State.forceAll_unchanged _)).append
    (State.emptySet_unchanged _)).append (State.abortForAlarm_unchanged _)).append
    (State.setGrace_unchanged (some (s.pscNow + s.sto.policy.grace)) _)).append
    (State.enter_unchanged .grace (s.pscNow + s.sto.policy.grace) _)
  unfold State.enterAlarm
  simp only
  split
  · exact (h.append (State.enterWiping_unchanged _ _)).mono
  · exact (((h.append (State.bump_unchanged _)).append (State.threatNotice_unchanged _ _ _ _)).append
      (State.notify_unchanged _ _)).append (State.mark_unchanged _ _) |>.mono

/-- A capture concerns its record, the notice of it and its mark (R112). -/
theorem State.capture_unchanged (k : TriggerKind) (s : State) :
    Unchanged ([.captures, .reports] ++ Part.marks ++ Part.notices) s (s.capture k) := by
  unfold State.capture
  split
  · refine Unchanged.mono (d := [.captures] ++ Part.marks) (Unchanged.append ?_ (State.mark_unchanged _ _))
    intro p hp; cases p <;> simp_all [Part.same]
  · refine Unchanged.append (Unchanged.append ?_ (State.mark_unchanged _ _)) (State.notify_unchanged _ _)
    intro p hp; cases p <;> simp_all [Part.same]

/-- What a trigger taken concerns (R97). -/
def Part.triggers : List Part := .captures :: Part.wipingEntry

theorem State.takeTrigger_unchanged (k : TriggerKind) (s : State) : Unchanged Part.triggers s (s.takeTrigger k) := by
  have h := s.capture_unchanged k
  unfold State.takeTrigger
  simp only
  split
  · exact h.mono
  · split
    · exact h.mono
    · split
      · exact h.mono
      · exact (h.append (State.enterWary_unchanged _ _)).mono
      · exact (h.append (State.enterAlarm_unchanged _ _)).mono
      · exact (h.append (State.enterWiping_unchanged _ _)).mono

end Sys2Proof.Machine
end

