-- ==== Sys2Proof/Laws/PerInstr.lean ====
section
/-! SUPPORT. The per-instruction family EncodedFields: no word of the opcode table, which gives no row bits, spells a command, and a
request's kind is one of R175's. One lemma for each command. -/

namespace Sys2Proof.Laws.EncodedFields

/-- No word spells the command (log 41), and if it is a request, its kind is in R175's table. -/
def Statement (i : Instr) : Prop :=
  (∀ nbits w, decodeTableWord nbits w ≠ some i) ∧
    ∀ kind h, requestOf i = some (kind, h) → requestKinds.contains kind = true

/-- A command that is no request has the statement. -/
theorem of_event {i : Instr} (h : requestOf i = none) : Statement i :=
  ⟨fun _ _ => by simp [decodeTableWord], fun _ _ e => by rw [h] at e; cases e⟩

/-- A request of a kind in the table has the statement. -/
theorem of_request {i : Instr} {kind : Byte} {h : Header} (e : requestOf i = some (kind, h))
    (k : requestKinds.contains kind = true) : Statement i :=
  ⟨fun _ _ => by simp [decodeTableWord], fun _ _ e' => by rw [e] at e'; cases e'; exact k⟩

theorem coldStart : Statement .coldStart := of_event rfl
theorem powerLoss : Statement .powerLoss := of_event rfl
theorem integrityScan : Statement .integrityScan := of_event rfl
theorem selHeldLow : Statement .selHeldLow := of_event rfl
theorem warmStartProceed : Statement .warmStartProceed := of_event rfl
theorem wakePulse : Statement .wakePulse := of_event rfl
theorem dpwrRise : Statement .dpwrRise := of_event rfl
theorem dpwrFall : Statement .dpwrFall := of_event rfl
theorem standby (h : Header) :
    Statement (.standby h) := of_request (h := h) rfl (by decide)
theorem restart (h : Header) (check : Nat) :
    Statement (.restart h check) := of_request (h := h) rfl (by decide)
theorem inboundFrame (bytes : List Byte) (whole : Bool) : Statement (.inboundFrame bytes whole) := of_event rfl
theorem readPeriod (clocked : Nat) (whole : Bool) : Statement (.readPeriod clocked whole) := of_event rfl
theorem linkReply : Statement .linkReply := of_event rfl
theorem identify (h : Header) :
    Statement (.identify h) := of_request (h := h) rfl (by decide)
theorem status (h : Header) :
    Statement (.status h) := of_request (h := h) rfl (by decide)
theorem readTime (h : Header) :
    Statement (.readTime h) := of_request (h := h) rfl (by decide)
theorem configure (h : Header) (acting : Nat) (items : List SettingItem) :
    Statement (.configure h acting items) := of_request (h := h) rfl (by decide)
theorem freeze (h : Header) :
    Statement (.freeze h) := of_request (h := h) rfl (by decide)
theorem setGuard (h : Header) (acting : Nat) (mode : Option GuardMode) :
    Statement (.setGuard h acting mode) := of_request (h := h) rfl (by decide)
theorem provision (h : Header) (admin : List Byte) (rescue : Option (List Byte)) (adminSet rescueSet : List Nat) :
    Statement (.provision h admin rescue adminSet rescueSet) := of_request (h := h) rfl (by decide)
theorem authenticate (h : Header) (authority : Nat) (credential : List Byte) :
    Statement (.authenticate h authority credential) := of_request (h := h) rfl (by decide)
theorem signOut (h : Header) (authority : Nat) :
    Statement (.signOut h authority) := of_request (h := h) rfl (by decide)
theorem setCredential (h : Header) (acting user : Nat) (credential : List Byte) (grantSet startupSet : List Nat) :
    Statement (.setCredential h acting user credential grantSet startupSet) := of_request (h := h) rfl (by decide)
theorem disableAuthority (h : Header) (acting target : Nat) :
    Statement (.disableAuthority h acting target) := of_request (h := h) rfl (by decide)
theorem grant (h : Header) (acting user range : Nat) :
    Statement (.grant h acting user range) := of_request (h := h) rfl (by decide)
theorem revoke (h : Header) (acting user range : Nat) :
    Statement (.revoke h acting user range) := of_request (h := h) rfl (by decide)
theorem pairChallenge (h : Header) :
    Statement (.pairChallenge h) := of_request (h := h) rfl (by decide)
theorem pairProve (h : Header) (proof : List Byte) :
    Statement (.pairProve h proof) := of_request (h := h) rfl (by decide)
theorem setPairing (h : Header) (acting : Nat) (secret token : Option (List Byte)) :
    Statement (.setPairing h acting secret token) := of_request (h := h) rfl (by decide)
theorem defineRange (h : Header) (acting : Nat) (geometry : Geometry) (flags : RangeFlags) :
    Statement (.defineRange h acting geometry flags) := of_request (h := h) rfl (by decide)
theorem modifyRange (h : Header) (acting index : Nat) (flags : RangeFlags) (geometry : Option Geometry) :
    Statement (.modifyRange h acting index flags geometry) := of_request (h := h) rfl (by decide)
theorem modifyRangeGeometry (h : Header) (acting index : Nat) (geometry : Geometry) :
    Statement (.modifyRangeGeometry h acting index geometry) := of_request (h := h) rfl (by decide)
theorem deleteRange (h : Header) (acting index : Nat) :
    Statement (.deleteRange h acting index) := of_request (h := h) rfl (by decide)
theorem listRanges (h : Header) (acting : Option Nat) :
    Statement (.listRanges h acting) := of_request (h := h) rfl (by decide)
theorem lockRange (h : Header) (acting index : Nat) (mode : Option LockMode) :
    Statement (.lockRange h acting index mode) := of_request (h := h) rfl (by decide)
theorem unlockRange (h : Header) (acting index : Nat) (mode : Option UnlockMode) :
    Statement (.unlockRange h acting index mode) := of_request (h := h) rfl (by decide)
theorem rekeyRange (h : Header) (acting index : Nat) :
    Statement (.rekeyRange h acting index) := of_request (h := h) rfl (by decide)
theorem resolve (h : Header) (start countLessOne : Nat) (kind : Option Access) :
    Statement (.resolve h start countLessOne kind) := of_request (h := h) rfl (by decide)
theorem release (h : Header) (ids : List Nat) :
    Statement (.release h ids) := of_request (h := h) rfl (by decide)
theorem readSlots (h : Header) (acting : Option Nat) :
    Statement (.readSlots h acting) := of_request (h := h) rfl (by decide)
theorem readCaptures (h : Header) :
    Statement (.readCaptures h) := of_request (h := h) rfl (by decide)
theorem clearCapture (h : Header) (acting : Nat) (kind : Option TriggerKind) :
    Statement (.clearCapture h acting kind) := of_request (h := h) rfl (by decide)
theorem wipe (h : Header) (acting : Option Nat) (token : Option (List Byte)) :
    Statement (.wipe h acting token) := of_request (h := h) rfl (by decide)
theorem verdictExpiry (id : Nat) : Statement (.verdictExpiry id) := of_event rfl
theorem laneFrameSent : Statement .laneFrameSent := of_event rfl
theorem loadAck (good : Bool) : Statement (.loadAck good) := of_event rfl
theorem clearAck (good : Bool) : Statement (.clearAck good) := of_event rfl
theorem ackTimeout : Statement .ackTimeout := of_event rfl
theorem syncError : Statement .syncError := of_event rfl
theorem purgePulseEnd : Statement .purgePulseEnd := of_event rfl
theorem haltRise : Statement .haltRise := of_event rfl
theorem haltFall : Statement .haltFall := of_event rfl
theorem derivationComplete : Statement .derivationComplete := of_event rfl
theorem backoffExpiry (authority : Nat) : Statement (.backoffExpiry authority) := of_event rfl
theorem pairingWindowExpiry : Statement .pairingWindowExpiry := of_event rfl
theorem trigger (kind : TriggerKind) : Statement (.trigger kind) := of_event rfl
theorem debouncerSettle (line : Line) : Statement (.debouncerSettle line) := of_event rfl
theorem absenceCheck : Statement .absenceCheck := of_event rfl
theorem graceExpiry : Statement .graceExpiry := of_event rfl
theorem bankErase (good wpcFirst : Bool) : Statement (.bankErase good wpcFirst) := of_event rfl
theorem recordWrite (good wpcFirst : Bool) : Statement (.recordWrite good wpcFirst) := of_event rfl
theorem tickBoundary (lines : Lines) : Statement (.tickBoundary lines) := of_event rfl
theorem pscPersistence : Statement .pscPersistence := of_event rfl
theorem crystalGap : Statement .crystalGap := of_event rfl
theorem crystalLoss : Statement .crystalLoss := of_event rfl
theorem crystalConfirmed : Statement .crystalConfirmed := of_event rfl
theorem calibrationWindowStart : Statement .calibrationWindowStart := of_event rfl
theorem calibrationCount (m : Nat) : Statement (.calibrationCount m) := of_event rfl
theorem switchToCrystal : Statement .switchToCrystal := of_event rfl
theorem calibrationDeadline : Statement .calibrationDeadline := of_event rfl
theorem uncalibratedWatch : Statement .uncalibratedWatch := of_event rfl
theorem stimulationDeadline : Statement .stimulationDeadline := of_event rfl
theorem stimulationPulseEnd : Statement .stimulationPulseEnd := of_event rfl
theorem selFall (sckHigh : Bool) : Statement (.selFall sckHigh) := of_event rfl

end Sys2Proof.Laws.EncodedFields
end

