-- ==== Sys2Proof/Tests/Slice0.lean ====
section
/-! SUPPORT. Tests: the refusals of WellFormed, the worked examples of the manual, one step of a few commands, and for each statement a
state that meets its hypotheses. -/

namespace Sys2Proof.Tests

open Sys2Proof.Machine

-- One theorem after another: decisions in parallel take a thread and its stack each.
set_option Elab.async false

/-! ## A small state -/

def hdr : Header := { tag := 7, sized := true, strap := false }

def cred : List Byte := [1, 2, 3]

/-- Flags of a range that locks, is concealed under WARY and sleeps. -/
def flags : RangeFlags := { lockEnabled := true, conceal := false, concealOnWary := true, lockOnStandby := true }

/-- A KEYED range whose key `n` is wrapped under the domain key. -/
def entry (start n : Nat) (lock : LockState) (slot : Option SlotIx) : RangeEntry :=
  { geometry := some { start := start, length := 50 }, flags := flags, keyState := .keyed, generation := n
    domainWrap := some (wrapped (.drawn 0) (.drawn n)), deviceWrap := none, lock := lock, slot := slot }

def credential (salt : Nat) : Credential :=
  { salt := salt, factor := 64, verifier := { credential := cred, salt := salt, factor := 64 } }

def authority (salt : Nat) (signedIn : Bool) (startup : List RangeIx) : Authority :=
  { kept := { enabled := true, failures := 0, limit := 10, startup := startup, credential := some (credential salt) }
    signedIn := signedIn }

def segment (first : Nat) (i : SlotIx) : Segment :=
  { first := first, count := 50, range := none, disposition := .pass i }

def slot (r : RangeIx) (g : Nat) : Slot :=
  { state := .loaded, occupant := some { range := r, generation := g }, next := none, pins := 1, lastUse := 3 }

def userEnvelope : Envelope :=
  { authority := 1, target := .range 1, wrapped := wrapped (.kek cred 1 64) (.drawn 1) }

/-- ACTIVE, PROVISIONED, CALM: ADMIN and USER1 signed in, USER2 not. Range 0 is OPEN and plain, 1 OPEN in slot 0, 2 LOCKED and
concealed, 3 READ_ONLY without a slot, 4 LOCKING in slot 1; a verdict on each slot. -/
def base : State :=
  { State.reset with
    pwc := { Pwc.cold with power := .active, stage := .done }
    aut := { Aut.bare with
      lifecycle := .provisioned, tryCount := 65535, secret := some 9
      auth := (((Table.fill { kept := .factory, signedIn := false }).set 0 (authority 0 true [])).set 1
        (authority 1 true [1])).set 2 (authority 2 false [3]) }
    rmg := { Rmg.bare with
      ranges := (((((Table.fill .bare).set 0 { RangeEntry.bare with
          keyState := .keyed, generation := 65535, domainWrap := some (wrapped (.drawn 0) (.drawn 10))
          deviceWrap := some (wrapped .device (.drawn 10)), lock := .opened }).set 1 (entry 100 1 .opened (some 0))).set 2
        { entry 200 2 .locked none with flags := { flags with conceal := true } }).set 3
        (entry 300 3 .readOnly none)).set 4 (entry 400 4 .locking (some 1))
      rangeKeys := ((((Table.fill none).set 0 (some (.drawn 10))).set 1 (some (.drawn 1))).set 3
        (some (.drawn 3))).set 4 (some (.drawn 4))
      domainKey := some (.drawn 0), keks := (Table.fill none).set 1 (some (.kek cred 1 64)), mapGen := 4294967295
      envelopes := ((Table.fill none).set 0 (some (domainEnvelope 0 (.kek cred 0 64) (.drawn 0)))).set 1
        (some userEnvelope) }
    kln := { Kln.bare with slots := ((Table.fill .bare).set 0 (slot 1 1)).set 1 (slot 4 4) }
    srv := { lastId := 65535, verdicts :=
      [{ id := 1, issued := 2000, expiry := 12240, segments := [segment 100 0] },
        { id := 65535, issued := 2001, expiry := 12241, segments := [segment 400 1] }] }
    tmb := { Tmb.cold with
      uptime := 2047, psc := some 1000, deadlines := [{ purpose := .verdict 1, due := 12240 },
        { purpose := .verdict 65535, due := 12241 }, { purpose := .persistence, due := 1001 }] } }

/-- The state after a command. -/
def after (c : Instr) (s : State) : State :=
  match exec c s with
  | .next t => t
  | .fault _ => s
  | .refused _ => s

/-- A request is taken up where the waiting position is empty with an entry free. -/
theorem takesUp_of {c : Instr} {s : State} (power : s.pwc.power = .active) (waiting : s.lnk.waiting = none)
    (room : s.lnk.outbound.length + s.lnk.reserved + 1 ≤ 8) (level : s.thm.level ≠ .wiping)
    (sized : c.sized = true := by rfl) : s.TakesUp c := ⟨⟨power, .inl ⟨waiting, room⟩⟩, level, sized⟩

theorem takesUp_base {c : Instr} (sized : c.sized = true := by rfl) : base.TakesUp c :=
  takesUp_of rfl rfl (by decide) (by decide) sized

theorem serves_base {c : Instr} : base.Serves c 1 := ⟨rfl, .inl ⟨rfl, by decide⟩⟩

/-- A request is served where it waits with its entries reserved. -/
theorem serves_waiting {c : Instr} {w : Waiting} {need : Nat} {s : State} (power : s.pwc.power = .active)
    (waiting : s.lnk.waiting = some w) (isFor : w.isFor c = true) (room : need ≤ s.lnk.reserved) : s.Serves c need :=
  ⟨power, .inr ⟨w, waiting, isFor, room⟩⟩

/-! ## WellFormed refuses -/

theorem test_refused_check_value : Instr.wellFormed (.restart hdr 65536) = false := by decide
theorem test_refused_empty_period : Instr.wellFormed (.inboundFrame [] true) = false := by decide
theorem test_refused_configure_authority : Instr.wellFormed (.configure hdr 256 []) = false := by decide
theorem test_refused_setting_value : Instr.wellFormed (.configure hdr 0 [⟨1, 4294967296⟩]) = false := by decide
theorem test_refused_items : Instr.wellFormed (.configure hdr 0 (List.replicate 49 ⟨1, 10⟩)) = false := by decide
theorem test_refused_guard_authority : Instr.wellFormed (.setGuard hdr 256 none) = false := by decide
theorem test_refused_provision_set : Instr.wellFormed (.provision hdr [1] none [256] []) = false := by decide
theorem test_refused_credential : Instr.wellFormed (.authenticate hdr 0 (List.replicate 241 0)) = false := by decide +kernel
theorem test_refused_authority : Instr.wellFormed (.signOut hdr 256) = false := by decide
theorem test_refused_user : Instr.wellFormed (.setCredential hdr 0 256 [1] [] []) = false := by decide
theorem test_refused_target : Instr.wellFormed (.disableAuthority hdr 0 256) = false := by decide
theorem test_refused_grant : Instr.wellFormed (.grant hdr 0 1 256) = false := by decide
theorem test_refused_revoke : Instr.wellFormed (.revoke hdr 0 256 1) = false := by decide
theorem test_refused_proof : Instr.wellFormed (.pairProve hdr (List.replicate 241 0)) = false := by decide +kernel
theorem test_refused_secret : Instr.wellFormed (.setPairing hdr 0 (some (List.replicate 241 0)) none) = false := by decide +kernel
theorem test_refused_geometry : Instr.wellFormed (.defineRange hdr 0 ⟨281474976710656, 1⟩ flags) = false := by decide
theorem test_refused_new_geometry : Instr.wellFormed (.modifyRange hdr 0 1 flags (some ⟨0, 281474976710656⟩)) = false := by
  decide
theorem test_refused_geometry_index : Instr.wellFormed (.modifyRangeGeometry hdr 0 256 ⟨0, 1⟩) = false := by decide
theorem test_refused_delete_index : Instr.wellFormed (.deleteRange hdr 0 256) = false := by decide
theorem test_refused_list_authority : Instr.wellFormed (.listRanges hdr (some 256)) = false := by decide
theorem test_refused_lock_index : Instr.wellFormed (.lockRange hdr 0 256 none) = false := by decide
theorem test_refused_unlock_index : Instr.wellFormed (.unlockRange hdr 0 256 none) = false := by decide
theorem test_refused_rekey_index : Instr.wellFormed (.rekeyRange hdr 0 256) = false := by decide
theorem test_refused_span_start : Instr.wellFormed (.resolve hdr 281474976710656 0 none) = false := by decide
theorem test_refused_span_count : Instr.wellFormed (.resolve hdr 0 65536 none) = false := by decide
theorem test_refused_verdict_id : Instr.wellFormed (.release hdr [65536]) = false := by decide
theorem test_refused_slots_authority : Instr.wellFormed (.readSlots hdr (some 256)) = false := by decide
theorem test_refused_capture_authority : Instr.wellFormed (.clearCapture hdr 256 none) = false := by decide
theorem test_refused_wipe_token : Instr.wellFormed (.wipe hdr none (some (List.replicate 241 0))) = false := by decide +kernel
theorem test_refused_expiry_id : Instr.wellFormed (.verdictExpiry 65536) = false := by decide
theorem test_refused_backoff : Instr.wellFormed (.backoffExpiry 8) = false := by decide
theorem test_refused_count : Instr.wellFormed (.calibrationCount 65536) = false := by decide

/-! ## What the manual works out -/

/-- R22, R28, R175: the payloads of GRANT (USER1, range 2, acting ADMIN) and of REKEY_RANGE spell their requests; a byte more spells
none, and such a frame is the one that a request of its kind and tag with a payload of the wrong size brings. -/
theorem test_payloads_spell :
    readRequest 0x15 7 [0, 1, 2] = some (.grant hdr 0 1 2) ∧ readRequest 0x26 7 [0, 5] = some (.rekeyRange hdr 0 5) ∧
    readRequest 0x26 7 [0, 5, 0] = none ∧ spells 0x26 7 [0, 5, 0] (.rekeyRange { hdr with sized := false } 9 9) = true ∧
    spells 0x26 7 [0, 5] (.rekeyRange hdr 0 6) = false ∧
    readRequest 0x20 7 [0, 0, 0, 0, 0, 2, 38, 0, 0, 0, 0, 0, 50, 1, 0, 1, 1] =
      some (.defineRange hdr 0 ⟨550, 50⟩ flags) := by decide +kernel

/-- No word of the opcode table spells a command: the table gives no row bits (log 41). -/
theorem test_no_word_decodes : decodeTableWord 8 0 = none ∧ State.reset.withFetchWord 8 0 = State.reset := by decide

/-- R82's table of delays. -/
theorem test_delays :
    (List.range 17).map delay = [0, 0, 0, 1, 2, 4, 8, 16, 32, 64, 128, 256, 512, 1024, 2048, 3600, 3600] := by decide

/-- R143's table of D. -/
theorem test_divisor_at_the_band : divisorOf 4096 = 136 ∧ divisorOf 16384 = 544 ∧ divisorOf 8192 = 272 ∧
    divisorOf 8611 = 286 := by decide

/-- The usual check of this CRC (1021h from FFFFh): the digits 1 to 9 give 29B1h. -/
theorem test_crc : checkBytes [0x31, 0x32, 0x33, 0x34, 0x35, 0x36, 0x37, 0x38, 0x39] = [0x29, 0xB1] := by decide +kernel

/-- R175, R176: IDENTIFY with tag 7 and no payload passes its checks; with one bit changed it fails the check. -/
theorem test_identify_frame : (frameBytes 0x01 7 []).take 4 = [0xC3, 0x01, 0x07, 0x00] ∧
    checkFrame (frameBytes 0x01 7 []) = .ok (0x01, 7, []) ∧
    checkFrame ([0xC3, 0x03, 0x07, 0x00] ++ (frameBytes 0x01 7 []).drop 4) = .error .badCheck := by decide +kernel

/-! ## Witnesses: each statement's hypotheses hold together -/

def unpowered : State := base.onPwc fun p => { p with power := .unpowered }

/-- STANDBY, with a low of SEL being timed. -/
def asleep : State := base.onPwc fun p => { p with power := .standby, selTimed := true }

def wiping : State := base.onThm fun t => { t with level := .wiping }

/-- ACTIVE, with this frame waiting and one entry reserved for it. -/
def waitingFor (w : Waiting) (s : State) : State := s.onLnk fun l => { l with waiting := some w, reserved := 1 }

def idle (c : Instr) : State := base.setPending [c]

theorem test_witness_PartTakesNothingUnpoweredAndNoRequestClosed :
    (unpowered.pwc.power = .unpowered ∧ Instr.freeze hdr ≠ .coldStart) ∧
    (requestOf (.freeze hdr)).isSome ∧ asleep.pwc.power ≠ .active := by decide

theorem test_witness_WipingAnswersWiping :
    (requestOf (.freeze hdr) = some (0x05, hdr) ∧ answeredInWiping 0x05 = false ∧ wiping.thm.level = .wiping ∧
      wiping.Serves (.freeze hdr) (entriesNeeded 0x05)) ∧
    requestOf (.listRanges hdr none) = some (0x23, hdr) ∧ wiping.Serves (.listRanges hdr none) (entriesNeeded 0x23) :=
  ⟨⟨rfl, by decide, rfl, rfl, .inl ⟨rfl, by decide⟩⟩, rfl, rfl, .inl ⟨rfl, by decide⟩⟩

theorem test_witness_EveryStepKeepsDeadlinesAndVerdictsSound :
    (idle .crystalGap).DeadlinesSound ∧ (idle .crystalGap).VerdictsSound ∧ ∃ t, step (idle .crystalGap) = .next t :=
  ⟨by unfold State.DeadlinesSound; decide, by unfold State.VerdictsSound; decide, _, rfl⟩

theorem test_witness_EveryStepKeepsOutboundQueueSound :
    (idle .crystalGap).OutboundSound ∧ ∃ t, step (idle .crystalGap) = .next t :=
  ⟨⟨by decide, by decide, by decide, fun h => by rcases h with h | h <;> nomatch h⟩, _, rfl⟩

theorem base_counts : base.CountsSound :=
  ⟨fun p h => by cases h; decide, by decide, by decide, fun i c h => by
    have none_ : ∀ i, base.thm.captures.get i = none := by decide
    rw [none_] at h; cases h⟩

theorem test_witness_EveryStepKeepsCountsAndSettingsWithinValues : (∃ t, step (idle .crystalGap) = .next t) ∧
    (idle .crystalGap).MapGenSound ∧ (idle .crystalGap).CountsSound ∧ (idle .crystalGap).SettingsSound :=
  ⟨⟨_, rfl⟩, ⟨by decide, by decide, rfl⟩, base_counts, by unfold State.SettingsSound; decide⟩

/-- Under ALARM ADMIN's attempt goes on deriving, and a LOCK_RANGE waits on LOCKING range 4. -/
def attempting : State :=
  (((idle .crystalGap).onThm fun t => { t with level := .alarm }).onAut fun a =>
      { a with engine := .deriving_ (.authenticate 0 cred) }).onLnk fun l =>
    { l with deferred := l.deferred.set 0 (some
      { kind := 0x24, tag := 9, owner := .rmg, range := some 4, state := .working (.lock 4) }) }

theorem attempting_awaited : attempting.LocksAwaited := by
  intro i d w r stands state awaits
  have all : ∀ i, ((attempting.lnk.deferred.get i).all fun d => match d.state with
      | .working w => w.awaits.all fun r => (attempting.rmg.ranges.get r).lock == .locking
      | .ready _ => true) = true := by decide
  have one := all i
  rw [stands] at one
  simpa [state, awaits] using one

theorem test_witness_EveryStepKeepsKeysAndJobsWithTheirOwners : attempting.RangeKeysSound ∧ attempting.AuthorityKeysSound ∧
    attempting.EngineSound ∧ attempting.OutboundSound ∧ attempting.StageSound ∧ attempting.LocksAwaited ∧ ∃ t, step attempting = .next t :=
  ⟨by unfold State.RangeKeysSound; decide, by unfold State.AuthorityKeysSound; decide,
    ⟨(fun h => nomatch h), fun _ a c h => by cases h; rfl⟩,
    ⟨by decide, by decide, by decide, fun h => by rcases h with h | h <;> nomatch h⟩, fun _ => rfl, attempting_awaited, _, rfl⟩

theorem base_ranges : base.RangesSound := by
  have bounds : ∀ r, (base.rmg.ranges.get r).geometry.all (fun g =>
      1 ≤ g.length && g.start + g.length ≤ base.sto.identity.capacity) = true := by decide
  have apart : ∀ q r, q = r ∨ (base.rmg.ranges.get q).geometry.all (fun g => (base.rmg.ranges.get r).geometry.all fun k =>
      g.start + g.length ≤ k.start || k.start + k.length ≤ g.start) = true := by decide
  refine ⟨rfl, fun r g h => ?_, fun q r g k ne hg hk => ?_⟩
  · have b := bounds r
    rw [h] at b
    simpa using b
  · have a := (apart q r).resolve_left ne
    rw [hg, hk] at a
    simpa using a

theorem test_witness_EveryStepKeepsRangesDisjointBelowC :
    (idle .crystalGap).RangesSound ∧ ∃ t, step (idle .crystalGap) = .next t := ⟨base_ranges, _, rfl⟩

/-! ### Starts and rules over every command -/

/-- SEL has been low for its time. -/
def held : State := base.onPwc fun p => { p with selTimed := true }

/-- A cold start's scan is under way. -/
def scanning (cold : Bool) : State := base.onPwc fun p => { p with power := .starting, stage := .scanning cold }

/-- A warm start waits for the store. -/
def warm : State := base.onPwc fun p => { p with power := .starting, stage := .waitStore }

/-- Every command that moves no line answers the state after it. -/
theorem answers {c : Instr} (h : movesALine c = false) (s : State) : exec c s = .next (after c s) := by
  obtain ⟨f, hf⟩ := exec_occur h
  unfold after
  rw [hf]
  unfold State.occur
  split <;> rfl

theorem test_witness_ResetCauseFollowsStarts :
    (∃ t, exec .coldStart base = .next t) ∧
    (exec .selHeldLow held = .next (after .selHeldLow held) ∧ held.pwc.power ≠ .starting ∧
      (after .selHeldLow held).pwc.power = .starting) ∧
    (exec (.restart hdr 0) base = .next (after (.restart hdr 0) base) ∧ base.pwc.power ≠ .starting ∧
      (after (.restart hdr 0) base).pwc.power = .starting) ∧
    (∃ t, exec .integrityScan (scanning true) = .next t) ∧ (scanning true).pwc.power = .starting ∧
    (scanning true).pwc.stage = .scanning true ∧ (∃ t, exec .integrityScan (scanning false) = .next t) ∧
    (scanning false).pwc.stage = .scanning false ∧ hdr.sized = true ∧ base.Serves (.identify hdr) 1 :=
  ⟨⟨_, rfl⟩, ⟨rfl, by decide, by decide +kernel⟩, ⟨rfl, by decide, by decide +kernel⟩, ⟨_, rfl⟩, rfl, rfl, ⟨_, rfl⟩, rfl, rfl,
    serves_base⟩

theorem test_witness_FreezeSetsTheOverlayUntilAColdStart :
    (wiping.Serves (.freeze hdr) 1 ∧ wiping.thm.level = .wiping) ∧ (base.Serves (.freeze hdr) 1 ∧
      base.thm.level ≠ .wiping ∧ hdr.sized = true ∧ base.sto.guard ≠ .fixed ∧ base.sto.frozen = false) ∧
    (exec (.freeze hdr) base = .next (after (.freeze hdr) base) ∧ (after (.freeze hdr) base).sto.frozen = true) :=
  ⟨⟨⟨rfl, .inl ⟨rfl, by decide⟩⟩, rfl⟩, ⟨serves_base, by decide, rfl, by decide, rfl⟩, rfl, by decide +kernel⟩

/-- A guard stored as FIXED. -/
def fixedGuard : State := base.onSto fun t => { t with guard := .fixed }

theorem test_witness_ClosedGuardHoldsConfiguration : (∃ t, exec (.freeze hdr) fixedGuard = .next t) ∧
    (requestOf (.freeze hdr)).isSome ∧ fixedGuard.guardPasses (Instr.freeze hdr).strap = false := ⟨⟨_, rfl⟩, rfl, rfl⟩

theorem test_witness_TimeAdvancesAtTickBoundariesAlone :
    (∃ t, exec (.tickBoundary ⟨false, false, 0⟩) base = .next t) ∧ base.pwc.power ≠ .unpowered ∧
    (∃ t, exec .crystalGap base = .next t) ∧ Instr.crystalGap ≠ .coldStart ∧ (∀ l, Instr.crystalGap ≠ .tickBoundary l) ∧
    base.CountsSound ∧ base.tmb.psc = some 1000 :=
  ⟨⟨_, rfl⟩, by decide, ⟨_, rfl⟩, by decide, (fun _ h => by cases h), base_counts, rfl⟩

/-- WIPING, the final write of the wipe in flight. -/
def closing : State :=
  (wiping.onWpc fun w => { w with step := .closing, waits := [{ record := .counters, started := true }] }).onSto
    fun t => { t with inFlight := some (.write (.counters .factory) false false) }

theorem test_witness_WipingEndsOnlyAtWipeCompletion :
    exec (.recordWrite true true) closing = .next (after (.recordWrite true true) closing) ∧
    closing.thm.level = .wiping ∧ (after (.recordWrite true true) closing).thm.level ≠ .wiping :=
  ⟨rfl, rfl, by decide +kernel⟩

/-! ### Power -/

/-- An erase of K0 is in flight. -/
def erasing : State := base.onSto fun t => { t with inFlight := some (.erase .k0 false) }

theorem test_witness_SupplyRiseResetsAndFallStops :
    (∀ b retry, base.sto.inFlight ≠ some (.erase b retry)) ∧ base.pwc.power ≠ .unpowered ∧
    erasing.pwc.power ≠ .unpowered ∧ erasing.sto.inFlight = some (.erase .k0 false) :=
  ⟨(fun _ _ h => by cases h), by decide, by decide, rfl⟩

/-- A cold scan over a faulty COUNTERS and a faulty GUARD, and an IDENTITY that is sound with C = 0. -/
def scanningFaulty : State :=
  (scanning true).onSto fun t => { t with records := { t.records with
      counters := .invalid, guard := .invalid, identity := .sound { serial := 0, capacity := 0 } } }

theorem test_witness_ColdScanTakesImagesAndChargesPsc :
    ((scanning true).pwc.power = .starting ∧ (scanning true).pwc.stage = .scanning true ∧
      (scanning true).wpc.step = .idle ∧ (scanning true).sto.inFlight = none ∧
      (scanning true).sto.waitingWipe = none ∧ (scanning true).sto.dirty = [] ∧
      (scanning true).sto.records.authority.get 0 = .sound .factory ∧ AuthorityRec.factory.valid = true ∧
      (scanning true).sto.records.guard = .sound .opened) ∧
    scanningFaulty.pwc.power = .starting ∧ scanningFaulty.sto.records.guard = .invalid ∧
    scanningFaulty.sto.records.counters = .invalid ∧
    scanningFaulty.sto.records.identity = .sound { serial := 0, capacity := 0 } ∧
    IdentityRec.valid { serial := 0, capacity := 0 } = false := by decide

theorem test_witness_WarmStartsBeginAndWaitForTheStore :
    ((held.pwc.power = .active ∧ held.pwc.selTimed = true) ∧ (asleep.pwc.power = .standby ∧ asleep.pwc.selTimed = true) ∧
      (base.TakesUp (.restart hdr 0) ∧ 0 = base.sto.identity.serial.toNat % 65536) ∧
      base.TakesUp (.restart hdr 1) ∧ 1 ≠ base.sto.identity.serial.toNat % 65536) ∧
    (warm.pwc.power = .starting ∧ warm.pwc.stage = .waitStore ∧ warm.sto.inFlight = none) ∧
    let busy := warm.onSto fun t => { t with inFlight := some (.erase .k1 false) }
    busy.pwc.power = .starting ∧ busy.pwc.stage = .waitStore ∧ busy.sto.inFlight.isSome :=
  ⟨⟨by decide, by decide, ⟨takesUp_base, by decide⟩, takesUp_base, by decide⟩, by decide, by decide⟩

/-- The end of a start: its charge's write in flight, every range LOCKED, at this level with this grace. -/
def starting (level : Level) (grace : Option Nat) (phase : WipePhase) : State :=
  { State.reset with
    thm := { Thm.bare with level := level, grace := grace }
    wpc := { Wpc.bare with phase := phase, next := if phase = .erasing then some .k2 else none }
    aut := { Aut.bare with lifecycle := .provisioned }
    tmb := { Tmb.cold with psc := some 1000, deadlines := [] }
    sto := { State.reset.sto with inFlight := some (.write (.counters .factory) true false) }
    pwc := { Pwc.cold with stage := .charging, waits := [⟨.counters, true⟩] } }

/-- The records of a part whose ADMIN has failed so often, short of its limit or at it, with the capture of CASE not sound. -/
def rescanned (failures : Nat) : State :=
  ((starting .wary none .none).onSto fun t =>
    { t with
      inFlight := none
      records := { t.records with
        counters := .sound { CountersRec.factory with lifecycle := .provisioned, level := .wary }
        authority := t.records.authority.set 0 (.sound { AuthorityRec.factory with failures := failures })
        capture := t.records.capture.set 1 .invalid } }).onPwc fun p =>
    { p with stage := .scanning false }

theorem starting_sound (level : Level) (grace : Option Nat) (phase : WipePhase) :
    (starting level grace phase).OutboundSound ∧ (starting level grace phase).DeadlinesSound :=
  ⟨⟨by show 0 ≤ 8; decide, by show 0 ≤ 6; decide, .nil, fun _ => ⟨rfl, rfl, rfl, rfl, by
    intro i; revert i; show ∀ i : DeferIx, Lnk.cleared.deferred.get i = none; decide, rfl, rfl⟩⟩, .nil⟩

theorem test_witness_StartsEndInActiveOrStandby :
    (∀ level grace phase, (starting level grace phase).pwc.power = .starting ∧
      (starting level grace phase).OutboundSound ∧ (starting level grace phase).DeadlinesSound ∧
      (starting level grace phase).pwc.stage = .charging ∧
      (starting level grace phase).sto.inFlight = some (.write (.counters .factory) true false) ∧
      waitsOn .counters (starting level grace phase).pwc.waits = true ∧ (starting level grace phase).wpc.step = .idle ∧
      (starting level grace phase).wpc.waits = [] ∧ (starting level grace phase).aut.engine = .idle ∧
      (starting level grace phase).aut.paired = false ∧
      (starting level grace phase).thm.level = level ∧ (starting level grace phase).thm.grace = grace ∧
      (starting level grace phase).thm.raised = [] ∧ (starting level grace phase).pins.halt = false ∧
      (starting level grace phase).pins.dpwr = true) ∧
    (∀ q, ((starting .alarm (some 1000) .none).rmg.ranges.get q).lock = .locked ∧
      (starting .alarm (some 1000) .none).rmg.rangeKeys.get q = none) ∧ (starting .wiping none .erasing).SignedOut ∧
    (1000 ≤ (starting .alarm (some 1000) .none).pscNow ∧ ¬ 1001 ≤ (starting .alarm (some 1001) .none).pscNow) ∧
    ((∀ failures, (rescanned failures).pwc.power = .starting ∧ (rescanned failures).OutboundSound ∧
        (rescanned failures).DeadlinesSound ∧ (rescanned failures).pwc.stage = .scanning false ∧
        (rescanned failures).sto.records.readCounters.level = .wary ∧ (rescanned failures).thm.raised = [] ∧
        (rescanned failures).pins.halt = false) ∧
      (after .integrityScan (rescanned 10)).aut.lifecycle = .provisioned ∧
      (after .integrityScan (rescanned 10)).adminAtLimit 0 = true ∧
      (after .integrityScan (rescanned 3)).adminAtLimit 0 = false ∧ (after .integrityScan (rescanned 3)).adminAtLimit 7 = false ∧
      (after .integrityScan (rescanned 3)).overBudget = false ∧ (rescanned 3).sto.records.capture.get 1 = .invalid) ∧
    (starting .calm none .none).pins = .quiet :=
  ⟨fun l g p => ⟨rfl, (starting_sound l g p).1, (starting_sound l g p).2, rfl, rfl, rfl, rfl, rfl, rfl, rfl, rfl, rfl, rfl, rfl, rfl⟩,
    by decide, ⟨by decide, rfl, by decide⟩, by decide,
    ⟨fun _ => ⟨rfl, (starting_sound .wary none .none).1, (starting_sound .wary none .none).2, rfl, rfl, rfl, rfl⟩,
      by decide +kernel⟩, rfl⟩

theorem test_witness_WakeOpensTheLink :
    (asleep.pwc.power = .standby ∧ asleep.pwc.selTimed = true ∧ asleep.thm.level ≠ .wiping ∧ asleep.aut.secret.isSome) ∧
    let dark := asleep.onPins fun p => { p with dpwr := false }
    let wary := dark.onThm fun t => { t with level := .wary }
    let alone := dark.onAut fun a => { a with secret := none }
    dark.pwc.power = .standby ∧ dark.pins.dpwr = false ∧ wary.pwc.power = .standby ∧ wary.thm.level ≠ .calm ∧
      alone.pwc.power = .standby ∧ alone.thm.level ≠ .wiping ∧ alone.aut.secret = none := by decide

theorem base_stays : base.LockingStayLocked := by unfold State.LockingStayLocked; decide

theorem test_witness_StandbyEntryClosesAndLocks : base.model.bumped = false ∧ base.LockingStayLocked ∧
    base.TakesUp (.standby hdr) ∧ base.pwc.power = .active ∧ base.pins.dpwr = true :=
  ⟨rfl, base_stays, takesUp_base, rfl, rfl⟩

/-! ### The link -/

theorem test_witness_FrameLayoutAndChecksAgree : (List.replicate 240 (0 : Byte)).length ≤ 240 ∧
    checkFrame (frameBytes 0x01 7 []) = .ok (0x01, 7, []) := ⟨List.length_replicate.le, by decide +kernel⟩

/-- ACTIVE, over a low of SEL that began while the link was closed. -/
def lateLow : State := base.onPins fun p => { p with selLow := true }

theorem test_witness_InboundFramesWaitAndAreAnswered : ((0xC3 : Byte) ≠ readMarker ∧ base.pwc.power = .active ∧
    base.lnk.waiting = none ∧ checkFrame (0xC3 :: (frameBytes 0x01 7 []).tail) = .ok (0x01, 7, []) ∧
    checkFrame [0xC3] = .error .badSize ∧ (waitingFor (.failed .badSize 0) base).lnk.waiting = some (.failed .badSize 0) ∧
    base.pins.selLow = false ∧ asleep.pwc.power = .standby ∧ warm.pwc.power = .starting ∧ lateLow.pwc.power = .active ∧
    lateLow.lnk.period = none ∧ lateLow.pins.selLow = true) ∧
    let failed := waitingFor (.failed .badCheck 7) base
    let unknown := waitingFor (.frame 0x77 7 []) base
    (failed.pwc.power = .active ∧ 1 ≤ failed.lnk.reserved ∧ failed.lnk.waiting = some (.failed .badCheck 7)) ∧
    unknown.pwc.power = .active ∧ 1 ≤ unknown.lnk.reserved ∧ unknown.lnk.waiting = some (.frame 0x77 7 []) ∧
    requestKinds.contains 0x77 = false := by decide +kernel

/-- A WIPING reply at the head, in a select period over it. -/
def reading (replaced : Bool) : State :=
  base.onLnk fun l =>
    { l with
      outbound := [.reply 0x85 7 (.plain .wiping)]
      period := some { modeThree := true, head := some (.reply 0x85 7 (.plain .wiping)), replaced := replaced } }

/-- A VOID notice replaced the one that the period over the head shifts out. -/
def overtaken : State :=
  base.onLnk fun l =>
    { l with
      outbound := [.notice (.void 3 .alarm)]
      period := some { modeThree := true, head := some (.notice (.void 2 .rekey)), replaced := true } }

def emptyPeriod : State := base.onLnk fun l => { l with period := some { modeThree := false, head := none, replaced := false } }

theorem test_witness_SelectPeriodsShiftOutTheHead :
    (base.pwc.power = .active ∧ asleep.pwc.power = .standby) ∧
    ((reading false).pwc.power = .active ∧ (reading false).lnk.outbound = [.reply 0x85 7 (.plain .wiping)] ∧
      (reading false).lnk.period =
        some { modeThree := true, head := some (.reply 0x85 7 (.plain .wiping)), replaced := false } ∧
      1 + (OutFrame.reply 0x85 7 (.plain .wiping)).bytes.length ≤ 8 ∧
      7 < 1 + (OutFrame.reply 0x85 7 (.plain .wiping)).bytes.length ∧
      (reading true).lnk.period =
        some { modeThree := true, head := some (.reply 0x85 7 (.plain .wiping)), replaced := true }) ∧
    (overtaken.pwc.power = .active ∧ overtaken.lnk.outbound = [.notice (.void 3 .alarm)] ∧
      overtaken.lnk.period = some { modeThree := true, head := some (.notice (.void 2 .rekey)), replaced := true } ∧
      (OutFrame.notice (.void 3 .alarm)).ofKind (.void 4 .wiping) = true) ∧
    (emptyPeriod.pwc.power = .active ∧ emptyPeriod.lnk.outbound = [] ∧
      emptyPeriod.lnk.period = some { modeThree := false, head := none, replaced := false }) ∧
    base.lnk.waiting = none := by decide +kernel

/-- A wake pulse that follows a DPWR rise finds the part ACTIVE: it ends the select period its fall began, and the head stays. -/
theorem test_wake_pulse_in_active_ends_the_period :
    (after (.selFall true) (reading false)).lnk.period.isSome ∧
    (after .wakePulse (after (.selFall true) (reading false))).lnk.period = none ∧
    (after .wakePulse (after (.selFall true) (reading false))).pwc.selTimed = false ∧
    (after .wakePulse (after (.selFall true) (reading false))).lnk.outbound = (reading false).lnk.outbound := by decide +kernel

/-- CONFIGURE has the mode NOTICE set for a queue that holds a reply. -/
def noticing : State := (reading false).onSto fun t => { t with policy := { t.policy with attnMode := .notice } }

def setNotice : Instr := .configure hdr 0 [{ id := 16, value := 1 }]

theorem test_witness_AttnFollowsTheOutboundQueue :
    ((reading false).pwc.power = .active ∧ (reading false).sto.policy.attnMode = .any ∧ (reading false).attn = true) ∧
    (noticing.sto.policy.attnMode = .notice ∧ noticing.attn = false) ∧ asleep.pwc.power ≠ .active ∧
    (exec setNotice base = .next (after setNotice base) ∧
      (after setNotice base).sto.policy.attnMode ≠ base.sto.policy.attnMode) ∧
    (exec .integrityScan (scanning true) = .next (after .integrityScan (scanning true)) ∧
      (scanning true).pwc.power = .starting ∧
      (scanning true).pwc.stage = .scanning true ∧ (scanning true).sto.records.policy = .sound .default ∧
      Policy.default.valid = true) ∧
    (exec (.standby hdr) base = .next (after (.standby hdr) base) ∧ (after (.standby hdr) base).pwc.power = .standby) ∧
    (exec .wakePulse asleep = .next (after .wakePulse asleep) ∧ (after .wakePulse asleep).pwc.power = .active) ∧
    asleep.OutboundSound :=
  ⟨by decide, by decide, by decide, ⟨rfl, by decide +kernel⟩, ⟨rfl, rfl, rfl, rfl, by decide⟩, ⟨rfl, by decide +kernel⟩,
    ⟨rfl, by decide +kernel⟩, ⟨by decide, by decide, by decide, fun _ => ⟨rfl, rfl, rfl, rfl, by decide, rfl, rfl⟩⟩⟩

theorem test_witness_ReportsAreAnsweredInEveryLevel : hdr.sized = true ∧ wiping.Serves (.identify hdr) 1 ∧
    (waitingFor (.frame 0x02 7 []) wiping).Serves (.status hdr) 1 ∧ base.Serves (.readTime hdr) 1 ∧
    base.Serves (.readCaptures hdr) 1 :=
  ⟨rfl, ⟨rfl, .inl ⟨rfl, by decide⟩⟩, serves_waiting rfl rfl (by decide) (by decide), serves_base, serves_base⟩

theorem test_witness_ListingsHideConcealedRanges : base.thm.level ≠ .wiping ∧ hdr.sized = true ∧
    base.Serves (.readSlots hdr (some 8)) 1 ∧ base.Serves (.readSlots hdr (some 1)) 1 ∧
    base.Serves (.listRanges hdr (some 0)) 2 ∧ base.RangesSound ∧ (some 0).any base.adminActs = true ∧
    (some 1).any base.adminActs = false ∧ base.concealed 2 = true :=
  ⟨by decide, rfl, serves_base, serves_base, ⟨rfl, .inl ⟨rfl, by decide⟩⟩, base_ranges, by decide, by decide, by decide⟩

/-! ### The guard and the authorities -/

theorem test_witness_ConfigureSetsClampedSettings :
    let items : List SettingItem := [{ id := 15, value := 0 }, { id := 1, value := 4294967295 }]
    let pulses (on : Bool) := (base.onSto fun t => { t with policy := { t.policy with stimulation := on } }).onTmb fun t =>
      { t with quality := .holdover, supervisor := .confirming 3 }
    ((pulses true).TakesUp (.configure hdr 0 items) ∧ ((pulses true).aut.auth.get 0).signedIn = true ∧
      (pulses true).guardPasses false = true ∧ (∀ i ∈ items, 1 ≤ i.id ∧ i.id ≤ 16) ∧ (items.map SettingItem.id).Nodup ∧
      (pulses true).freeDeferred.isSome ∧ (pulses true).sto.policy.stimulation = true ∧
      (after (.configure hdr 0 items) (pulses true)).sto.policy.stimulation = false) ∧
    (pulses false).TakesUp (.configure hdr 0 [{ id := 15, value := 2 }]) ∧
      (pulses false).sto.policy.stimulation = false ∧ (pulses false).tmb.quality = .holdover ∧
      (pulses false).tmb.supervisor = .confirming 3 ∧
      (after (.configure hdr 0 [{ id := 15, value := 2 }]) (pulses false)).sto.policy.stimulation = true :=
  ⟨⟨takesUp_of rfl rfl (by decide) (by decide), by decide, rfl, by decide, by decide, by decide, rfl, by decide +kernel⟩,
    takesUp_of rfl rfl (by decide) (by decide), rfl, rfl, rfl, by decide +kernel⟩

theorem test_witness_SetGuardMovesTheStoredMode :
    (base.TakesUp (.setGuard hdr 0 (some .strap)) ∧ (base.aut.auth.get 0).signedIn = true ∧ base.guardPasses false = true ∧
      base.sto.guard = .opened ∧ base.sto.guard ≠ .fixed ∧ base.freeDeferred.isSome) ∧
    (∃ t, exec (.freeze hdr) fixedGuard = .next t) ∧ fixedGuard.sto.guard = .fixed :=
  ⟨⟨takesUp_base, by decide, rfl, rfl, by decide, by decide⟩, ⟨_, rfl⟩, rfl⟩

/-- As the part leaves the factory, ACTIVE. -/
def unprovisioned : State := base.onAut fun a => { a with lifecycle := .unprovisioned }

/-- A job of the derivation engine that derives. -/
def atWork (j : Job) : State := base.onAut fun a => { a with engine := .deriving_ j }

/-- PROVISION jobs: with a rescue credential, short of the RESCUE derivation or past it, and without one. -/
def provisionJob (rescue adminDone : Bool) : ProvisionJob :=
  { admin := [1], rescue := if rescue then some cred else none, adminSet := [0, 15], rescueSet := [], factor := 64
    adminDone := adminDone }

/-- An authority's attempt is deriving, its reply deferred. -/
def deriving_ (a : AuthIx) (credential : List Byte) : State :=
  (base.onAut fun t => { t with engine := .deriving_ (.authenticate a credential) }).onLnk fun l =>
    { l with deferred := l.deferred.set 0 (some
      { kind := 0x11, tag := 9, owner := .aut, range := none, state := .working .engine }) }

/-- A SET_CREDENTIAL for USER6 is deriving; of its grant set range 15 is undefined. -/
def granting : State := (deriving_ 6 cred).onAut fun t => { t with engine := .deriving_ (.setCredential 6 cred 5 64 [1, 15, 4] []) }

theorem test_witness_CredentialJobsRunToTheirDerivation :
    (unprovisioned.TakesUp (.provision hdr [1] (some cred) [0, 15] []) ∧ unprovisioned.aut.lifecycle ≠ .provisioned ∧
      credentialFits [1] = true ∧
      (some cred).all credentialFits = true ∧ indexSet 0 16 [0, 15] = true ∧ indexSet 0 16 [] = true ∧
      unprovisioned.aut.engine = .idle ∧ unprovisioned.freeDeferred.isSome) ∧
    (base.TakesUp (.setCredential hdr 0 6 cred [1, 15] []) ∧ base.adminActs 0 = true ∧ 6 = (6 : AuthIx).val ∧ isUser 6 = true ∧
      credentialFits cred = true ∧ indexSet 1 15 [1, 15] = true ∧ base.aut.engine = .idle) ∧
    (∀ rescue adminDone, (atWork (.provision (provisionJob rescue adminDone))).pwc.power ≠ .unpowered ∧
      (atWork (.provision (provisionJob rescue adminDone))).aut.engine =
        .deriving_ (.provision (provisionJob rescue adminDone))) ∧
    (provisionJob true false).rescue.isSome ∧ (provisionJob false false).rescue = none ∧
    (granting.pwc.power ≠ .unpowered ∧ isUser 6 = true ∧
      granting.aut.engine = .deriving_ (.setCredential 6 cred 5 64 [1, 15, 4] []) ∧ granting.rmg.domainKey.isSome ∧
      granting.AuthorityKeysSound ∧ [1, (15 : RangeIx), 4].Nodup ∧
      [1, (15 : RangeIx), 4].filter (fun r => granting.defined r && (granting.rmg.ranges.get r).keyState == .keyed &&
        (granting.keyOf r).isSome) = [1, 4] ∧ granting.keyOf 1 = some (.drawn 1) ∧
      ((List.finRange 48).filter fun q => (granting.rmg.envelopes.get q).all fun e => e.authority == 6)[0]? = some 2 ∧
      granting.lnk.deferred.get 0 = some { kind := 0x11, tag := 9, owner := .aut, range := none, state := .working .engine }) ∧
    (granting.onRmg fun m => { m with domainKey := none }).rmg.domainKey = none :=
  ⟨⟨takesUp_of rfl rfl (by decide) (by decide), by decide, by decide, by decide, by decide, by decide, rfl, by decide⟩,
    ⟨takesUp_base, by decide, rfl, by decide, by decide, by decide, rfl⟩, fun _ _ => ⟨(fun h => nomatch h), rfl⟩, rfl, rfl,
    ⟨by decide, by decide, rfl, by decide, by unfold State.AuthorityKeysSound; decide, by decide, by decide, by decide,
      by decide +kernel, by decide⟩, rfl⟩

/-- RESCUE without a credential is disabled by PROVISION's first stage (R75). -/
theorem test_provision_disables_rescue :
    (match exec .derivationComplete (atWork (.provision (provisionJob false false))) with
      | .next t => some ((t.aut.auth.get 7).kept.enabled, (t.aut.auth.get 0).kept.startup, (t.rmg.envelopes.get 0).isSome)
      | _ => none) = some (false, [0, 15], true) := by decide +kernel

/-- Paired, USER2 short of an attempt: its backoff has a while to run. -/
def paired (due : Option Nat) : State :=
  (base.onAut fun a => { a with paired := true }).onTmb fun t =>
    { t with deadlines := due.toList.map fun d => { purpose := .backoff 2, due := d } }

theorem test_witness_AuthenticateChargesBeforeItDerives :
    ((paired (some 2048)).TakesUp (.authenticate hdr 2 cred) ∧ credentialFits cred = true ∧
      (paired (some 2048)).aut.lifecycle = .provisioned ∧ (paired (some 2048)).thm.level ≠ .alarm ∧
      ((paired (some 2048)).aut.auth.get 2).kept.enabled = true ∧
      ((paired (some 2048)).aut.auth.get 2).signedIn = false ∧ (paired (some 2048)).aut.paired = true ∧
      (paired (some 2048)).deadline (.backoff 2) = some 2048 ∧ (paired (some 2048)).tmb.uptime < 2048) ∧
    (paired (some 2047)).TakesUp (.authenticate hdr 2 cred) ∧ (paired (some 2047)).deadline (.backoff 2) = some 2047 ∧
      2047 ≤ (paired (some 2047)).tmb.uptime ∧ (paired (some 2047)).aut.engine = .idle ∧
      (paired (some 2047)).freeDeferred.isSome :=
  ⟨⟨takesUp_of rfl rfl (by decide) (by decide), by decide, rfl, by decide, by decide, by decide, rfl, by decide, by decide⟩,
    takesUp_of rfl rfl (by decide) (by decide), by decide, by decide, rfl, by decide⟩

/-- A SET_CREDENTIAL for USER2 is deriving. -/
def renewing : State := atWork (.setCredential 2 cred 5 64 [] [])

theorem test_witness_LeavingTheSetDropsItsKeys :
    (base.TakesUp (.signOut hdr 1) ∧ (base.aut.auth.get 1).signedIn = true ∧ isUser 1 = true) ∧
    ((deriving_ 1 cred).TakesUp (.disableAuthority hdr 0 1) ∧ (deriving_ 1 cred).adminActs 0 = true ∧ (1 : AuthIx) ≠ 0 ∧
      (1 : AuthIx).val ≠ 0 ∧ ((deriving_ 1 cred).aut.auth.get 1).kept.enabled = true ∧
      (deriving_ 1 cred).freeDeferred.isSome ∧ (deriving_ 1 cred).aut.engine.job = some (.authenticate 1 cred) ∧
      (deriving_ 1 cred).lnk.deferred.get 0 = some
        { kind := 0x11, tag := 9, owner := .aut, range := none, state := .working .engine }) ∧
    (renewing.TakesUp (.disableAuthority hdr 0 2) ∧ (renewing.aut.auth.get 2).kept.enabled = true ∧
      (renewing.aut.auth.get 2).signedIn = false ∧ renewing.freeDeferred.isSome ∧
      renewing.aut.engine.job = some (.setCredential 2 cred 5 64 [] [])) ∧
    (base.aut.auth.get 7).kept.enabled = false ∧ (base.aut.auth.get 2).signedIn = false ∧
      ∀ j, base.aut.engine.job ≠ some j :=
  ⟨⟨takesUp_base, by decide, by decide⟩,
    ⟨takesUp_of rfl rfl (by decide) (by decide), by decide, by decide, by decide, by decide, by decide, by decide, by decide⟩,
    ⟨takesUp_of rfl rfl (by decide) (by decide), by decide, by decide, by decide, rfl⟩, by decide, by decide,
    fun _ h => by cases h⟩

/-- Unpaired, with a nonce given; the pairing window has ended. -/
def challenged : State :=
  (base.onAut fun a => { a with nonce := some 3 }).onTmb fun t => { t with fallen := [{ purpose := .pairing, due := 2047 }] }

theorem test_witness_PairingFollowsTheProof :
    (base.TakesUp (.pairChallenge hdr) ∧ base.aut.secret.isSome) ∧
    (challenged.TakesUp (.pairProve hdr (List.replicate 32 0)) ∧ challenged.aut.secret.isSome ∧
      (List.replicate 32 (0 : Byte)).length = 32 ∧
      challenged.aut.nonce.isSome) ∧
    (base.TakesUp (.setPairing hdr 0 (some (List.replicate 32 0)) (some (List.replicate 16 0))) ∧
      base.adminActs 0 = true ∧ base.guardPasses false = true ∧
      (some (List.replicate 32 (0 : Byte))).all (fun l => l.length = 32) = true ∧
      (some (List.replicate 16 (0 : Byte))).all tokenFits = true ∧
      (some (List.replicate 32 (0 : Byte))).all tokenFits = true ∧ base.freeDeferred.isSome) ∧
    challenged.pwc.power ≠ .unpowered ∧ challenged.HasFallen .pairing :=
  ⟨⟨takesUp_base, by decide⟩, ⟨takesUp_of rfl rfl (by decide) (by decide), by decide, rfl, by decide⟩,
    ⟨takesUp_base, by decide, rfl, by decide, by decide, by decide, by decide⟩, by decide, rfl⟩

/-- USER2's attempt is deriving; its start-up set names range 2, which is LOCKED, and an envelope of it is there. -/
def startingUp : State :=
  ((deriving_ 2 cred).onRmg fun m =>
    { m with envelopes := m.envelopes.set 47 (some
      { authority := 2, target := .range 2, wrapped := wrapped (.kek cred 2 64) (.drawn 2) }) }).onAut fun t =>
    { t with auth := t.auth.set 2 (authority 2 false [2]) }

/-- Under ALARM ADMIN's attempt is deriving, range 2 in its start-up set; the global range is plain and LOCKED. -/
def adminUp : State :=
  ((((deriving_ 0 cred).onThm fun t => { t with level := .alarm, grace := some 1300 }).onRange 0 fun e =>
      { e with lock := .locked }).onAut fun t => { t with auth := t.auth.set 0 (authority 0 false [2]) }).cacheKey 0 none

/-- R81, R107: ADMIN's sign-in under ALARM brings CALM, opens the plain global range and range 2 of its start-up set. -/
theorem test_admin_under_alarm :
    let t := after .derivationComplete adminUp
    t.thm.level = .calm ∧ t.rmg.domainKey = some (.drawn 0) ∧ (t.rmg.ranges.get 0).lock = .opened ∧
      (t.rmg.ranges.get 2).lock = .opened ∧ (t.rmg.ranges.get 4).lock = .locking := by decide +kernel

theorem test_witness_MatchingDerivationSignsIn :
    (startingUp.pwc.power ≠ .unpowered ∧ startingUp.aut.engine = .deriving_ (.authenticate 2 cred) ∧
      (startingUp.aut.auth.get 2).kept.credential = some (credential 2) ∧
      (credential 2).verifier = { credential := cred, salt := (credential 2).salt, factor := (credential 2).factor } ∧
      isUser 2 = true ∧ startingUp.thm.level ≠ .wary ∧ 2 ∈ (startingUp.aut.auth.get 2).kept.startup ∧
      startingUp.defined 2 = true ∧ (startingUp.rmg.ranges.get 2).keyState = .keyed ∧
      (startingUp.rmg.ranges.get 2).flags.lockEnabled = true ∧ (startingUp.rmg.ranges.get 2).lock = .locked ∧
      startingUp.envelopeAt 2 (.range 2) = some 47 ∧ (startingUp.rmg.envelopes.get 47).isSome) ∧
    (startingUp.EngineSound ∧ adminUp.EngineSound) ∧
    adminUp.aut.engine = .deriving_ (.authenticate 0 cred) ∧
      (adminUp.aut.auth.get 0).kept.credential = some (credential 0) ∧ isAdmin 0 = true ∧ adminUp.thm.level = .alarm ∧
      adminUp.model.bumped = false ∧ adminUp.pwc.power = .active ∧
      adminUp.envelopeAt 0 .domain = some 0 ∧ adminUp.rmg.envelopes.get 0 =
        some (domainEnvelope 0 (.kek cred 0 64) (.drawn 0)) ∧
      2 ∈ (adminUp.aut.auth.get 0).kept.startup ∧ (adminUp.rmg.ranges.get 2).domainWrap =
        some (wrapped (.drawn 0) (.drawn 2)) ∧
      (adminUp.rmg.ranges.get 0).deviceWrap = some (wrapped .device (.drawn 10)) ∧
      (adminUp.rmg.ranges.get 0).lock = .locked ∧ (adminUp.rmg.ranges.get 0).flags.lockEnabled = false :=
  ⟨by decide +kernel, ⟨⟨(fun h => nomatch h), (fun h => nomatch h)⟩, (fun h => nomatch h), fun _ a c h => by cases h; rfl⟩,
    by decide +kernel⟩

/-- An attempt of `a` with another credential, f at `f`. -/
def failing (a : AuthIx) (f : Nat) : State :=
  (deriving_ a [9]).onAut fun t =>
    { t with
      tryCount := 3
      auth := t.auth.set a { signedIn := false, kept := { (authority a.val false []).kept with failures := f } } }

theorem test_witness_FailedDerivationSetsTheBackoff :
    ((failing 2 10).pwc.power ≠ .unpowered ∧ (failing 2 10).aut.engine = .deriving_ (.authenticate 2 [9]) ∧
      ((failing 2 10).aut.auth.get 2).kept.credential = some (credential 2) ∧
      (credential 2).verifier ≠ { credential := [9], salt := (credential 2).salt, factor := (credential 2).factor } ∧
      isUser 2 = true ∧ ((failing 2 10).aut.auth.get 2).kept.limit ≤ 10 ∧ (failing 2 10).overBudget = false) ∧
    ((failing 2 9).aut.engine = .deriving_ (.authenticate 2 [9]) ∧ 9 < ((failing 2 9).aut.auth.get 2).kept.limit) ∧
    ((failing 0 10).aut.engine = .deriving_ (.authenticate 0 [9]) ∧ isAdmin 0 = true ∧
      ((failing 0 10).aut.auth.get 0).kept.limit ≤ 10) ∧
    let fell := base.onTmb fun t => { t with fallen := [{ purpose := .backoff 7, due := 2047 }] }
    fell.pwc.power ≠ .unpowered ∧ fell.tmb.fallen.any (fun d => d.purpose == .backoff 7) = true := by decide +kernel

/-! ### Ranges -/

/-- Without the envelope of USER1 for range 1. -/
def ungranted : State := base.onRmg fun m => { m with envelopes := m.envelopes.set 1 none }

theorem test_witness_GrantAndRevokeMoveOneEnvelope :
    (base.adminActs 0 = true ∧ isUser 1 = true ∧ (1 : RangeIx) ≠ 0 ∧ base.defined 1 = true) ∧
    (ungranted.TakesUp (.grant hdr 0 1 1) ∧ (ungranted.rmg.ranges.get 1).keyState = .keyed ∧
      ungranted.rmg.keks.get 1 = some (.kek cred 1 64) ∧ ungranted.envelopeAt 1 (.range 1) = none ∧
      ungranted.emptyPosition = some 1 ∧ ungranted.freeDeferred.isSome ∧ ungranted.keyOf 1 = some (.drawn 1)) ∧
    base.TakesUp (.grant hdr 0 1 1) ∧ base.TakesUp (.revoke hdr 0 1 1) ∧ base.envelopeAt 1 (.range 1) = some 1 ∧
    base.freeDeferred.isSome :=
  ⟨by decide, ⟨takesUp_of rfl rfl (by decide) (by decide), by decide +kernel⟩, takesUp_base, takesUp_base, by decide +kernel⟩

/-- The medium ends with the geometry asked for. -/
def small : State := base.onSto fun t => { t with identity := { t.identity with capacity := 600 } }

theorem test_witness_DefineAndDeleteRanges :
    (small.TakesUp (.defineRange hdr 0 ⟨550, 50⟩ flags) ∧ small.model.bumped = false ∧ small.adminActs 0 = true ∧
      small.guardPasses false = true ∧
      550 + 50 ≤ small.sto.identity.capacity ∧ small.clearOf ⟨550, 50⟩ none = true ∧ small.freeIndex = some 5 ∧
      small.rmg.domainKey = some (.drawn 0) ∧ small.freeDeferred.isSome) ∧
    base.TakesUp (.deleteRange hdr 0 2) ∧ (2 : RangeIx) ≠ 0 ∧ base.defined 2 = true ∧ (base.rmg.ranges.get 2).lock = .locked :=
  ⟨⟨takesUp_of rfl rfl (by decide) (by decide), rfl, by decide +kernel⟩, takesUp_base, by decide⟩

theorem test_witness_ModifyRangeSetsFlagsAndGeometry :
    (small.TakesUp (.modifyRange hdr 0 2 flags (some ⟨550, 50⟩)) ∧
      small.TakesUp (.modifyRangeGeometry hdr 0 2 ⟨150, 150⟩) ∧ small.model.bumped = false ∧
      small.adminActs 0 = true ∧ small.guardPasses false = true ∧
      small.defined 2 = true ∧ (2 : RangeIx) ≠ 0 ∧ (small.rmg.ranges.get 2).lock = .locked ∧
      550 + 50 ≤ small.sto.identity.capacity ∧ small.clearOf ⟨550, 50⟩ (some 2) = true ∧
      small.clearOf ⟨150, 150⟩ (some 2) = true ∧ (small.rmg.ranges.get 2).flags.lockEnabled = true ∧
      (small.rmg.ranges.get 2).keyState = .keyed ∧ (small.keyOf 2).isSome ∧ small.freeDeferred.isSome) ∧
    (base.defined 0 = true ∧ (base.rmg.ranges.get 0).flags.lockEnabled = false) :=
  ⟨⟨takesUp_of rfl rfl (by decide) (by decide), takesUp_of rfl rfl (by decide) (by decide), rfl, by decide +kernel⟩, by decide⟩

/-- The slot of range 1 has no pin. -/
def unpinned : State := base.onKln fun k => { k with slots := k.slots.set 0 { slot 1 1 with pins := 0 } }

/-- The slot of range 1 waits for its LOAD, in flight or in this queue. -/
def loading (queue : List LaneFrame) : State :=
  base.onKln fun k =>
    { k with slots := k.slots.set 0 { slot 1 1 with state := .loading, pins := 0 }, queue := queue, lane := .fault }

/-- The slot of range 1 is being cleared, with this next occupant. -/
def clearingOne (next : Option Occupant) : State :=
  base.onKln fun k => { k with slots := k.slots.set 0 { slot 1 1 with state := .clearing, pins := 0, next := next } }

/-- No deferred-reply entry is free. -/
def noEntry (s : State) : State :=
  s.onLnk fun l => { l with deferred := Table.fill (some
    { kind := 0x24, tag := 9, owner := .rmg, range := some 4, state := .working (.lock 4) }) }

def frame (op : LaneOp) (i : SlotIx) : LaneFrame := { op := op, slot := i, key := some ⟨1, 1⟩ }

theorem base_awaited : base.LocksAwaited := by
  intro i d w r stands
  have none_ : ∀ i, base.lnk.deferred.get i = none := by decide
  rw [none_ i] at stands
  cases stands

theorem base_distinct : base.SlotsDistinct := by unfold State.SlotsDistinct; decide

theorem test_witness_LockRangeNarrowsAccess :
    (base.TakesUp (.lockRange hdr 1 1 (some .all)) ∧ base.TakesUp (.lockRange hdr 1 1 (some .write)) ∧
      base.model.bumped = false ∧ base.defined 1 = true ∧ base.showsTo 1 (some 1) = true ∧
      base.signedIn 1 = true ∧ base.mayLock 1 (some 1) = true ∧ (base.rmg.ranges.get 1).flags.lockEnabled = true ∧
      (base.rmg.ranges.get 1).lock = .opened ∧ (base.rmg.ranges.get 1).slot = some 0 ∧
      1 ≤ (base.kln.slots.get 0).pins ∧ base.freeDeferred.isSome) ∧
    ((unpinned.kln.slots.get 0).state = .loaded ∧ (unpinned.kln.slots.get 0).pins = 0 ∧
      unpinned.TakesUp (.lockRange hdr 1 1 (some .all))) ∧
    (∀ queue, ((loading queue).kln.slots.get 0).state = .loading ∧ ((loading queue).kln.slots.get 0).pins = 0 ∧
      (loading queue).TakesUp (.lockRange hdr 1 1 (some .all)) ∧ (loading queue).SlotsDistinct ∧
      (loading queue).LocksAwaited ∧ (loading queue).freeDeferred.isSome) ∧
    (∃ f ∈ (loading [frame .load 0]).kln.queue, f.op = .load ∧ f.slot = 0) ∧
    (∀ next, (clearingOne next).TakesUp (.lockRange hdr 1 1 (some .all)) ∧
      ((clearingOne next).kln.slots.get 0).state = .clearing ∧ ((clearingOne next).kln.slots.get 0).pins = 0 ∧
      ((clearingOne next).kln.slots.get 0).next = next) ∧
    ((noEntry base).TakesUp (.lockRange hdr 1 1 (some .all)) ∧ (noEntry base).freeDeferred = none) ∧
    (base.mayLock 0 (some 3) = true ∧ (base.rmg.ranges.get 3).lock = .readOnly ∧ (base.rmg.ranges.get 3).slot = none) ∧
    (base.rmg.ranges.get 4).lock = .locking :=
  ⟨⟨takesUp_base, takesUp_base, by decide +kernel⟩, ⟨by decide, by decide, takesUp_of rfl rfl (by decide) (by decide)⟩,
    fun queue => ⟨rfl, rfl, takesUp_of rfl rfl (by show 0 + 0 + 1 ≤ 8; decide) (fun h => nomatch h), base_distinct,
      base_awaited, by show base.freeDeferred.isSome; decide⟩,
    ⟨frame .load 0, by decide⟩, fun next => ⟨takesUp_of rfl rfl (by show 0 + 0 + 1 ≤ 8; decide) (fun h => nomatch h), rfl, rfl, rfl⟩,
    ⟨takesUp_of rfl rfl (by decide) (by decide), by decide⟩, by decide, by decide⟩

/-- Without the cached domain key. -/
def keyless : State := base.onRmg fun m => { m with domainKey := none }

theorem test_witness_UnlockRangeNeverNarrowsAccess :
    (base.TakesUp (.unlockRange hdr 0 2 (some .read)) ∧ base.model.bumped = false ∧ base.defined 2 = true ∧
      base.showsTo 0 (some 2) = true ∧
      base.signedIn 0 = true ∧ base.mayLock 0 (some 2) = true ∧ (base.rmg.ranges.get 2).flags.lockEnabled = true ∧
      (base.rmg.ranges.get 2).keyState = .keyed ∧ (base.rmg.ranges.get 2).lock = .locked ∧
      base.unlockKey 0 2 = some (.drawn 2)) ∧
    (keyless.TakesUp (.unlockRange hdr 0 2 (some .both)) ∧ (keyless.rmg.ranges.get 2).lock = .locked ∧ keyless.unlockKey 0 2 = none) ∧
    base.TakesUp (.unlockRange hdr 0 3 (some .write)) ∧ (base.rmg.ranges.get 3).lock = .readOnly ∧
    base.TakesUp (.unlockRange hdr 1 1 (some .read)) ∧ base.mayLock 1 (some 1) = true ∧
    (base.rmg.ranges.get 1).lock = .opened ∧ (base.rmg.ranges.get 4).lock = .locking :=
  ⟨⟨takesUp_base, by decide +kernel⟩, ⟨takesUp_of rfl rfl (by decide) (by decide), by decide, by decide +kernel⟩,
    takesUp_base, by decide, takesUp_base, by decide +kernel, by decide, by decide⟩

theorem test_witness_RekeyRangeReplacesKeyAndEnvelopes :
    (base.TakesUp (.rekeyRange hdr 0 1) ∧ base.model.bumped = false ∧ base.adminActs 0 = true ∧ base.defined 1 = true ∧
      base.rmg.domainKey = some (.drawn 0) ∧ base.rekeyDeferred (some 1) = false ∧ base.freeDeferred.isSome ∧
      (base.rmg.ranges.get 1).slot = some 0 ∧ 1 ≤ (base.kln.slots.get 0).pins ∧
      (base.rmg.ranges.get 1).flags.lockEnabled = true ∧ base.LockingStayLocked) ∧
    (unpinned.TakesUp (.rekeyRange hdr 0 1) ∧ (unpinned.kln.slots.get 0).state = .loaded ∧ (unpinned.kln.slots.get 0).pins = 0) ∧
    (∀ queue, (loading queue).TakesUp (.rekeyRange hdr 0 1) ∧ ((loading queue).kln.slots.get 0).state = .loading ∧
      ((loading queue).kln.slots.get 0).pins = 0 ∧ (loading queue).kln.queue = queue ∧ (loading queue).SlotsDistinct) ∧
    [frame .load 0].filter (fun f => !(f.op == .load && f.slot == 0)) ≠ [frame .load 0] ∧
    (∀ next, (clearingOne next).TakesUp (.rekeyRange hdr 0 1) ∧ ((clearingOne next).kln.slots.get 0).state = .clearing ∧
      ((clearingOne next).kln.slots.get 0).next = next) ∧
    ((base.rmg.ranges.get 0).flags.lockEnabled = false ∧ (base.rmg.ranges.get 0).slot = none ∧ base.thm.level ≠ .alarm ∧
      base.TakesUp (.rekeyRange hdr 0 0) ∧ base.rekeyDeferred (some 0) = false) ∧
    (base.rmg.ranges.get 2).slot = none ∧ (base.rmg.ranges.get 2).flags.lockEnabled = true :=
  ⟨⟨takesUp_base, rfl, by decide, by decide, rfl, by decide, by decide, by decide, by decide, by decide, base_stays⟩,
    ⟨takesUp_of rfl rfl (by decide) (by decide), by decide, by decide⟩,
    fun _ => ⟨takesUp_of rfl rfl (by show 0 + 0 + 1 ≤ 8; decide) (fun h => nomatch h), rfl, rfl, rfl, base_distinct⟩,
    by decide, fun _ => ⟨takesUp_of rfl rfl (by show 0 + 0 + 1 ≤ 8; decide) (fun h => nomatch h), rfl, rfl⟩,
    ⟨by decide, by decide, by decide, takesUp_base, by decide⟩, by decide, by decide⟩

theorem test_witness_ConcealedRangeAnswersAsUndefined :
    (requestOf (.lockRange hdr 1 2 none) = some (0x24, hdr) ∧
      namedRange (.lockRange hdr 1 2 none) = some (1, (2 : RangeIx).val) ∧ base.TakesUp (.lockRange hdr 1 2 none) ∧
      base.concealed 2 = true ∧ base.adminActs 1 = false) ∧
    namedRange (.lockRange hdr 0 15 none) = some (0, (15 : RangeIx).val) ∧ base.defined 15 = false :=
  ⟨⟨rfl, rfl, takesUp_base, by decide, by decide⟩, rfl, by decide⟩

/-- USER2 is not signed in, USER1 holds no envelope for range 3 and is no admin, and the guard of `fixedGuard` does not pass. -/
theorem test_witness_UnauthorisedRequestsAreDenied :
    (base.TakesUp (.lockRange hdr 2 0 none) ∧ namedRange (.lockRange hdr 2 0 none) = some (2, (0 : RangeIx).val) ∧
      mayNameZero (.lockRange hdr 2 0 none) = true ∧ base.defined 0 = true ∧ base.showsTo 2 (some 0) = true ∧
      base.signedIn 2 = false) ∧
    (base.TakesUp (.unlockRange hdr 1 3 none) ∧ mayUserAct (.unlockRange hdr 1 3 none) = true ∧ base.signedIn 1 = true ∧
      base.showsTo 1 (some 3) = true ∧ base.mayLock 1 (some 3) = false) ∧
    (base.TakesUp (.rekeyRange hdr 1 1) ∧ mayUserAct (.rekeyRange hdr 1 1) = false ∧ base.showsTo 1 (some 1) = true ∧
      namesAdmin 1 = false) ∧
    (fixedGuard.TakesUp (.deleteRange hdr 0 2) ∧ namedRange (.deleteRange hdr 0 2) = some (0, (2 : RangeIx).val) ∧
      fixedGuard.defined 2 = true ∧ fixedGuard.showsTo 0 (some 2) = true ∧ isGuarded (.deleteRange hdr 0 2) = true ∧
      fixedGuard.adminActs 0 = true ∧ fixedGuard.guardPasses (Instr.deleteRange hdr 0 2).strap = false) ∧
    (base.TakesUp (.disableAuthority hdr 1 2) ∧ actingAdmin (.disableAuthority hdr 1 2) = some 1 ∧
      base.adminActs 1 = false) ∧
    (fixedGuard.TakesUp (.defineRange hdr 0 ⟨550, 50⟩ flags) ∧ actingAdmin (.defineRange hdr 0 ⟨550, 50⟩ flags) = some 0 ∧
      isGuarded (.defineRange hdr 0 ⟨550, 50⟩ flags) = true) ∧
    (base.TakesUp (.clearCapture hdr 1 (some .bay)) ∧ actingAdminItself (.clearCapture hdr 1 (some .bay)) = some 1) ∧
    fixedGuard.TakesUp (.setGuard hdr 0 none) ∧ actingAdminItself (.setGuard hdr 0 none) = some 0 ∧
      isGuarded (.setGuard hdr 0 none) = true ∧ fixedGuard.signedIn 0 = true :=
  ⟨⟨takesUp_base, by decide⟩, ⟨takesUp_base, by decide +kernel⟩, ⟨takesUp_base, by decide⟩,
    ⟨takesUp_of rfl rfl (by decide) (by decide), by decide⟩, ⟨takesUp_base, by decide⟩,
    ⟨takesUp_of rfl rfl (by decide) (by decide), by decide⟩, ⟨takesUp_base, by decide⟩,
    takesUp_of rfl rfl (by decide) (by decide), by decide⟩

/-- BAY captured, its debouncer's run full and OPEN, the absence check fallen due with its limit, and a wipe token set. -/
def threatened (limit : Nat) : State :=
  ((((base.onThm fun t =>
      { t with
        captures := t.captures.set 0 (some ⟨900, 5, .true_, .calm, 255⟩)
        bay := { settled := .closed, run := 16, runOpen := true }, armed := true }).onTmb fun t =>
      { t with fallen := [⟨.absence, 2047⟩, ⟨.grace, 2047⟩], deadlines := [] }).onSto fun t =>
      { t with policy := { t.policy with absenceLimit := limit } }).onAut fun a =>
      { a with token := some { token := List.replicate 16 0 }, lastSignIn := 0 })

/-- Every envelope position holds an envelope of USER6, and every range index is defined. -/
def crowded : State :=
  small.onRmg fun m =>
    { m with
      envelopes := Table.fill (some { authority := 6, target := .range 1, wrapped := wrapped .device (.drawn 1) })
      ranges := m.ranges.imap fun r e => if r.val < 5 then e else entry (100 + r.val) 1 .locked none }

/-- The engine is taken. -/
def taken : State := atWork (.setCredential 6 cred 5 64 [] [])

theorem test_witness_RefusalsShortOfAcceptanceHaveNoEffect :
    (∀ a credential, unprovisioned.TakesUp (.authenticate hdr a credential) ∧ taken.TakesUp (.authenticate hdr a credential)) ∧
    (credentialFits cred = true ∧ unprovisioned.aut.lifecycle ≠ .provisioned ∧ base.aut.lifecycle = .provisioned ∧
      adminUp.thm.level = .alarm ∧ adminUp.aut.lifecycle = .provisioned ∧ isUser 2 = true ∧ isAdmin 0 = true ∧
      (base.aut.auth.get 7).kept.enabled = false ∧ (base.aut.auth.get 1).kept.enabled = true ∧
      (base.aut.auth.get 1).signedIn = true ∧ (base.aut.auth.get 2).kept.enabled = true ∧
      (base.aut.auth.get 2).signedIn = false ∧ base.aut.secret.isSome ∧ base.aut.paired = false ∧
      (paired none).aut.paired = true ∧ (paired none).deadline (.backoff 2) = none ∧
      (noEntry (paired none)).freeDeferred = none ∧ taken.aut.engine ≠ .idle) ∧
    (∀ c : Instr, c.sized = true → base.TakesUp c ∧ (noEntry base).TakesUp c ∧ crowded.TakesUp c ∧ (noEntry small).TakesUp c) ∧
    ((noEntry base).freeDeferred = none ∧ (noEntry base).adminActs 0 = true ∧ (noEntry base).guardPasses false = true ∧
      crowded.adminActs 0 = true ∧ crowded.emptyPosition = none ∧ crowded.envelopeAt 1 (.range 1) = none ∧
      (crowded.rmg.ranges.get 1).keyState = .keyed ∧ (crowded.rmg.keks.get 1).isSome ∧
      crowded.freeIndex = none ∧ crowded.clearOf ⟨550, 50⟩ none = true) ∧
    ((noEntry base).envelopeAt 1 (.range 3) = none ∧ (noEntry base).emptyPosition.isSome ∧
      ((noEntry base).envelopeAt 1 (.range 1)).isSome ∧ (noEntry small).freeIndex.isSome ∧
      (noEntry small).clearOf ⟨550, 50⟩ none = true ∧ 550 + 50 ≤ (noEntry small).sto.identity.capacity ∧
      ((noEntry small).rmg.ranges.get 2).lock = .locked ∧ (noEntry small).clearOf ⟨150, 150⟩ (some 2) = true ∧
      (noEntry base).defined 2 = true) ∧
    (noEntry unprovisioned).TakesUp (.provision hdr [1] none [0, 15] []) ∧ (noEntry unprovisioned).freeDeferred = none ∧
      (noEntry base).aut.engine = .idle ∧ ((noEntry base).aut.auth.get 2).kept.enabled = true ∧
      itemsFit [{ id := 1, value := 10 }] = true ∧ (noEntry base).sto.guard ≠ .strap ∧
      (noEntry (threatened 0)).TakesUp (.clearCapture hdr 0 (some .bay)) ∧
      ((noEntry (threatened 0)).thm.captures.get (kindIx .bay)).isSome :=
  ⟨fun _ _ => ⟨takesUp_of rfl rfl (by decide) (by decide), takesUp_of rfl rfl (by decide) (by decide)⟩,
    by decide, fun _ sized => ⟨takesUp_of rfl rfl (by decide) (by decide) sized, takesUp_of rfl rfl (by decide) (by decide) sized,
      takesUp_of rfl rfl (by decide) (by decide) sized, takesUp_of rfl rfl (by decide) (by decide) sized⟩, by decide +kernel,
    by decide +kernel, takesUp_of rfl rfl (by decide) (by decide), by decide, by decide, by decide, by decide, by decide,
    takesUp_of rfl rfl (by decide) (by decide), by decide⟩

/-- Range 4 ends the medium, concealed, behind range 3, which is not. -/
def trailing : State :=
  (base.onSto fun t => { t with identity := { t.identity with capacity := 450 } }).onRmg fun m =>
    { m with ranges := m.ranges.set 4 { entry 400 4 .locking (some 1) with flags := { flags with conceal := true } } }

theorem trailing_ranges : trailing.RangesSound := by
  have bounds : ∀ r, (trailing.rmg.ranges.get r).geometry.all (fun g =>
      1 ≤ g.length && g.start + g.length ≤ trailing.sto.identity.capacity) = true := by decide
  have apart : ∀ q r, q = r ∨ (trailing.rmg.ranges.get q).geometry.all (fun g =>
      (trailing.rmg.ranges.get r).geometry.all fun k =>
        g.start + g.length ≤ k.start || k.start + k.length ≤ g.start) = true := by decide
  refine ⟨rfl, fun r g h => ?_, fun q r g k ne hg hk => ?_⟩
  · have b := bounds r
    rw [h] at b
    simpa using b
  · have a := (apart q r).resolve_left ne
    rw [hg, hk] at a
    simpa using a

theorem test_witness_VisibleCapacityEndsBelowTheConcealedRun : trailing.RangesSound ∧ trailing.visibleCapacity = 400 ∧
    trailing.concealed 4 = true ∧ (trailing.rmg.ranges.get 4).geometry = some ⟨400, 50⟩ :=
  ⟨trailing_ranges, by decide +kernel, by decide +kernel, by decide⟩

/-! ### Spans and the lane -/

/-- R28: a span over the end of the medium, from the last block of range 3, is a run in each range and a run beyond. -/
theorem test_pieces : (trailing.pieces 349 103).map (fun p => (p.first, p.count, p.range)) =
    [(349, 1, some 3), (350, 50, some 0), (400, 50, some 4), (450, 2, none)] := by decide +kernel

theorem test_witness_SpanRunsCoverTheSpan : trailing.RangesSound ∧ 1 ≤ 1 ∧
    (trailing.pieces 349 103)[1]?.isSome ∧ (trailing.pieces 349 103)[2]?.isSome := ⟨trailing_ranges, by decide +kernel⟩

theorem base_verdicts : base.VerdictsSound := by unfold State.VerdictsSound; decide

/-- The segments that the RESOLVE of one block is answered with. -/
def segmentsOf (start : Nat) (k : Access) (s : State) : List Segment :=
  (after (.resolve hdr start 0 (some k)) s).lnk.outbound.flatMap fun
    | .reply _ _ { body := .resolved _ _ _ _ segs, .. } => segs
    | _ => []

/-- The verdict table is full. -/
def fullTable : State := base.onSrv fun v => { v with verdicts := (List.range 32).map fun n => ⟨n + 1, 0, 12240, []⟩ }

/-- Every slot is LOADED, and all but slot `i` pinned. -/
def packed (i : Option SlotIx) : State :=
  base.onKln fun k => { k with slots := k.slots.imap fun j l => { l with state := .loaded, pins := if i = some j then 0 else 1 } }

/-- Each clause on a segment has a state and a run that meet it: beyond C, tabled, passed with and without a pin, the table full, a slot
that is LOADING, an EMPTY slot, a slot to evict, and neither. -/
theorem test_witness_ResolveIssuesVerdictsForPasses :
    ((∀ start k, base.TakesUp (.resolve hdr start 0 (some k)) ∧ fullTable.TakesUp (.resolve hdr start 0 (some k)) ∧
        unpinned.TakesUp (.resolve hdr start 0 (some k)) ∧ (loading []).TakesUp (.resolve hdr start 0 (some k)) ∧
        ∀ i, (packed i).TakesUp (.resolve hdr start 0 (some k))) ∧
      base.VerdictsSound ∧ fullTable.VerdictsSound ∧ unpinned.VerdictsSound ∧ (loading []).VerdictsSound ∧
      ∀ i, (packed i).VerdictsSound) ∧
    segmentsOf base.sto.identity.capacity .read base = [⟨base.sto.identity.capacity, 1, none, .beyond⟩] ∧
    (segmentsOf 200 .write base = [⟨200, 1, some 2, .void⟩] ∧ base.tabled 2 .write = some .void) ∧
    (segmentsOf 100 .read base = [⟨100, 1, some 1, .pass 0⟩] ∧ base.tabled 1 .read = none ∧
      (base.rmg.ranges.get 1).slot = some 0 ∧ (base.kln.slots.get 0).state = .loaded ∧ (base.kln.slots.get 0).pins = 1 ∧
      passedSlots (segmentsOf 100 .read base) = [0] ∧ (base.kln.slots.get 1).state ≠ .empty) ∧
    (segmentsOf 100 .read unpinned = [⟨100, 1, some 1, .pass 0⟩] ∧ (unpinned.rmg.ranges.get 1).slot.isSome) ∧
    (segmentsOf 100 .read fullTable = [⟨100, 1, some 1, .wait .verdictsFull⟩] ∧ fullTable.srv.verdicts.length = 32) ∧
    (segmentsOf 100 .read (loading []) = [⟨100, 1, some 1, .wait .loading⟩] ∧
      ((loading []).rmg.ranges.get 1).slot = some 0 ∧ ((loading []).kln.slots.get 0).state ≠ .loaded) ∧
    (segmentsOf 300 .read base = [⟨300, 1, some 3, .wait .loading⟩] ∧ base.tabled 3 .read = none ∧
      (base.rmg.ranges.get 3).slot = none ∧ (base.kln.slots.get 2).state = .empty) ∧
    (segmentsOf 300 .read (packed (some 7)) = [⟨300, 1, some 3, .wait .loading⟩] ∧
      ((packed (some 7)).kln.slots.get 7).pins = 0) ∧
    segmentsOf 300 .read (packed none) = [⟨300, 1, some 3, .wait .slotsPinned⟩] :=
  ⟨⟨fun _ _ => ⟨takesUp_of rfl rfl (by decide) (by decide), takesUp_of rfl rfl (by decide) (by decide),
        takesUp_of rfl rfl (by decide) (by decide), takesUp_of rfl rfl (by decide) (by decide),
        fun _ => takesUp_of rfl rfl (by show 0 + 0 + 1 ≤ 8; decide) (fun h => nomatch h)⟩,
      base_verdicts, by unfold State.VerdictsSound; decide, base_verdicts, base_verdicts, fun _ => base_verdicts⟩,
    by decide +kernel⟩

/-- The lane in this state, the slot of the frame as given, the last bad-load run and the deadline fallen due. -/
def lane (l : Lane) (i : SlotIx) (s : Slot) (run : Nat) : State :=
  (base.onKln fun k => { k with lane := l, slots := k.slots.set i s, badRun := run }).onTmb fun t =>
    { t with fallen := [⟨.laneAck, 2047⟩] }

def handover : State := lane (.awaitAck (frame .clear 0)) 0 { slot 1 1 with state := .clearing, next := some ⟨2, 2⟩ } 0

/-- A range without a slot: an EMPTY slot, one to evict among equals of another use, none, and a CLEAR with a next occupant. -/
theorem test_witness_AllocationTakesTheSlotOfTheRules :
    ((∀ start k, base.TakesUp (.resolve hdr start 0 (some k)) ∧ ∀ i, (packed i).TakesUp (.resolve hdr start 0 (some k))) ∧
      base.pieces 300 1 = [⟨300, 1, some 3⟩] ∧ base.tabled 3 .read = none ∧ (base.rmg.ranges.get 3).slot = none ∧
      (base.kln.slots.get 2).state = .empty) ∧
    ((packed (some 7)).pieces 300 1 = [⟨300, 1, some 3⟩] ∧ (packed (some 7)).tabled 3 .read = none ∧
      (∀ j, ((packed (some 7)).kln.slots.get j).state ≠ .empty) ∧ ((packed (some 7)).kln.slots.get 7).state = .loaded ∧
      ((packed (some 7)).kln.slots.get 7).pins = 0 ∧
      ∀ j, ((packed (some 7)).kln.slots.get j).pins = 0 → j = 7) ∧
    ((packed none).pieces 300 1 = [⟨300, 1, some 3⟩] ∧ (packed none).tabled 3 .read = none ∧
      ∀ j, ((packed none).kln.slots.get j).state ≠ .empty ∧ 1 ≤ ((packed none).kln.slots.get j).pins) ∧
    handover.pwc.power ≠ .unpowered ∧ handover.kln.lane = .awaitAck (frame .clear 0) ∧ (frame .clear 0).op = .clear ∧
      (handover.kln.slots.get 0).next = some ⟨2, 2⟩ :=
  ⟨⟨fun _ _ => ⟨takesUp_of rfl rfl (by decide) (by decide),
      fun _ => takesUp_of rfl rfl (by show 0 + 0 + 1 ≤ 8; decide) (fun h => nomatch h)⟩, by decide +kernel⟩,
    by decide +kernel, by decide +kernel, by decide, rfl, rfl, by decide⟩

/-- The deadlines of both verdicts have fallen due. -/
def expired : State := base.onTmb fun t => { t with fallen := [⟨.verdict 1, 12240⟩, ⟨.verdict 65535, 12240⟩] }

/-- R45: RELEASE of the last pin of a LOCKING range clears its slot. -/
theorem test_release_clears :
    let t := after (.release hdr [65535]) base
    (t.kln.slots.get 1).state = .clearing ∧ (t.kln.slots.get 1).pins = 0 ∧ (t.kln.slots.get 0).pins = 1 := by decide +kernel

def verdictOne : Verdict := { id := 1, issued := 2000, expiry := 12240, segments := [segment 100 0] }

theorem test_witness_VerdictsEndByReleaseAndExpiry :
    (base.TakesUp (.release hdr [1, 0, 1]) ∧ [1, 0, 1][2]? = some 1 ∧ 1 ≤ [0].length ∧ (List.replicate 16 1).length ≤ 16 ∧
      base.VerdictsSound ∧ base.SlotsDistinct ∧
      ∀ j p, (base.kln.slots.get j).occupant = some p → p.range = 4 → j = 1) ∧
    (expired.pwc.power ≠ .unpowered ∧ expired.HasFallen (.verdict 65535) ∧
      (expired.srv.verdicts.find? (fun v => v.id == 65535)).map (fun v => passedSlots v.segments) = some [1] ∧
      (expired.kln.slots.get 1).occupant = some ⟨4, 4⟩ ∧ (expired.rmg.ranges.get 4).slot = some 1 ∧
      (expired.kln.slots.get 1).state = .loaded ∧ (expired.rmg.ranges.get 4).lock = .locking ∧
      (expired.kln.slots.get 1).pins = 1) ∧
    let calm := expired.onRmg fun m => { m with ranges := m.ranges.set 4 (entry 400 4 .opened (some 1)) }
    calm.HasFallen (.verdict 1) ∧ calm.srv.verdicts.find? (fun v => v.id == 1) = some verdictOne ∧
      ∀ r, (calm.rmg.ranges.get r).lock ≠ .locking :=
  ⟨⟨takesUp_base, rfl, by decide, by decide, base_verdicts, base_distinct, by decide⟩,
    ⟨by decide, by unfold State.HasFallen; decide, by decide, by decide, by decide, by decide, by decide, by decide⟩,
    by unfold State.HasFallen; decide, by decide, by decide⟩

def loadSent : State := lane (.sending (frame .load 0)) 0 { slot 1 1 with state := .loading } 0
def loadAwaited : State := lane (.awaitAck (frame .load 0)) 0 { slot 1 1 with state := .loading } 1
def cleared : State := lane (.awaitAck (frame .clear 0)) 0 { slot 1 1 with state := .clearing } 0
def lockEnding : State := lane (.awaitAck (frame .clear 1)) 1 { slot 4 4 with state := .clearing } 0

/-- The LOAD of slot `i` awaits its answer, a clear requested meanwhile. -/
def refused (i : SlotIx) : State := lane (.awaitAck (frame .load i)) i { slot (if i = 0 then 1 else 4) 1 with state := .clearing } 1

/-- `s` with range 4, LOCKING, `lock_enabled` false and its device wrap under this key, a REKEY_RANGE waiting on its lock alone. -/
def plainly (under : Key) (s : State) : State :=
  (s.onRange 4 fun e =>
    { e with flags := { e.flags with lockEnabled := false }, deviceWrap := some (wrapped under (.drawn 9)) }).onLnk fun l =>
    { l with deferred := l.deferred.set 0 (some
      { kind := 0x26, tag := 9, owner := .rmg, range := some 4
        state := .working (.writes [] (some 4) (okWith (.rekeyed 5)) (.plain .storeFault)) }) }

/-- R16, R19: the CLEAR that completes a forced lock opens the range with its new key and loads the lowest EMPTY slot, and READY is REKEY_RANGE's reply. -/
theorem test_forced_lock_opens :
    let t := after (.clearAck true) (plainly .device lockEnding)
    (t.rmg.ranges.get 4).lock = .opened ∧ t.rmg.rangeKeys.get 4 = some (.drawn 9) ∧ (t.kln.slots.get 1).state = .loading ∧
      (t.rmg.ranges.get 4).slot = some 1 ∧ t.lnk.outbound = [.reply 0xA6 9 (okWith (.rekeyed 5))] := by decide +kernel

theorem test_witness_LaneAnswersMoveTheirSlot :
    (loadSent.pwc.power ≠ .unpowered ∧ loadSent.kln.lane = .sending (frame .load 0)) ∧
    (loadAwaited.pwc.power ≠ .unpowered ∧ loadAwaited.kln.lane = .awaitAck (frame .load 0) ∧
      (frame .load 0).op = .load ∧ (loadAwaited.kln.slots.get 0).state = .loading ∧ loadAwaited.kln.badRun ≤ 1) ∧
    (handover.kln.lane = .awaitAck (frame .clear 0) ∧ (frame .clear 0).op = .clear ∧
      (handover.kln.slots.get 0).next = some ⟨2, 2⟩) ∧
    ((cleared.kln.slots.get 0).next = none ∧
      ∀ r, (cleared.rmg.ranges.get r).slot = some 0 → (cleared.rmg.ranges.get r).lock ≠ .locking) ∧
    lockEnding.kln.lane = .awaitAck (frame .clear 1) ∧ (lockEnding.kln.slots.get 1).next = none ∧
      (lockEnding.rmg.ranges.get 4).slot = some 1 ∧ (∀ q, (lockEnding.rmg.ranges.get q).slot = some 1 → q = 4) ∧
      (lockEnding.rmg.ranges.get 4).lock = .locking ∧ (lockEnding.rmg.ranges.get 4).flags.lockEnabled = true ∧
      lockEnding.model.bumped = false ∧
    (refused 0).kln.lane = .awaitAck (frame .load 0) ∧ ((refused 0).kln.slots.get 0).state = .clearing ∧
      (refused 0).kln.badRun = 1 ∧ ((refused 0).rmg.ranges.get 1).slot = some 0 ∧
      (∀ q, ((refused 0).rmg.ranges.get q).slot = some 0 → q = 1) ∧ ((refused 0).rmg.ranges.get 1).lock ≠ .locking ∧
    ((refused 1).kln.slots.get 1).state = .clearing ∧ ((refused 1).rmg.ranges.get 4).slot = some 1 ∧
      (∀ q, ((refused 1).rmg.ranges.get q).slot = some 1 → q = 4) ∧ ((refused 1).rmg.ranges.get 4).lock = .locking ∧
      ((refused 1).rmg.ranges.get 4).flags.lockEnabled = true ∧
    (∀ s ∈ [plainly .device lockEnding, plainly (.drawn 0) lockEnding, plainly .device (refused 1)],
      (s.rmg.ranges.get 4).slot = some 1 ∧ (∀ q, (s.rmg.ranges.get q).slot = some 1 → q = 4) ∧
        (s.rmg.ranges.get 4).lock = .locking ∧ (s.rmg.ranges.get 4).flags.lockEnabled = false ∧ s.model.bumped = false ∧
        s.thm.level = .calm ∧ (s.rmg.ranges.get 4).keyState = .keyed ∧ (s.rmg.ranges.get 4).deviceWrap.isSome) ∧
    (plainly .device lockEnding).kln.lane = .awaitAck (frame .clear 1) ∧
      ((plainly .device lockEnding).kln.slots.get 1).next = none ∧
      (plainly .device (refused 1)).kln.lane = .awaitAck (frame .load 1) := by decide

theorem test_witness_LaneFaultsPurge :
    let load := lane (.awaitAck (frame .load 0)) 0 { slot 1 1 with state := .loading } 2
    let clear := lane (.awaitAck (frame .clear 0)) 0 { slot 1 1 with state := .clearing } 0
    (load.pwc.power ≠ .unpowered ∧ load.model.bumped = false ∧ load.LockingStayLocked ∧
      load.kln.lane = .awaitAck (frame .load 0) ∧ (frame .load 0).op = .load ∧ 2 ≤ load.kln.badRun ∧
      load.HasFallen .laneAck) ∧
    (clear.kln.lane = .awaitAck (frame .clear 0) ∧ clear.LockingStayLocked) ∧
    (lane (.sending (frame .load 0)) 0 (slot 1 1) 0).kln.lane = .sending (frame .load 0) :=
  ⟨⟨by decide, rfl, base_stays, rfl, rfl, by decide, rfl⟩, ⟨rfl, base_stays⟩, rfl⟩

/-- The lane pulsing, in this state, with this HALT_POLICY and lifecycle. -/
def pulsing (l : Lane) (p : HaltPolicy) (c : Lifecycle) : State :=
  ((base.onKln fun k => { k with lane := l, purgePulse := true }).onSto fun t =>
    { t with policy := { t.policy with haltPolicy := p } }).onAut fun a => { a with lifecycle := c }

theorem test_witness_PulseAndHaltGovernTheLane :
    ((pulsing .fault .purge .provisioned).pwc.power ≠ .unpowered ∧
      (pulsing .fault .purge .provisioned).kln.purgePulse = true ∧
      (pulsing .fault .purge .provisioned).kln.lane = .fault ∧ (pulsing .idle .purge .provisioned).kln.lane = .idle) ∧
    ((pulsing .idle .ignore .wiped).pwc.power = .active ∧ (pulsing .idle .ignore .wiped).pwc.stage = .done ∧
      (pulsing .idle .ignore .wiped).pins.halt = false ∧ (pulsing .idle .ignore .wiped).model.bumped = false ∧
      (pulsing .idle .ignore .wiped).LockingStayLocked ∧
      (pulsing .idle .ignore .wiped).sto.policy.haltPolicy = .ignore ∧
      (pulsing .idle .ignore .wiped).aut.lifecycle ≠ .unprovisioned ∧
      (pulsing .idle .finish .wiped).sto.policy.haltPolicy = .finish ∧
      (pulsing .idle .ignore .unprovisioned).aut.lifecycle = .unprovisioned) ∧
    (base.onPins fun p => { p with halt := true }).pins.halt = true :=
  ⟨by decide, ⟨rfl, rfl, rfl, rfl, base_stays, rfl, by decide, rfl, rfl⟩, rfl⟩

/-! ### Threats, the wipe and the store -/

theorem test_witness_ThreatSourcesRaiseTheirTriggers :
    ((threatened 1000).TakesUp (.clearCapture hdr 0 (some .bay)) ∧ ((threatened 1000).aut.auth.get 0).signedIn = true ∧
      ((threatened 1000).thm.captures.get (kindIx .bay)).isSome ∧ (threatened 1000).freeDeferred.isSome ∧
      (threatened 1000).thm.captures.get (kindIx .remote) = none) ∧
    ((threatened 1000).pwc.power ≠ .unpowered ∧ (threatened 1000).pwc.stage = .done ∧
      ((threatened 1000).thm.debouncer .bay).run = 16) ∧
    ((threatened 1000).HasFallen .absence ∧ (threatened 1000).aut.lifecycle = .provisioned ∧
      (threatened 1000).sto.policy.absenceLimit ≠ 0 ∧ (threatened 1000).thm.armed = true ∧
      (threatened 1000).sto.policy.absenceLimit ≤ (threatened 1000).pscNow - (threatened 1000).aut.lastSignIn ∧
      (threatened 1001).pscNow - (threatened 1001).aut.lastSignIn < (threatened 1001).sto.policy.absenceLimit ∧
      (threatened 1001).deadline .absence = none) ∧
    (threatened 1000).TakesUp (.wipe hdr (some 7) (some (List.replicate 16 0))) ∧ tokenFits (List.replicate 16 0) = true ∧
      (threatened 1000).aut.token = some { token := List.replicate 16 0 } ∧
      (threatened 1000).aut.token ≠ some { token := List.replicate 16 1 } :=
  ⟨⟨takesUp_of rfl rfl (by decide) (by decide), by decide, by decide, by decide, by decide⟩, ⟨by decide, rfl, rfl⟩,
    ⟨rfl, rfl, by decide, rfl, by decide, by decide, by decide⟩, takesUp_of rfl rfl (by decide) (by decide), by decide, rfl,
    by decide⟩

/-- At this level, BAY answered so. -/
def responding (level : Level) (r : Response) : State :=
  ((base.onThm fun t => { t with level := level, grace := some 1000 }).onSto fun t =>
    { t with policy := { t.policy with responseBay := r } }).onTmb fun t => { t with fallen := [⟨.grace, 2047⟩] }

/-- WARY, BAY answered ALARM with no grace. -/
def ungraced : State := (responding .wary .alarm).onSto fun t => { t with policy := { t.policy with grace := 0 } }

theorem test_witness_TriggersAreCapturedAndRaiseTheLevel :
    (threatened 0).pwc.power ≠ .unpowered ∧ (threatened 0).pwc.stage = .done ∧
    (threatened 0).thm.captures.get (kindIx .bay) = some ⟨900, 5, .true_, .calm, 255⟩ ∧
    (threatened 0).thm.captures.get (kindIx .caseSw) = none ∧
    (wiping.thm.level = .wiping) ∧ base.thm.level ≠ .wiping ∧ base.thm.level.rank < (base.response .budget).rank ∧
    (ungraced.pwc.power ≠ .unpowered ∧ ungraced.pwc.stage = .done ∧ ungraced.thm.level ≠ .wiping ∧
      ungraced.thm.level.rank < (ungraced.response .bay).rank ∧ ungraced.response .bay = .alarm ∧
      ungraced.sto.policy.grace = 0) := by decide

/-- CALM with BAY answered WARY, the slot of range 1 unpinned in this state. -/
def waryOver (state : SlotState) : State :=
  (responding .calm .wary).onKln fun k => { k with slots := k.slots.set 0 { slot 1 1 with state := state, pins := 0 } }

/-- WARY with BAY answered ALARM, this job deriving with its reply deferred. -/
def alarmOver (j : Job) : State :=
  ((responding .wary .alarm).onAut fun a => { a with engine := .deriving_ j }).onLnk fun l =>
    { l with deferred := l.deferred.set 0 (some
      { kind := 0x11, tag := 9, owner := .aut, range := none, state := .working .engine }) }

/-- A reply that a write keeps waiting. -/
def writing : Work := .writes [⟨.policy, true⟩] none (okWith .empty) (.plain .storeFault)

theorem test_witness_LevelEntriesTakeTheirEffects :
    ((responding .calm .wary).pwc.power ≠ .unpowered ∧ (responding .calm .wary).pwc.stage = .done ∧
      (responding .calm .wary).model.bumped = false ∧ (responding .calm .wary).response .bay = .wary ∧
      (responding .calm .wary).thm.level = .calm ∧ (responding .calm .wary).SlotsDistinct) ∧
    ((responding .wary .alarm).response .bay = .alarm ∧ (responding .wary .alarm).thm.level = .wary ∧
      (responding .wary .alarm).sto.policy.grace ≠ 0) ∧
    ((responding .calm .wipe).response .bay = .wipe ∧ (responding .calm .wipe).thm.level ≠ .wiping) ∧
    ((responding .calm .wary).wary 1 = true ∧ ((responding .calm .wary).rmg.ranges.get 1).slot = some 0 ∧
      ((responding .calm .wary).kln.slots.get 0).pins = 1 ∧ (responding .calm .wary).wary 3 = true ∧
      ((responding .calm .wary).rmg.ranges.get 3).slot = none ∧ (responding .calm .wary).wary 0 = false ∧
      ∀ i, ((responding .calm .wary).kln.slots.get i).next = none) ∧
    (∀ state, ((waryOver state).kln.slots.get 0).state = state ∧ ((waryOver state).kln.slots.get 0).pins = 0 ∧
      (waryOver state).response .bay = .wary ∧ (waryOver state).SlotsDistinct ∧ (waryOver state).pwc.stage = .done) ∧
    ((alarmOver (.authenticate 2 cred)).aut.engine.job = some (.authenticate 2 cred) ∧ isUser 2 = true ∧
      (alarmOver (.authenticate 2 cred)).response .bay = .alarm ∧ (alarmOver (.authenticate 2 cred)).thm.level = .wary ∧
      (alarmOver (.authenticate 2 cred)).lnk.deferred.get 0 = some
        { kind := 0x11, tag := 9, owner := .aut, range := none, state := .working .engine } ∧
      (alarmOver (.setCredential 2 cred 5 64 [] [])).aut.engine.job = some (.setCredential 2 cred 5 64 [] []) ∧
      (alarmOver (.authenticate 0 cred)).aut.engine.job = some (.authenticate 0 cred) ∧ isAdmin 0 = true) ∧
    (responding .alarm .alarm).thm.level = .alarm ∧ (responding .alarm .alarm).HasFallen .grace :=
  ⟨⟨by decide, rfl, rfl, rfl, rfl, by unfold State.SlotsDistinct; decide⟩, ⟨rfl, rfl, by decide⟩, ⟨rfl, by decide⟩,
    by decide, fun _ => ⟨rfl, rfl, rfl, base_distinct, rfl⟩, by decide, rfl, rfl⟩

/-- WIPING at this step, with this write in flight for WPC, a key record and a capture marked. -/
def wipeWriting (step : WipeStep) (phase : WipePhase) (c : RecContent) (forWipe : Bool) : State :=
  (wiping.onWpc fun w =>
    { w with
      step := step, phase := phase, next := if phase = .erasing then some .k1 else none
      waits := if forWipe then [] else [⟨.counters, true⟩] }).onSto fun t =>
    { t with inFlight := some (.write c true forWipe), dirty := [⟨.rangeKey 3, false, 1⟩, ⟨.capture 0, false, 2⟩] }

/-- What every clause asks, then the whole of each clause's own: the entry and an erase's write in each phase, each group's last rewrite
with the next record, and the final write. -/
theorem test_witness_WipeGoesOnAsItsWritesEnd :
    (∀ step phase c forWipe, (wipeWriting step phase c forWipe).pwc.power = .active ∧
      (wipeWriting step phase c forWipe).pwc.stage = .done ∧ (wipeWriting step phase c forWipe).aut.engine = .idle ∧
      (wipeWriting step phase c forWipe).rmg.grants = [] ∧
      (wipeWriting step phase c forWipe).sto.inFlight = some (.write c true forWipe) ∧
      (false = true ∨ true = true) ∧ (wipeWriting step phase c forWipe).wpc.step = step ∧
      (wipeWriting step phase c forWipe).wpc.phase = phase ∧ (wipeWriting step phase c forWipe).model.bumped = false) ∧
    (∀ step phase k, (∃ r, RecContent.counters k = .counters r) ∧
      waitsOn .counters (wipeWriting step phase (.counters k) false).wpc.waits = true) ∧
    ((wipeWriting .entry .erasing (.counters .factory) false).wpc.next = some .k1 ∧
      (wipeWriting (.erasing .k0) .erasing (.counters .factory) false).wpc.step = .erasing .k0 ∧
      (wipeWriting (.erasing .k3) .rewriting (.counters .factory) false).wpc.phase = .rewriting) ∧
    ((wipeWriting (.rewriting 15) .rewriting (.rangeKey 15 .erased) true).wpc.step = .rewriting 15 ∧
      (16 : Fin 25).val = (15 : Fin 25).val + 1 ∧ groupEnd 15 = some .rangeKeys ∧ groupEnd 23 = some .authorities ∧
      (24 : Fin 25).val = (23 : Fin 25).val + 1 ∧ groupEnd 24 = some .pairing ∧ (24 : Fin 25).val = 24 ∧
      (∀ m : Fin 25, m.val ≠ (24 : Fin 25).val + 1)) ∧
    (wipeWriting .closing .rewriting (.counters .factory) false).wpc.step = .closing :=
  ⟨fun _ _ _ _ => ⟨rfl, rfl, rfl, rfl, rfl, .inr rfl, rfl, rfl, rfl⟩, fun _ _ k => ⟨⟨k, rfl⟩, rfl⟩, by decide, by decide, rfl⟩

/-- R121, R124, R125: the entry write leads to the erase of the next bank, the fifteenth rewrite to AUTHORITY 0, the final write to CALM. -/
theorem test_wipe_writes :
    (after (.recordWrite true true) (wipeWriting .entry .erasing (.counters .factory) false)).sto.inFlight =
      some (.erase .k1 false) ∧
    (after (.recordWrite true true) (wipeWriting (.rewriting 15) .rewriting (.rangeKey 15 .erased) true)).wpc.step =
      .rewriting 16 ∧
    (after (.recordWrite false true) (wipeWriting .closing .rewriting (.counters .factory) false)).thm.level = .calm := by
  decide +kernel

/-- The engine in this state, its deferred entry with it, and this write in flight. -/
def engineWriting (e : Engine) (c : RecContent) : State :=
  ((deriving_ 2 cred).onAut fun a => { a with engine := e }).onSto fun t => { t with inFlight := some (.write c true false) }

theorem test_witness_ChargesAndProvisionGoOnAsTheirWritesEnd :
    (∀ e c, (engineWriting e c).pwc.power ≠ .unpowered ∧ (engineWriting e c).pwc.stage = .done ∧
      (engineWriting e c).sto.inFlight = some (.write c true false) ∧ waitsOn c.id (engineWriting e c).wpc.waits = false ∧
      waitsOn c.id (engineWriting e c).rmg.grants = false ∧ (engineWriting e c).aut.engine = e ∧
      (engineWriting e c).lnk.deferred.get 0 = some
        { kind := 0x11, tag := 9, owner := .aut, range := none, state := .working .engine }) ∧
    waitsOn (RecContent.counters .factory).id [⟨.counters, true⟩, ⟨.authority 2, false⟩] = true ∧
    waitsOn (RecContent.rangeKey 15 .erased).id [⟨.rangeKey 15, true⟩] = true ∧ base.defined 15 = false ∧
    base.defined 0 = true ∧ base.model.bumped = false :=
  ⟨fun _ _ => ⟨(fun h => nomatch h), rfl, rfl, rfl, rfl, rfl, rfl⟩, by decide, by decide, by decide, by decide, rfl⟩

/-- R79, R75: the last of a charge's writes starts the derivation; the lifecycle's write gives the global range a fresh key. -/
theorem test_engine_writes :
    (after (.recordWrite true true) (engineWriting (.charging (.authenticate 2 cred) [⟨.counters, true⟩])
      (.counters .factory))).aut.engine = .deriving_ (.authenticate 2 cred) ∧
    ((after (.recordWrite true true) (engineWriting (.finishing .lifecycle (.drawn 0) [⟨.counters, true⟩])
      (.counters .factory))).rmg.ranges.get 0).generation = 0 := by decide +kernel

/-- POLICY is being written, a reply waits on it, and IDENTITY is marked behind it. -/
def policyWritten (retry : Bool) : State :=
  (base.onSto fun t =>
    { t with inFlight := some (.write (.policy .default) retry false), dirty := [⟨.pairing, true, 1⟩] }).onLnk fun l =>
    { l with deferred := l.deferred.set 3 (some
      { kind := 0x04, tag := 9, owner := .sto, range := none, state := .working writing }) }

theorem test_witness_StoreOperationsEndByTheirVerify :
    ((policyWritten true).pwc.power ≠ .unpowered ∧
      (policyWritten true).sto.inFlight = some (.write (.policy .default) true false) ∧
      (policyWritten true).pwc.stage = .done ∧ (policyWritten true).pwc.power = .active ∧
      (policyWritten true).lnk.deferred.get 3 = some
        { kind := 0x04, tag := 9, owner := .sto, range := none, state := .working writing } ∧
      waitsOn (RecContent.policy .default).id [⟨.policy, true⟩] = true) ∧
    ((policyWritten false).sto.inFlight = some (.write (.policy .default) false false) ∧
      waitsOn .policy (policyWritten false).wpc.waits = false ∧ waitsOn .policy (policyWritten false).rmg.grants = false ∧
      (policyWritten false).aut.engine = .idle ∧ (policyWritten false).sto.waitingWipe = none ∧
      (policyWritten false).sto.dirty = [⟨.pairing, true, 1⟩]) ∧
    (erasing.pwc.power ≠ .unpowered ∧ erasing.sto.inFlight = some (.erase .k0 false)) ∧
    let wipe := (erasing.onWpc fun w => { w with step := .erasing .k3 }).onSto fun t =>
      { t with inFlight := some (.erase .k3 true) }
    wipe.sto.inFlight = some (.erase .k3 true) ∧ wipe.wpc.step = .erasing .k3 ∧ envelopeBank 47 = .k3 ∧
    let keys := (wiping.onWpc fun w => { w with step := .erasing .k0 }).onSto fun t => { t with inFlight := some (.erase .k0 true) }
    keys.pwc.power = .active ∧ keys.sto.inFlight = some (.erase .k0 true) ∧ keys.wpc.step = .erasing .k0 ∧
      erasing.wpc.step ≠ .erasing .k0 := by decide +kernel

/-! ### Time -/

/-- Every deadline of TMB has fallen due, with the quality and supervisor as given. -/
def due (q : Quality) (v : Supervisor) : State :=
  (base.onTmb fun t =>
    { t with
      quality := q, supervisor := v, xoPulse := true
      fallen := [⟨.persistence, 2047⟩, ⟨.calibration, 2047⟩, ⟨.watch, 2047⟩, ⟨.stimulation, 2047⟩] }).onSto fun t =>
    { t with policy := { t.policy with stimulation := true } }

/-- R136, R150: at the second boundary 2,048 the persistence deadline, due at PSC 1,001, has fallen due, and the verdicts' have not. -/
theorem test_second_boundary :
    let t := after (.tickBoundary ⟨false, false, 0⟩) base
    t.tmb.uptime = 2048 ∧ t.tmb.psc = some 1001 ∧ t.tmb.fallen.map Deadline.purpose = [.persistence] ∧
      t.tmb.deadlines.map Deadline.purpose = [.verdict 1, .verdict 65535] := by decide +kernel

theorem test_witness_DeadlinesFallDueAndAreTaken :
    (base.pwc.power ≠ .unpowered ∧ base.pwc.stage = .done ∧ ⟨.verdict 1, 12240⟩ ∈ base.tmb.deadlines ∧
      base.tmb.source = .rc) ∧
    ((due .uncalibrated .inUse).pwc.power ≠ .unpowered ∧ (due .uncalibrated .inUse).HasFallen .persistence ∧
      (due .uncalibrated .inUse).tmb.fallen.find? (fun e => e.purpose == .calibration) = some ⟨.calibration, 2047⟩ ∧
      (due .uncalibrated .inUse).tmb.supervisor = .inUse ∧ (due .uncalibrated .inUse).HasFallen .watch ∧
      (due .uncalibrated .inUse).tmb.quality = .uncalibrated ∧ (due .true_ .confirmed).tmb.supervisor = .confirmed) ∧
    ((due .holdover (.confirming 4)).tmb.fallen.find? (fun e => e.purpose == .stimulation) = some ⟨.stimulation, 2047⟩ ∧
      (due .holdover (.confirming 4)).tmb.quality = .holdover ∧
      (due .holdover (.confirming 4)).tmb.supervisor = .confirming 4 ∧
      (due .holdover (.confirming 4)).sto.policy.stimulation = true ∧
      (due .holdover (.confirming 4)).tmb.xoPulse = true) := by
  unfold State.HasFallen
  decide

/-- TMB with its supervisor, a window, an awaited edge and an accepted confirmation past its boundary. -/
def timing (q : Quality) (v : Supervisor) : State :=
  base.onTmb fun t =>
    { t with
      quality := q, supervisor := v, window := some .confirmation, awaitEdge := true
      switchTo := some { measured := 8611, boundary := true } }

theorem test_witness_CrystalIsSupervisedAndCalibrates :
    ((timing .holdover (.confirming 32768)).pwc.power ≠ .unpowered ∧
      (timing .holdover (.confirming 32768)).tmb.supervisor = .confirming 32768 ∧
      (timing .holdover (.confirming 32631)).tmb.xoPulse = false ∧
      32768 ≤ 32631 + (timing .holdover (.confirming 32631)).tmb.divisorInUse / 4 + 1 ∧
      32630 + (timing .holdover (.confirming 32630)).tmb.divisorInUse / 4 + 1 < 32768 ∧ 32767 ≠ 32768 ∧
      ((timing .holdover (.confirming 32767)).onTmb fun t => { t with xoPulse := true }).tmb.xoPulse = true) ∧
    ((timing .holdover .confirmed).tmb.supervisor = .confirmed ∧ (timing .holdover .confirmed).tmb.quality = .holdover ∧
      (timing .holdover .confirmed).tmb.awaitEdge = true ∧
      (timing .holdover .confirmed).tmb.window = some .confirmation ∧
      (timing .holdover .confirmed).tmb.switchTo = some { measured := 8611, boundary := true }) ∧
    (timing .true_ .inUse).tmb.supervisor = .inUse ∧ (4096 ≤ 4096 ∧ 16384 ≤ 16384) ∧ 4095 < 4096 ∧ 16384 < 16385 := by
  decide

/-- R143: the count 8,611 sets D to 286, 16,385 leaves it, and R143's bounds are in the band. -/
theorem test_counts :
    (after (.calibrationCount 8611) (timing .holdover .confirmed)).tmb.divisor = 286 ∧
    (after (.calibrationCount 16385) (timing .holdover .confirmed)).tmb.divisor = 544 ∧
    (after (.calibrationCount 4096) (timing .holdover .confirmed)).tmb.divisor = 136 := by decide +kernel

/-! ## One step -/

/-- R34, R40: a read of OPEN range 1 passes on its slot; a read of concealed range 2 is BLANK and a write of it VOID; a read of LOCKING
range 4 is denied; a read of READ_ONLY range 3, whose slot is yet to be allocated, waits. -/
theorem test_resolve_dispositions :
    let one (start : Nat) (k : Access) := (after (.resolve hdr start 0 (some k)) base).lnk.outbound.filterMap fun
      | .reply _ _ { body := .resolved _ _ _ _ segs, .. } => some (segs.map Segment.disposition)
      | _ => none
    one 100 .read = [[.pass 0]] ∧ one 200 .read = [[.blank]] ∧ one 200 .write = [[.void]] ∧ one 400 .read = [[.deny]] ∧
      one 300 .read = [[.wait .loading]] := by decide +kernel

/-- R38: the id after 65,535 is the lowest free one from 1 on, here 2. -/
theorem test_verdict_id_wraps :
    (after (.resolve hdr 100 0 (some .read)) base).srv.verdicts.map Verdict.id = [1, 65535, 2] := by decide +kernel

/-- R7: the map generation after 4,294,967,295 is 1, never 0. -/
theorem test_generation_wraps : (after (.lockRange hdr 0 3 (some .all)) base).rmg.mapGen = 1 := by decide +kernel

/-- R43: an id listed twice reads OK, then STALE. -/
theorem test_release_twice :
    (after (.release hdr [1, 1, 0]) base).lnk.outbound =
      [.reply 0xB1 7 { result := .ok, body := .released [true, false, false] }] := by decide +kernel

/-- R10: DEFINE_RANGE takes the key generation on from 65,535 to 0; R20 does so for REKEY_RANGE of the global range. -/
theorem test_key_generation_wraps :
    ((after (.rekeyRange hdr 0 0) base).rmg.ranges.get 0).generation = 0 := by decide +kernel

/-- R14: the list begins with the global range and goes up by start; range 2, concealed, is shown to an admin only. -/
theorem test_listing :
    let shown (acting : Option Nat) := (after (.listRanges hdr acting) base).lnk.outbound.filterMap fun
      | .reply _ _ r => some (r.entries.map ListedRange.index)
      | .notice _ => none
    shown (some 0) = [[0, 1, 2, 3, 4]] ∧ shown none = [[0, 1, 3, 4]] := by decide +kernel

end Sys2Proof.Tests
end

section
/-! PROOFS. The statements about ranges, keys and envelopes. They are elaborated one at a time: each of Lean's worker threads would
take its stack out of the memory the check allows. -/

set_option Elab.async false

section
/-! PROOFS. What each shared operation keeps: the relation `State.Keeps` from one state to the next, which carries the invariants
of ranges, keys, authorities, the engine, counts, settings and the start, and `State.KeepsAll`, with the awaited locks beside them. -/

namespace Sys2Proof.Machine

/-! ## The relation -/

/-- The range whose lock the deferred reply at a position waits on (R19, R21). -/
def State.awaited (s : State) (i : DeferIx) : Option RangeIx :=
  (s.lnk.deferred.get i).bind fun d => match d.state with
    | .working w => w.awaits
    | .ready _ => none

theorem State.locksAwaited_iff (s : State) :
    s.LocksAwaited ↔ ∀ i r, s.awaited i = some r → (s.rmg.ranges.get r).lock = .locking := by
  constructor
  · intro h i r hr
    obtain ⟨d, hd, hw⟩ := Option.bind_eq_some_iff.mp hr
    split at hw
    · next w hs => exact h i d w r hd hs hw
    · cases hw
  · intro h i d w r hd hs hw
    exact h i r (by simp only [State.awaited, hd, Option.bind_some, hs, hw])

/-- Every lock awaited in `t` was awaited in `s`, by the same entry. -/
def State.AwaitsFrom (s t : State) : Prop := ∀ i r, t.awaited i = some r → s.awaited i = some r

theorem State.AwaitsFrom.refl (s : State) : s.AwaitsFrom s := fun _ _ h => h

theorem State.AwaitsFrom.trans {s t u : State} (h : s.AwaitsFrom t) (k : t.AwaitsFrom u) : s.AwaitsFrom u :=
  fun i r hr => h i r (k i r hr)

theorem State.AwaitsFrom.of_deferred {s t : State} (h : t.lnk.deferred = s.lnk.deferred) : s.AwaitsFrom t := by
  intro i r hr
  simpa only [State.awaited, h] using hr

/-- The map generation lies within its values (R7). -/
def State.MapGenHeld (s : State) : Prop := 1 ≤ s.rmg.mapGen ∧ s.rmg.mapGen ≤ 4294967295

/-- The invariants that `s` meets, `t` meets, those of the engine and of the awaited locks aside. -/
structure State.Keeps (s t : State) : Prop where
  mapGen : s.MapGenHeld → t.MapGenHeld
  counts : s.CountsSound → t.CountsSound
  settings : s.SettingsSound → t.SettingsSound
  ranges : s.RangesSound → t.RangesSound
  rangeKeys : s.RangeKeysSound → t.RangeKeysSound
  authorityKeys : s.AuthorityKeysSound → t.AuthorityKeysSound
  stage : s.StageSound → t.StageSound

/-- The invariants that `s` meets, `t` meets, the engine's aside. -/
structure State.KeepsLocks (s t : State) : Prop extends State.Keeps s t where
  awaited : s.RangeKeysSound → s.LocksAwaited → t.LocksAwaited

/-- The invariants that `s` meets, `t` meets. -/
structure State.KeepsAll (s t : State) : Prop extends State.KeepsLocks s t where
  engine : s.EngineSound → t.EngineSound

theorem State.Keeps.trans {s t u : State} (h : s.Keeps t) (k : t.Keeps u) : s.Keeps u :=
  ⟨k.mapGen ∘ h.mapGen, k.counts ∘ h.counts, k.settings ∘ h.settings, k.ranges ∘ h.ranges, k.rangeKeys ∘ h.rangeKeys,
    k.authorityKeys ∘ h.authorityKeys, k.stage ∘ h.stage⟩

theorem State.KeepsLocks.trans {s t u : State} (h : s.KeepsLocks t) (k : t.KeepsLocks u) : s.KeepsLocks u :=
  ⟨h.toKeeps.trans k.toKeeps, fun hk ha => k.awaited (h.rangeKeys hk) (h.awaited hk ha)⟩

theorem State.KeepsAll.refl (s : State) : s.KeepsAll s := ⟨⟨⟨id, id, id, id, id, id, id⟩, fun _ => id⟩, id⟩

theorem State.KeepsAll.trans {s t u : State} (h : s.KeepsAll t) (k : t.KeepsAll u) : s.KeepsAll u :=
  ⟨h.toKeepsLocks.trans k.toKeepsLocks, k.engine ∘ h.engine⟩

theorem State.KeepsAll.foldl {α : Type} (f : State → α → State) (h : ∀ (s : State) a, s.KeepsAll (f s a)) (l : List α) (s : State) :
    s.KeepsAll (l.foldl f s) := by
  induction l generalizing s with
  | nil => exact .refl _
  | cons a l ih => exact (h s a).trans (ih _)

/-! ## What the invariants do not speak of -/

/-- The parts of the state that none of these invariants speaks of, the awaited locks aside. -/
def Part.unruled : List Part :=
  [.waiting, .outbound, .pendingSet, .deferred, .overrun, .period, .sdo, .envelopes, .grants, .verdicts, .slots, .badRun, .hold,
    .purgePulse, .lane, .lifecycle, .lastSignIn, .pairing, .grace, .raised, .debouncers, .armed, .reports, .wipe, .uptime,
    .quality, .tick, .supervisor, .calibration, .xo, .deadlines, .fallen, .clockEvent, .records, .operation, .dirty, .faulty,
    .guard, .resetCause, .selTimed, .pins, .draws, .queue]

theorem Engine.plain_job (e : Engine) : e.plain.job = e.job.map id := by cases e <;> rfl

theorem Engine.plain_idle (e : Engine) : e.plain = .idle ↔ e = .idle := by cases e <;> simp [Engine.plain]

/-- The invariants speak of the engine up to the writes it waits on. -/
theorem State.EngineSound.of_plain {s t : State} (hl : t.thm.level = s.thm.level)
    (he : t.aut.engine.plain = s.aut.engine.plain) (h : s.EngineSound) : t.EngineSound := by
  have hj : t.aut.engine.job = s.aut.engine.job := by
    simpa [Engine.plain_job] using congrArg Engine.job he
  refine ⟨fun hw => ?_, fun ha => ?_⟩
  · rw [← Engine.plain_idle, he, Engine.plain_idle]
    exact h.1 (hl ▸ hw)
  · rw [hj]
    exact h.2 (hl ▸ ha)

/-- An operation on parts of which the invariants do not speak keeps them. -/
theorem Unchanged.keeps {e : List Part} {s t : State} (h : Unchanged e s t) (he : e ⊆ Part.unruled := by decide) :
    s.Keeps t := by
  have h : Unchanged Part.unruled s t := h.mono he
  have ranges : t.rmg.ranges = s.rmg.ranges := h .ranges (by decide)
  have identity : t.sto.identity = s.sto.identity := h .identity (by decide)
  have auth : t.aut.auth = s.aut.auth := h .authorities (by decide)
  constructor
  · rw [State.MapGenHeld, State.MapGenHeld, show t.rmg.mapGen = s.rmg.mapGen from h .mapGen (by decide)]
    exact id
  · rw [State.CountsSound, State.CountsSound, auth, show t.tmb.psc = s.tmb.psc from h .psc (by decide),
      show t.aut.tryCount = s.aut.tryCount from h .tryCount (by decide),
      show t.thm.captures = s.thm.captures from h .captures (by decide)]
    exact id
  · rw [State.SettingsSound, State.SettingsSound, show t.sto.policy = s.sto.policy from h .policy (by decide)]
    exact id
  · rw [State.RangesSound, State.RangesSound, ranges, identity]
    exact id
  · simp only [State.RangeKeysSound, State.defined, ranges,
      show t.rmg.rangeKeys = s.rmg.rangeKeys from h .rangeKeys (by decide)]
    exact id
  · rw [State.AuthorityKeysSound, State.AuthorityKeysSound, State.adminSignedIn, State.adminSignedIn, auth,
      show t.rmg.domainKey = s.rmg.domainKey from h .domainKey (by decide),
      show t.rmg.keks = s.rmg.keks from h .keks (by decide)]
    exact id
  · rw [State.StageSound, State.StageSound, show t.pwc.power = s.pwc.power from h .power (by decide),
      (show t.pwc.stage = s.pwc.stage ∧ _ from h .stage (by decide)).1]
    exact id

/-- So it does with the awaited locks, where none is new. -/
theorem Unchanged.keepsAll {e : List Part} {s t : State} (h : Unchanged e s t) (ha : s.AwaitsFrom t)
    (he : e ⊆ Part.unruled := by decide) : s.KeepsAll t := by
  have h' : Unchanged Part.unruled s t := h.mono he
  refine ⟨⟨h.keeps he, fun _ hl => ?_⟩, State.EngineSound.of_plain (h' .level (by decide)) (h' .engine (by decide))⟩
  rw [State.locksAwaited_iff] at hl ⊢
  intro i r hr
  rw [show t.rmg.ranges = s.rmg.ranges from h' .ranges (by decide)]
  exact hl i r (ha i r hr)

/-- An operation that leaves the deferred-reply table. -/
theorem Unchanged.keepsAll_of_deferred {e : List Part} {s t : State} (h : Unchanged e s t)
    (hd : t.lnk.deferred = s.lnk.deferred := by rfl) (he : e ⊆ Part.unruled := by decide) : s.KeepsAll t :=
  h.keepsAll (.of_deferred hd) he

end Sys2Proof.Machine
end

section
/-! PROOFS. The operations of Ops, and the end of an occurrence, keep the invariants. -/

namespace Sys2Proof.Machine

/-! ## Deferred replies -/

/-- The lock that a deferred reply's new state waits on is one its work waited on. -/
def Work.onlyDrops (f : Work → DeferState) : Prop := ∀ w v r, f w = .working v → v.awaits = some r → w.awaits = some r

/-- Rewriting the work of the WORKING entries, no lock being newly awaited. -/
theorem State.onWork_awaitsFrom {f : Work → DeferState} (hf : Work.onlyDrops f) (s : State) :
    s.AwaitsFrom (s.onLnk (Lnk.onWork f)) := by
  intro i r hr
  simp only [State.awaited, State.onLnk_lnk, Lnk.onWork, Table.get_imap] at hr ⊢
  cases hd : s.lnk.deferred.get i with
  | none => simp [hd] at hr
  | some d =>
    obtain ⟨kind, tag, owner, range, w | reply⟩ := d
    · simp only [hd, Option.map_some, Option.bind_some] at hr ⊢
      split at hr
      · next v hv => exact hf w v r hv hr
      · cases hr
    · simp [hd] at hr

theorem State.onWork_keepsAll {f : Work → DeferState} (hf : Work.onlyDrops f) (s : State) :
    s.KeepsAll (s.onLnk (Lnk.onWork f)) :=
  (s.onWork_unchanged f).keepsAll (s.onWork_awaitsFrom hf)

theorem State.answerJob_keepsAll (r : Reply) (s : State) : s.KeepsAll (s.answerJob r) := by
  refine s.onWork_keepsAll ?_
  intro w v q h hv
  cases w <;> cases h <;> exact hv

/-- An entry just taken awaits what its work awaits; the others stand. -/
theorem State.defer_awaited (i j : DeferIx) (kind tag : Byte) (b : Block) (range : Option RangeIx) (w : Work) (s : State) :
    (s.defer i kind tag b range w).awaited j = if i = j then w.awaits else s.awaited j := by
  simp only [State.awaited, State.defer, State.onLnk_lnk, Table.get_set]
  split <;> rfl

/-- A request that takes a deferred-reply entry keeps the invariants where the lock it awaits, if any, is LOCKING. -/
theorem State.defer_keepsAll {i : DeferIx} {kind tag : Byte} {b : Block} {range : Option RangeIx} {w : Work} {s : State}
    (h : ∀ r, w.awaits = some r → (s.rmg.ranges.get r).lock = .locking) : s.KeepsAll (s.defer i kind tag b range w) := by
  refine ⟨⟨(s.defer_unchanged i kind tag b range w).keeps, fun _ hl => ?_⟩, id⟩
  rw [State.locksAwaited_iff] at hl ⊢
  intro j r hr
  rw [State.defer_awaited] at hr
  split at hr
  · exact h r hr
  · exact hl j r hr

theorem State.deferWrites_keepsAll {kind : Byte} {h : Header} {b : Block} {range : Option RangeIx} {rs : List RecordId}
    {lock : Option RangeIx} {done fault : Reply} {s : State}
    (hl : ∀ r, lock = some r → (s.rmg.ranges.get r).lock = .locking) :
    s.KeepsAll (s.deferWrites kind h b range rs lock done fault) := by
  unfold State.deferWrites
  split
  · exact State.defer_keepsAll hl
  · exact s.noAnswer_unchanged.keepsAll_of_deferred

theorem State.deferWrites_none_keepsAll (kind : Byte) (h : Header) (b : Block) (range : Option RangeIx) (rs : List RecordId)
    (done fault : Reply) (s : State) : s.KeepsAll (s.deferWrites kind h b range rs none done fault) :=
  State.deferWrites_keepsAll (by simp)

/-! ## Deadlines, answers, notices -/

theorem State.withdrawAll_keepsAll (q : Purpose → Bool) (s : State) : s.KeepsAll (s.withdrawAll q) :=
  (s.withdrawAll_unchanged q).keepsAll_of_deferred

theorem State.withdraw_keepsAll (q : Purpose) (s : State) : s.KeepsAll (s.withdraw q) := s.withdrawAll_keepsAll _

theorem State.cancelAll_keepsAll (q : Purpose → Bool) (s : State) : s.KeepsAll (s.cancelAll q) :=
  (s.cancelAll_unchanged q).keepsAll_of_deferred

theorem State.cancel_keepsAll (q : Purpose) (s : State) : s.KeepsAll (s.cancel q) := s.cancelAll_keepsAll _

theorem State.enter_keepsAll (q : Purpose) (due : Nat) (s : State) : s.KeepsAll (s.enter q due) :=
  (s.enter_unchanged q due).keepsAll_of_deferred

theorem State.answer_keepsAll (kind tag : Byte) (r : Reply) (s : State) : s.KeepsAll (s.answer kind tag r) :=
  (s.answer_unchanged kind tag r).keepsAll_of_deferred

theorem State.noAnswer_keepsAll (s : State) : s.KeepsAll s.noAnswer := s.noAnswer_unchanged.keepsAll_of_deferred

theorem State.answerOk_keepsAll (kind : Byte) (h : Header) (b : ReplyBody) (s : State) : s.KeepsAll (s.answerOk kind h b) :=
  s.answer_keepsAll _ _ _

theorem State.notify_deferred (n : Notice) (s : State) : (s.notify n).lnk.deferred = s.lnk.deferred := by
  unfold State.notify
  split
  · exact (s.lnk.raise_frame n).2.2.1
  · rfl

theorem State.notify_keepsAll (n : Notice) (s : State) : s.KeepsAll (s.notify n) :=
  (s.notify_unchanged n).keepsAll_of_deferred (s.notify_deferred n)

/-! ## The store -/

theorem State.startWaits_awaitsFrom (r : RecordId) (s : State) : s.AwaitsFrom (s.startWaits r) := by
  refine State.onWork_awaitsFrom (f := fun w => match w with
    | .writes ws lock done fault => .working (.writes (startWait r ws) lock done fault)
    | w => .working w) ?_ s
  intro w v q h hv
  cases w <;> cases h <;> exact hv

theorem State.beginOp_awaitsFrom (s : State) : s.AwaitsFrom s.beginOp := by
  unfold State.beginOp
  split
  · split
    · exact .of_deferred rfl
    · exact State.AwaitsFrom.trans (.of_deferred rfl) (State.startWaits_awaitsFrom _ _)
    · split
      · exact .refl _
      · exact State.AwaitsFrom.trans (.of_deferred rfl) (State.startWaits_awaitsFrom _ _)
  · exact .refl _

theorem State.beginOp_keepsAll (s : State) : s.KeepsAll s.beginOp := s.beginOp_unchanged.keepsAll s.beginOp_awaitsFrom

theorem State.markAs_keepsAll (urgent : Bool) (r : RecordId) (s : State) : s.KeepsAll (s.markAs urgent r) :=
  (s.markAs_unchanged urgent r).keepsAll (State.AwaitsFrom.trans (.of_deferred rfl) (State.beginOp_awaitsFrom _))

theorem State.mark_keepsAll (r : RecordId) (s : State) : s.KeepsAll (s.mark r) := s.markAs_keepsAll _ r

theorem State.markAll_keepsAll (rs : List RecordId) (s : State) : s.KeepsAll (s.markAll rs) :=
  .foldl _ (fun s r => s.mark_keepsAll r) rs s

theorem State.askStore_keepsAll (op : WipeOp) (s : State) : s.KeepsAll (s.askStore op) :=
  (s.askStore_unchanged op).keepsAll (State.AwaitsFrom.trans (.of_deferred rfl) (State.beginOp_awaitsFrom _))

theorem State.addFaulty_deferred (r : RecordId) (s : State) : (s.addFaulty r).lnk.deferred = s.lnk.deferred := by
  unfold State.addFaulty
  split <;> rfl

theorem State.addFaulty_keepsAll (r : RecordId) (s : State) : s.KeepsAll (s.addFaulty r) :=
  (s.addFaulty_unchanged r).keepsAll_of_deferred (s.addFaulty_deferred r)

/-! ## Block updates of which the invariants do not speak -/

/-- An update of KLN. -/
theorem State.onKln_keepsAll (f : Kln → Kln) (s : State) : s.KeepsAll (s.onKln f) := by
  refine ⟨⟨⟨id, id, id, id, id, id, id⟩, fun _ => id⟩, id⟩

theorem State.onSrv_keepsAll (f : Srv → Srv) (s : State) : s.KeepsAll (s.onSrv f) :=
  ⟨⟨⟨id, id, id, id, id, id, id⟩, fun _ => id⟩, id⟩

theorem State.onWpc_keepsAll (f : Wpc → Wpc) (s : State) : s.KeepsAll (s.onWpc f) :=
  ⟨⟨⟨id, id, id, id, id, id, id⟩, fun _ => id⟩, id⟩

theorem State.onPins_keepsAll (f : Pins → Pins) (s : State) : s.KeepsAll (s.onPins f) :=
  ⟨⟨⟨id, id, id, id, id, id, id⟩, fun _ => id⟩, id⟩

theorem State.onModel_keepsAll (f : Model → Model) (s : State) : s.KeepsAll (s.onModel f) :=
  ⟨⟨⟨id, id, id, id, id, id, id⟩, fun _ => id⟩, id⟩

theorem State.setPending_keepsAll (q : List Instr) (s : State) : s.KeepsAll (s.setPending q) :=
  ⟨⟨⟨id, id, id, id, id, id, id⟩, fun _ => id⟩, id⟩

/-- An update of LNK that leaves the deferred-reply table. -/
theorem State.onLnk_keepsAll {f : Lnk → Lnk} (hf : ∀ l, (f l).deferred = l.deferred := by intro; rfl) (s : State) :
    s.KeepsAll (s.onLnk f) := by
  refine ⟨⟨⟨id, id, id, id, id, id, id⟩, fun _ h i d w r hd => ?_⟩, id⟩
  rw [State.onLnk_lnk, hf] at hd
  exact h i d w r hd

/-- An update of TMB that leaves the PSC. -/
theorem State.onTmb_keepsAll {f : Tmb → Tmb} {s : State} (hf : (f s.tmb).psc = s.tmb.psc := by rfl) : s.KeepsAll (s.onTmb f) := by
  refine ⟨⟨⟨id, fun h => ?_, id, id, id, id, id⟩, fun _ => id⟩, id⟩
  rw [State.CountsSound, State.onTmb_tmb, hf]
  exact h

/-- An update of STO that leaves POLICY and IDENTITY. -/
theorem State.onSto_keepsAll {f : Sto → Sto} {s : State} (hp : (f s.sto).policy = s.sto.policy := by rfl)
    (hi : (f s.sto).identity = s.sto.identity := by rfl) : s.KeepsAll (s.onSto f) := by
  refine ⟨⟨⟨id, id, fun h => ?_, fun h => ?_, id, id, id⟩, fun _ => id⟩, id⟩
  · rw [State.SettingsSound, State.onSto_sto, hp]
    exact h
  · rw [State.RangesSound, State.onSto_sto, hi]
    exact h

/-- An update of THM that leaves the level and the captures. -/
theorem State.onThm_keepsAll {f : Thm → Thm} {s : State} (hl : (f s.thm).level = s.thm.level := by rfl)
    (hc : (f s.thm).captures = s.thm.captures := by rfl) : s.KeepsAll (s.onThm f) := by
  refine ⟨⟨⟨id, fun h => ?_, id, id, id, id, id⟩, fun _ => id⟩, fun h => ?_⟩
  · rw [State.CountsSound, State.onThm_thm, hc]
    exact h
  · rw [State.EngineSound, State.onThm_thm, hl]
    exact h

/-- An update of AUT that leaves the authorities, G and the engine. -/
theorem State.onAut_keepsAll {f : Aut → Aut} {s : State} (ha : (f s.aut).auth = s.aut.auth := by rfl)
    (ht : (f s.aut).tryCount = s.aut.tryCount := by rfl) (he : (f s.aut).engine = s.aut.engine := by rfl) :
    s.KeepsAll (s.onAut f) := by
  refine ⟨⟨⟨id, fun h => ?_, id, id, id, fun h => ?_, id⟩, fun _ => id⟩, fun h => ?_⟩
  · rw [State.CountsSound, State.onAut_aut, ha, ht]
    exact h
  · rw [State.AuthorityKeysSound, State.adminSignedIn, State.onAut_aut, ha]
    exact h
  · rw [State.EngineSound, State.onAut_aut, he]
    exact h

/-- An update of PWC that keeps the start's last step taken. -/
theorem State.onPwc_keepsAll {f : Pwc → Pwc} {s : State} (h : s.StageSound → (s.onPwc f).StageSound) :
    s.KeepsAll (s.onPwc f) := ⟨⟨⟨id, id, id, id, id, id, h⟩, fun _ => id⟩, id⟩

/-! ## The map generation, draws, triggers -/

theorem nextMapGen_held (g : Nat) : 1 ≤ nextMapGen g ∧ nextMapGen g ≤ 4294967295 := by
  unfold nextMapGen
  split <;> omega

theorem State.bump_keepsAll (s : State) : s.KeepsAll s.bump := by
  unfold State.bump
  split
  · exact .refl _
  · exact ⟨⟨⟨fun _ => nextMapGen_held _, id, id, id, id, id, id⟩, fun _ => id⟩, id⟩

theorem State.newOccurrence_keepsAll (s : State) : s.KeepsAll s.newOccurrence := s.onModel_keepsAll _

theorem State.draw_keepsAll (s : State) : s.KeepsAll s.draw := s.onModel_keepsAll _

theorem State.raiseTrigger_keepsAll (k : TriggerKind) (s : State) : s.KeepsAll (s.raiseTrigger k) := State.onThm_keepsAll

/-! ## The end of an occurrence -/

/-- A grant leaves a deferred-reply entry or frees it. -/
theorem Lnk.grantReply_deferred {l m : Lnk} (h : l.grantReply = some m) (i : DeferIx) :
    m.deferred.get i = l.deferred.get i ∨ m.deferred.get i = none := by
  unfold Lnk.grantReply at h
  split at h
  · split at h
    · cases h
      simp only [Table.get_set]
      split
      · exact .inr rfl
      · exact .inl rfl
    · cases h; exact .inl rfl
  · split at h
    · split at h
      · cases h; exact .inl rfl
      · cases h
    · cases h

theorem Lnk.grantOne_deferred {l m : Lnk} (h : l.grantOne = some m) (i : DeferIx) :
    m.deferred.get i = l.deferred.get i ∨ m.deferred.get i = none := by
  unfold Lnk.grantOne at h
  split at h
  · cases h
  · split at h
    · split at h
      · cases h; exact .inl rfl
      · exact Lnk.grantReply_deferred h i
    · exact Lnk.grantReply_deferred h i

theorem Lnk.grantAll_deferred (n : Nat) (l : Lnk) (i : DeferIx) :
    (l.grantAll n).deferred.get i = l.deferred.get i ∨ (l.grantAll n).deferred.get i = none := by
  induction n generalizing l with
  | zero => exact .inl rfl
  | succ n ih =>
    unfold Lnk.grantAll
    split
    · next m h =>
      rcases ih m with k | k
      · rw [k]; exact Lnk.grantOne_deferred h i
      · exact .inr k
    · exact .inl rfl

theorem State.grantLink_awaitsFrom (s : State) : s.AwaitsFrom s.grantLink := by
  unfold State.grantLink
  split
  · intro i r hr
    rcases Lnk.grantAll_deferred 16 s.lnk.collectReady i with h | h
    · rw [State.awaited, State.onLnk_lnk, h] at hr; exact hr
    · rw [State.awaited, State.onLnk_lnk, h] at hr; cases hr
  · exact .refl _

theorem State.settle_awaitsFrom (s : State) : s.AwaitsFrom s.settle := by
  intro i r hr
  refine s.grantLink_awaitsFrom i r ?_
  simpa only [State.awaited, State.settle_lnk] using hr

theorem State.settle_keepsAll (s : State) : s.KeepsAll s.settle := s.settle_unchanged.keepsAll s.settle_awaitsFrom

end Sys2Proof.Machine
end

section
/-! PROOFS. The operations over ranges, keys, slots, the lane and verdicts keep the invariants. -/

namespace Sys2Proof.Machine

/-! ## Range entries -/

theorem State.onRange_get (r q : RangeIx) (f : RangeEntry → RangeEntry) (s : State) :
    (s.onRange r f).rmg.ranges.get q = if r = q then f (s.rmg.ranges.get r) else s.rmg.ranges.get q :=
  Table.get_set _ _ _ _

/-- The entries of `t` have the geometry and the lock state they have in `s`. -/
def State.SameLocks (s t : State) : Prop :=
  ∀ q, (t.rmg.ranges.get q).geometry = (s.rmg.ranges.get q).geometry ∧
    (t.rmg.ranges.get q).lock = (s.rmg.ranges.get q).lock

/-- An update of RMG that leaves the keys, the map generation, the geometries and the locks. -/
theorem State.onRmg_keepsAll {f : Rmg → Rmg} {s : State} (hl : s.SameLocks (s.onRmg f))
    (hk : (f s.rmg).rangeKeys = s.rmg.rangeKeys := by rfl) (hd : (f s.rmg).domainKey = s.rmg.domainKey := by rfl)
    (hu : (f s.rmg).keks = s.rmg.keks := by rfl) (hg : (f s.rmg).mapGen = s.rmg.mapGen := by rfl) :
    s.KeepsAll (s.onRmg f) := by
  have geometry (q : RangeIx) := (hl q).1
  have lock (q : RangeIx) := (hl q).2
  refine ⟨⟨⟨fun h => ?_, id, id, fun h => ?_, fun h => ?_, fun h => ?_, id⟩, fun _ h => ?_⟩, id⟩
  · simpa only [State.MapGenHeld, State.onRmg_rmg, hg] using h
  · simp only [State.RangesSound, geometry]
    exact h
  · intro q
    rw [lock, State.defined, geometry, State.onRmg_rmg, hk]
    exact h q
  · rw [State.AuthorityKeysSound, State.onRmg_rmg, hd, hu]
    exact h
  · intro i d w r h1 h2 h3
    rw [lock]
    exact h i d w r h1 h2 h3

/-- An update of one entry that leaves its geometry and its lock. -/
theorem State.onRange_keepsAll {r : RangeIx} {f : RangeEntry → RangeEntry} {s : State}
    (hg : ∀ e, (f e).geometry = e.geometry := by intro; rfl) (hl : ∀ e, (f e).lock = e.lock := by intro; rfl) :
    s.KeepsAll (s.onRange r f) := by
  refine State.onRmg_keepsAll fun q => ?_
  have e := s.onRange_get r q f
  simp only [State.onRange] at e
  rw [e]
  split
  · next h => subst h; exact ⟨hg _, hl _⟩
  · exact ⟨rfl, rfl⟩

/-- So after an operation that keeps the invariants. -/
theorem State.KeepsAll.onRange {r : RangeIx} {f : RangeEntry → RangeEntry} {s t : State} (h : s.KeepsAll t)
    (hg : ∀ e, (f e).geometry = e.geometry := by intro; rfl) (hl : ∀ e, (f e).lock = e.lock := by intro; rfl) :
    s.KeepsAll (t.onRange r f) := h.trans (State.onRange_keepsAll hg hl)

/-- A new lock state for one range: LOCKED with its key out of the cache, or another for a defined range; and LOCKING is not left. -/
theorem State.setLock_keepsAll {r : RangeIx} {lock : LockState} {s : State} (hn : lock ≠ .locked) (hd : s.defined r = true)
    (hw : (s.rmg.ranges.get r).lock = .locking → lock = .locking) :
    s.KeepsAll (s.onRange r fun e => { e with lock := lock }) := by
  have get := fun q => s.onRange_get r q fun e => { e with lock := lock }
  have geometry (q : RangeIx) : ((s.onRange r fun e => { e with lock := lock }).rmg.ranges.get q).geometry =
      (s.rmg.ranges.get q).geometry := by
    rw [get]; split
    · next h => rw [h]
    · rfl
  refine ⟨⟨⟨id, id, id, fun h => ?_, fun h q => ?_, id, id⟩, fun _ h i d w q h1 h2 h3 => ?_⟩, id⟩
  · simp only [State.RangesSound, geometry]
    exact h
  · rw [State.defined, geometry, get]
    split
    · next e => subst e; exact ⟨fun k => absurd k hn, fun k => absurd hd (by simpa [State.defined] using k)⟩
    · exact h q
  · have hq := h i d w q h1 h2 h3
    rw [get]
    split
    · next e => subst e; exact hw hq
    · exact hq

/-- A key enters the cache for a range that is not LOCKED. -/
theorem State.cacheKey_keepsAll {r : RangeIx} {k : Option Key} {s : State}
    (h : k = none ∨ (s.rmg.ranges.get r).lock ≠ .locked) : s.KeepsAll (s.cacheKey r k) := by
  refine ⟨⟨⟨id, id, id, id, fun hk q => ⟨fun hl => ?_, (hk q).2⟩, id, id⟩, fun _ => id⟩, id⟩
  simp only [State.cacheKey, State.onRmg_rmg, Table.get_set]
  split
  · next e =>
    subst e
    rcases h with h | h
    · exact h
    · exact absurd hl h
  · exact (hk q).1 hl

/-- The key of a range leaves the cache and the range is LOCKED; what a deferred reply awaits of it is told, or none awaits it. -/
theorem State.shut_keeps (r : RangeIx) (f : RangeEntry → RangeEntry) (hg : ∀ e, (f e).geometry = e.geometry)
    (hl : ∀ e, (f e).lock = .locked) (s : State) : s.Keeps ((s.cacheKey r none).onRange r f) := by
  have get (q : RangeIx) : ((s.cacheKey r none).onRange r f).rmg.ranges.get q =
      if r = q then f (s.rmg.ranges.get r) else s.rmg.ranges.get q := State.onRange_get _ _ _ _
  have geometry (q : RangeIx) : (((s.cacheKey r none).onRange r f).rmg.ranges.get q).geometry =
      (s.rmg.ranges.get q).geometry := by
    rw [get]; split
    · next h => rw [hg, h]
    · rfl
  refine ⟨id, id, id, fun h => ?_, fun h q => ?_, id, id⟩
  · simp only [State.RangesSound, geometry]
    exact h
  · rw [State.defined, geometry, get]
    simp only [State.cacheKey, State.onRange, State.onRmg_rmg, Table.get_set]
    split
    · exact ⟨fun _ => rfl, fun _ => hl _⟩
    · exact h q

/-! ## Slots -/

theorem State.onSlot_keepsAll (i : SlotIx) (f : Slot → Slot) (s : State) : s.KeepsAll (s.onSlot i f) := s.onKln_keepsAll _

theorem State.removeSlotField_keepsAll (r : RangeIx) (i : SlotIx) (s : State) : s.KeepsAll (s.removeSlotField r i) := by
  refine State.onRange_keepsAll (fun e => ?_) (fun e => ?_) <;> split <;> rfl

theorem State.assignSlot_keepsAll (i : SlotIx) (r : RangeIx) (s : State) : s.KeepsAll (s.assignSlot i r) := by
  unfold State.assignSlot
  refine State.KeepsAll.onRange ?_
  exact (s.onSlot_keepsAll i _).trans (State.onKln_keepsAll _ _)

theorem State.evict_keepsAll (i : SlotIx) (r : RangeIx) (s : State) : s.KeepsAll (s.evict i r) := by
  unfold State.evict
  refine State.KeepsAll.trans (t := match (s.kln.slots.get i).occupant with
    | some old => s.removeSlotField old.range i
    | none => s) ?_ (State.KeepsAll.onRange ?_)
  · split
    · exact s.removeSlotField_keepsAll _ _
    · exact .refl _
  · exact (State.onSlot_keepsAll i _ _).trans (State.onKln_keepsAll _ _)

theorem State.allocate_keepsAll {r : RangeIx} {s t : State} (h : s.allocate r = some t) : s.KeepsAll t := by
  unfold State.allocate at h
  split at h
  · cases h; exact s.assignSlot_keepsAll _ _
  · split at h
    · cases h; exact s.evict_keepsAll _ _
    · cases h

theorem State.eagerLoad_keepsAll (r : RangeIx) (s : State) : s.KeepsAll (s.eagerLoad r) := by
  unfold State.eagerLoad
  split
  · exact .refl _
  · split
    · exact s.assignSlot_keepsAll _ _
    · exact .refl _

theorem State.eagerLoads_keepsAll (opened : List RangeIx) (s : State) : s.KeepsAll (s.eagerLoads opened) := by
  refine State.KeepsAll.foldl _ (fun s r => ?_) _ _
  split
  · exact s.eagerLoad_keepsAll r
  · exact .refl _

/-! ## Opening (R15, R16, R81) -/

/-- A defined range that is not LOCKING opens with a key. -/
theorem State.openWith_keepsAll {r : RangeIx} {k : Key} {lock : LockState} {s : State} (hn : lock ≠ .locked)
    (hd : s.defined r = true) (hw : (s.rmg.ranges.get r).lock ≠ .locking) : s.KeepsAll (s.openWith r k lock) := by
  have h1 : s.KeepsAll (s.onRange r fun e => { e with lock := lock }) := State.setLock_keepsAll hn hd fun h => absurd h hw
  have h2 : ((s.onRange r fun e => { e with lock := lock }).rmg.ranges.get r).lock = lock := by
    rw [State.onRange_get, if_pos rfl]
  exact h1.trans (State.cacheKey_keepsAll (.inr (h2.symm ▸ hn)))

theorem opensPlain_defined {s : State} {from_ : LockState → Bool} {r : RangeIx} (h : s.opensPlain from_ r = true) :
    s.defined r = true := by
  simp only [State.opensPlain, Bool.and_eq_true] at h
  exact h.1.1.1.1.1

theorem opensPlain_lock {s : State} {from_ : LockState → Bool} {r : RangeIx} (h : s.opensPlain from_ r = true) :
    from_ (s.rmg.ranges.get r).lock = true := by
  simp only [State.opensPlain, Bool.and_eq_true] at h
  exact h.2

theorem openPlainStep_keepsAll {from_ : LockState → Bool} (hf : from_ .locking = false) (acc : State × List RangeIx)
    (r : RangeIx) : acc.1.KeepsAll (openPlainStep from_ acc r).1 := by
  unfold openPlainStep
  split
  · next h =>
    split
    · refine State.openWith_keepsAll (by decide) (opensPlain_defined h) fun hl => ?_
      have := opensPlain_lock h
      rw [hl, hf] at this
      cases this
    · exact acc.1.addFaulty_keepsAll _
  · exact .refl _

theorem openPlainFold_keepsAll {from_ : LockState → Bool} (hf : from_ .locking = false) (rs : List RangeIx)
    (acc : State × List RangeIx) : acc.1.KeepsAll (rs.foldl (openPlainStep from_) acc).1 := by
  induction rs generalizing acc with
  | nil => exact .refl _
  | cons r rs ih => exact (openPlainStep_keepsAll hf acc r).trans (ih _)

theorem State.openPlain_keepsAll {from_ : LockState → Bool} (hf : from_ .locking = false) (rs : List RangeIx) (s : State) :
    s.KeepsAll (s.openPlain from_ rs) := by
  have h := openPlainFold_keepsAll hf rs (s, [])
  unfold State.openPlain
  simp only
  split
  · exact h
  · exact (h.trans (State.eagerLoads_keepsAll _ _)).trans (State.bump_keepsAll _)

/-! ## Locks and clears (R18, R19, R54) -/

theorem lockDone_onlyDrops (r : RangeIx) : Work.onlyDrops (lockDone r) := by
  intro w v q h hv
  unfold lockDone writesState at h
  cases w with
  | lock p =>
    simp only at h
    split at h <;> cases h
    exact hv
  | writes ws lock done fault =>
    simp only at h
    split at h
    · split at h <;> cases h
      cases hv
    · cases h; exact hv
  | engine => cases h; exact hv

/-- After the completion of a lock nothing waits on it. -/
theorem lockDone_awaits {r : RangeIx} {w v : Work} (h : lockDone r w = .working v) : v.awaits ≠ some r := by
  unfold lockDone writesState at h
  intro hv
  cases w with
  | lock p =>
    simp only at h
    split at h <;> cases h
    next hp => exact hp (by simpa [Work.awaits] using hv)
  | writes ws lock done fault =>
    simp only at h
    split at h
    · split at h <;> cases h
      cases hv
    · next hl => cases h; exact hl hv
  | engine => cases h; cases hv

theorem State.finishLock_awaited (r : RangeIx) (s : State) (i : DeferIx) : (s.finishLock r).awaited i ≠ some r := by
  simp only [State.awaited, State.finishLock, State.onLnk_lnk, Lnk.onWork, Table.get_imap]
  intro h
  obtain ⟨d, hd, hw⟩ := Option.bind_eq_some_iff.mp h
  obtain ⟨c, -, rfl⟩ := Option.map_eq_some_iff.mp hd
  split at hw
  · next w hs =>
    split at hs
    · exact lockDone_awaits hs hw
    · next hr => rw [hr] at hs; cases hs
  · cases hw

theorem State.finishLock_awaitsFrom (r : RangeIx) (s : State) : s.AwaitsFrom (s.finishLock r) :=
  State.AwaitsFrom.trans (t := (s.cacheKey r none).onRange r fun e => { e with lock := .locked, slot := none }) (.of_deferred rfl)
    (State.onWork_awaitsFrom (lockDone_onlyDrops r) _)

theorem State.finishLock_get (r q : RangeIx) (s : State) : (s.finishLock r).rmg.ranges.get q =
    if r = q then { s.rmg.ranges.get r with lock := .locked, slot := none } else s.rmg.ranges.get q :=
  State.onRange_get r q (fun e => { e with lock := .locked, slot := none }) _

theorem State.finishLock_keepsAll (r : RangeIx) (s : State) : s.KeepsAll (s.finishLock r) := by
  refine ⟨⟨State.Keeps.trans (s.shut_keeps r (fun e => { e with lock := .locked, slot := none }) (fun _ => rfl) fun _ => rfl)
    (State.onWork_keepsAll (lockDone_onlyDrops r) _).toKeeps, fun _ h => ?_⟩, id⟩
  rw [State.locksAwaited_iff] at h ⊢
  intro i q hq
  rw [State.finishLock_get, if_neg]
  · exact h i q (s.finishLock_awaitsFrom r i q hq)
  · rintro rfl
    exact s.finishLock_awaited r i hq

theorem State.clearComplete_keepsAll (i : SlotIx) (s : State) : s.KeepsAll (s.clearComplete i) := by
  unfold State.clearComplete
  split
  · split
    · exact ((s.finishLock_keepsAll _).trans (State.bump_keepsAll _)).trans (State.openPlain_keepsAll rfl _ _)
    · exact s.removeSlotField_keepsAll _ _
  · exact .refl _

theorem State.clearRequest_keepsAll (r : RangeIx) (s : State) : s.KeepsAll (s.clearRequest r) := by
  unfold State.clearRequest
  split
  · exact .refl _
  · split
    · exact (s.onSlot_keepsAll _ _).trans (State.onKln_keepsAll _ _)
    · split
      · exact ((s.onKln_keepsAll _).trans (State.onSlot_keepsAll _ _ _)).trans (State.clearComplete_keepsAll _ _)
      · exact (s.onSlot_keepsAll _ _).trans (State.onKln_keepsAll _ _)
    · split
      · exact (s.onKln_keepsAll _).trans (State.onSlot_keepsAll _ _ _)
      · exact .refl _
    · exact .refl _
    · exact .refl _

/-- A defined range that is not LOCKING is locked (R18). -/
theorem State.normalLock_keepsAll {r : RangeIx} {s : State} (hd : s.defined r = true)
    (hw : (s.rmg.ranges.get r).lock ≠ .locking) : s.KeepsAll (s.normalLock r) := by
  have locking : s.KeepsAll (s.onRange r fun e => { e with lock := .locking }) :=
    State.setLock_keepsAll (by decide) hd fun _ => rfl
  unfold State.normalLock
  split
  · refine ⟨⟨s.shut_keeps r (fun e => { e with lock := .locked }) (fun _ => rfl) fun _ => rfl,
      fun _ h i d w q h1 h2 h3 => ?_⟩, id⟩
    have hq := h i d w q h1 h2 h3
    rw [State.onRange_get, if_neg]
    · exact hq
    · rintro rfl; exact hw hq
  · simp only
    split
    · exact locking.trans (State.clearRequest_keepsAll _ _)
    · exact locking

/-! ## No lock begins -/

/-- From `s` to `t` no range becomes LOCKING, and the geometries stand. -/
structure State.NoNewLocking (s t : State) : Prop where
  lock : ∀ q, (t.rmg.ranges.get q).lock = .locking → (s.rmg.ranges.get q).lock = .locking
  geometry : ∀ q, (t.rmg.ranges.get q).geometry = (s.rmg.ranges.get q).geometry

theorem State.NoNewLocking.trans {s t u : State} (h : s.NoNewLocking t) (k : t.NoNewLocking u) : s.NoNewLocking u :=
  ⟨fun q hq => h.lock q (k.lock q hq), fun q => (k.geometry q).trans (h.geometry q)⟩

theorem State.NoNewLocking.of_ranges {s t : State} (h : t.rmg.ranges = s.rmg.ranges) : s.NoNewLocking t :=
  ⟨fun _ hq => h ▸ hq, fun _ => by rw [h]⟩

/-- What comes before and leaves the ranges does not count. -/
theorem State.NoNewLocking.from {s t u : State} (k : t.NoNewLocking u) (h : t.rmg.ranges = s.rmg.ranges := by rfl) :
    s.NoNewLocking u := State.NoNewLocking.trans (.of_ranges h) k

theorem State.NoNewLocking.refl (s : State) : s.NoNewLocking s := .of_ranges rfl

theorem State.NoNewLocking.defined {s t : State} (h : s.NoNewLocking t) (r : RangeIx) : t.defined r = s.defined r := by
  rw [State.defined, State.defined, h.geometry]

theorem State.NoNewLocking.foldl {α : Type} (f : State → α → State) (h : ∀ (s : State) a, s.NoNewLocking (f s a))
    (l : List α) (s : State) : s.NoNewLocking (l.foldl f s) := by
  induction l generalizing s with
  | nil => exact .refl _
  | cons a l ih => exact (h s a).trans (ih _)

/-- An update of one entry that keeps its geometry and does not make it LOCKING. -/
theorem State.onRange_noNewLocking {r : RangeIx} {f : RangeEntry → RangeEntry} {s : State}
    (hg : ∀ e, (f e).geometry = e.geometry := by intro; rfl)
    (hl : ∀ e, (f e).lock = .locking → e.lock = .locking := by intro _ h; exact h) : s.NoNewLocking (s.onRange r f) := by
  refine ⟨fun q hq => ?_, fun q => ?_⟩
  · rw [State.onRange_get] at hq
    split at hq
    · next e => subst e; exact hl _ hq
    · exact hq
  · rw [State.onRange_get]
    split
    · next e => subst e; exact hg _
    · rfl

theorem State.bump_ranges (s : State) : s.bump.rmg.ranges = s.rmg.ranges := s.bump_unchanged .ranges (by decide)

theorem State.addFaulty_ranges (r : RecordId) (s : State) : (s.addFaulty r).rmg.ranges = s.rmg.ranges :=
  s.addFaulty_unchanged r .ranges (by decide)

theorem State.openWith_noNewLocking {r : RangeIx} {k : Key} {lock : LockState} (hn : lock ≠ .locking) (s : State) :
    s.NoNewLocking (s.openWith r k lock) := by
  unfold State.openWith
  refine State.NoNewLocking.from (t := s.cacheKey r (some k)) ?_
  exact State.onRange_noNewLocking (fun _ => rfl) fun _ h => absurd h hn

theorem openPlainStep_noNewLocking (from_ : LockState → Bool) (acc : State × List RangeIx) (r : RangeIx) :
    acc.1.NoNewLocking (openPlainStep from_ acc r).1 := by
  unfold openPlainStep
  split
  · split
    · exact State.openWith_noNewLocking (by decide) _
    · exact .of_ranges (State.addFaulty_ranges _ _)
  · exact .refl _

theorem State.assignSlot_noNewLocking (i : SlotIx) (r : RangeIx) (s : State) : s.NoNewLocking (s.assignSlot i r) := by
  dsimp only [State.assignSlot]
  refine State.NoNewLocking.trans (.of_ranges ?_) State.onRange_noNewLocking
  rfl

theorem State.eagerLoad_noNewLocking (r : RangeIx) (s : State) : s.NoNewLocking (s.eagerLoad r) := by
  unfold State.eagerLoad
  split
  · exact .refl _
  · split
    · exact s.assignSlot_noNewLocking _ _
    · exact .refl _

theorem State.eagerLoads_noNewLocking (opened : List RangeIx) (s : State) : s.NoNewLocking (s.eagerLoads opened) := by
  refine State.NoNewLocking.foldl _ (fun s r => ?_) _ _
  split
  · exact s.eagerLoad_noNewLocking r
  · exact .refl _

theorem openPlainFold_noNewLocking (from_ : LockState → Bool) (rs : List RangeIx) (acc : State × List RangeIx) :
    acc.1.NoNewLocking (rs.foldl (openPlainStep from_) acc).1 := by
  induction rs generalizing acc with
  | nil => exact .refl _
  | cons r rs ih => exact (openPlainStep_noNewLocking from_ acc r).trans (ih _)

/-- An opening without sign-in makes no range LOCKING. -/
theorem State.openPlain_noNewLocking (from_ : LockState → Bool) (rs : List RangeIx) (s : State) :
    s.NoNewLocking (s.openPlain from_ rs) := by
  have h := openPlainFold_noNewLocking from_ rs (s, [])
  unfold State.openPlain
  simp only
  split
  · exact h
  · exact (h.trans (State.eagerLoads_noNewLocking _ _)).trans (.of_ranges (State.bump_ranges _))

theorem State.finishLock_noNewLocking (r : RangeIx) (s : State) : s.NoNewLocking (s.finishLock r) := by
  refine ⟨fun q hq => ?_, fun q => ?_⟩
  · rw [State.finishLock_get] at hq
    split at hq
    · cases hq
    · exact hq
  · rw [State.finishLock_get]
    split
    · next e => subst e; rfl
    · rfl

theorem State.removeSlotField_noNewLocking (r : RangeIx) (i : SlotIx) (s : State) :
    s.NoNewLocking (s.removeSlotField r i) := by
  refine State.onRange_noNewLocking (fun e => ?_) (fun e h => ?_)
  · split <;> rfl
  · split at h <;> exact h

theorem State.clearComplete_noNewLocking (i : SlotIx) (s : State) : s.NoNewLocking (s.clearComplete i) := by
  unfold State.clearComplete
  split
  · split
    · exact ((s.finishLock_noNewLocking _).trans (.of_ranges (State.bump_ranges _))).trans
        (State.openPlain_noNewLocking _ _ _)
    · exact s.removeSlotField_noNewLocking _ _
  · exact .refl _

/-- A clear request makes no range LOCKING. -/
theorem State.clearRequest_noNewLocking (r : RangeIx) (s : State) : s.NoNewLocking (s.clearRequest r) := by
  unfold State.clearRequest
  split
  · exact .refl _
  · split
    · exact .of_ranges rfl
    · split
      · exact State.NoNewLocking.from (State.clearComplete_noNewLocking _ _)
      · exact .of_ranges rfl
    · split
      · exact .of_ranges rfl
      · exact .refl _
    · exact .refl _
    · exact .refl _

/-- A normal lock makes its own range LOCKING and no other. -/
theorem State.normalLock_others {q r : RangeIx} (hq : r ≠ q) (s : State) :
    ((s.normalLock r).rmg.ranges.get q).geometry = (s.rmg.ranges.get q).geometry ∧
      (((s.normalLock r).rmg.ranges.get q).lock = .locking → (s.rmg.ranges.get q).lock = .locking) := by
  have locking : (s.onRange r fun e => { e with lock := .locking }).rmg.ranges.get q = s.rmg.ranges.get q := by
    rw [State.onRange_get, if_neg hq]
  unfold State.normalLock
  split
  · rw [State.onRange_get, if_neg hq]
    exact ⟨rfl, id⟩
  · simp only
    split
    · have h := State.clearRequest_noNewLocking r (s.onRange r fun e => { e with lock := .locking })
      exact ⟨by rw [h.geometry, locking], fun k => by rw [← locking]; exact h.lock q k⟩
    · rw [locking]
      exact ⟨rfl, id⟩

/-! ## The purge and forced locks (R20, R64) -/

/-- No range is LOCKING. -/
def State.NoneLocking (s : State) : Prop := ∀ r, (s.rmg.ranges.get r).lock ≠ .locking

theorem State.NoneLocking.step {s t : State} (h : s.NoneLocking) (k : s.NoNewLocking t) : t.NoneLocking :=
  fun q hq => h q (k.lock q hq)

theorem State.finishLocks_lock (rs : List RangeIx) (s : State) (q : RangeIx) :
    ((rs.foldl (fun s r => s.finishLock r) s).rmg.ranges.get q).lock =
      if q ∈ rs then .locked else (s.rmg.ranges.get q).lock := by
  induction rs generalizing s with
  | nil => simp
  | cons r rs ih =>
    rw [List.foldl_cons, ih, State.finishLock_get]
    by_cases h : q ∈ rs
    · simp [h]
    · by_cases e : r = q
      · simp [e]
      · simp [h, e, Ne.symm e]

theorem State.purgeEffects_keepsAll (toFault : Bool) (s : State) : s.KeepsAll (s.purgeEffects toFault) := by
  unfold State.purgeEffects
  refine State.KeepsAll.trans ?_ (State.openPlain_keepsAll rfl _ _)
  refine State.KeepsAll.trans ?_ (.foldl _ (fun s r => s.finishLock_keepsAll r) _ _)
  refine State.KeepsAll.trans ?_ (State.onRmg_keepsAll fun q => ?_)
  · exact ((s.onKln_keepsAll _).trans (State.cancelAll_keepsAll _ _)).trans (State.onSrv_keepsAll _ _)
  · simp

/-- A purge completes the lock of every LOCKING range. -/
theorem State.purgeEffects_noneLocking (toFault : Bool) (s : State) : (s.purgeEffects toFault).NoneLocking := by
  unfold State.purgeEffects
  refine State.NoneLocking.step (fun q hq => ?_) (State.openPlain_noNewLocking _ _ _)
  rw [State.finishLocks_lock] at hq
  split at hq
  · cases hq
  · next h =>
    simp only [State.onRmg_rmg, Table.get_imap] at hq
    exact h (List.mem_filter.mpr ⟨List.mem_finRange q, beq_iff_eq.mpr hq⟩)

theorem State.purge_keepsAll (c : VoidCause) (toFault : Bool) (s : State) : s.KeepsAll (s.purge c toFault) :=
  ((s.purgeEffects_keepsAll toFault).trans (State.bump_keepsAll _)).trans (State.notify_keepsAll _ _)

/-- A forced lock, where no range is LOCKING any more. -/
theorem State.forceLocked_keepsAll {s : State} (hn : s.NoneLocking) (p : RangeIx → RangeEntry → Bool) :
    s.KeepsAll (s.forceLocked p) := by
  have get (q : RangeIx) : (s.forceLocked p).rmg.ranges.get q =
      if p q (s.rmg.ranges.get q) then { s.rmg.ranges.get q with lock := .locked } else s.rmg.ranges.get q := by
    simp [State.forceLocked]
  have geometry (q : RangeIx) : ((s.forceLocked p).rmg.ranges.get q).geometry = (s.rmg.ranges.get q).geometry := by
    rw [get]; split <;> rfl
  refine ⟨⟨⟨id, id, id, fun h => ?_, fun h q => ?_, id, id⟩, fun _ h i d w q h1 h2 h3 => ?_⟩, id⟩
  · simp only [State.RangesSound, geometry]
    exact h
  · rw [State.defined, geometry, get]
    simp only [State.forceLocked, State.onRmg_rmg, Table.get_imap]
    split
    · exact ⟨fun _ => rfl, fun _ => rfl⟩
    · exact h q
  · exact absurd (h i d w q h1 h2 h3) (hn q)

theorem State.forceAll_keepsAll (s : State) : s.KeepsAll s.forceAll :=
  (s.purgeEffects_keepsAll false).trans (State.forceLocked_keepsAll (s.purgeEffects_noneLocking false) _)

theorem State.laneFault_keepsAll (i : SlotIx) (f : LaneFault) (s : State) : s.KeepsAll (s.laneFault i f) := by
  unfold State.laneFault
  refine State.KeepsAll.trans (t := match (s.kln.slots.get i).next with
    | some o => s.removeSlotField o.range i
    | none => s) ?_ ((State.onSlot_keepsAll _ _ _).trans (State.purge_keepsAll _ _ _))
  split
  · exact s.removeSlotField_keepsAll _ _
  · exact .refl _

/-! ## Verdicts (R42 to R45) -/

theorem State.unpinned_keepsAll (i : SlotIx) (s : State) : s.KeepsAll (s.unpinned i) := by
  unfold State.unpinned
  split
  · split
    · exact s.clearRequest_keepsAll _
    · exact .refl _
  · exact .refl _

theorem State.dropVerdict_keepsAll (v : Verdict) (s : State) : s.KeepsAll (s.dropVerdict v) := by
  unfold State.dropVerdict
  refine State.KeepsAll.trans ?_ (.foldl _ (fun s i => s.unpinned_keepsAll i) _ _)
  exact ((s.onSrv_keepsAll _).trans (State.cancel_keepsAll _ _)).trans (State.onKln_keepsAll _ _)

end Sys2Proof.Machine
end

section
/-! PROOFS. The operations over the signed-in set, the engine's job and the threat level keep the invariants. -/

namespace Sys2Proof.Machine

/-! ## Authorities -/

theorem State.onAuthority_auth (a b : AuthIx) (f : AuthorityRec → AuthorityRec) (s : State) :
    (s.onAuthority a f).aut.auth.get b =
      if a = b then { s.aut.auth.get a with kept := f (s.aut.auth.get a).kept } else s.aut.auth.get b :=
  Table.get_set _ _ _ _

theorem State.setSignedIn_auth (a c : AuthIx) (b : Bool) (s : State) :
    (s.setSignedIn a b).aut.auth.get c = if a = c then { s.aut.auth.get a with signedIn := b } else s.aut.auth.get c :=
  Table.get_set _ _ _ _

/-- An update of AUT that leaves who is signed in, G and the engine, and keeps f within its values. -/
theorem State.onAuth_keepsAll {f : Aut → Aut} {s : State}
    (hs : ∀ a, ((f s.aut).auth.get a).signedIn = (s.aut.auth.get a).signedIn)
    (hf : ∀ a, (s.aut.auth.get a).kept.failures ≤ 255 → ((f s.aut).auth.get a).kept.failures ≤ 255)
    (ht : s.aut.tryCount ≤ 65535 → (f s.aut).tryCount ≤ 65535 := by exact id)
    (he : (f s.aut).engine = s.aut.engine := by rfl) : s.KeepsAll (s.onAut f) := by
  refine ⟨⟨⟨id, fun h => ?_, id, id, id, fun h => ?_, id⟩, fun _ => id⟩, fun h => ?_⟩
  · obtain ⟨psc, failures, tryCount, captures⟩ := h
    exact ⟨psc, fun a => hf a (failures a), ht tryCount, captures⟩
  · rw [State.AuthorityKeysSound, State.adminSignedIn, State.onAut_aut]
    simp only [hs]
    exact h
  · rw [State.EngineSound, State.onAut_aut, he]
    exact h

/-- An update of one authority's retained part that keeps f within its values. -/
theorem State.onAuthority_keepsAll {a : AuthIx} {f : AuthorityRec → AuthorityRec} {s : State}
    (hf : ∀ k, k.failures ≤ 255 → (f k).failures ≤ 255) : s.KeepsAll (s.onAuthority a f) := by
  refine State.onAuth_keepsAll (fun b => ?_) (fun b h => ?_)
  · have e := s.onAuthority_auth a b f
    rw [State.onAuthority, State.onAut_aut] at e
    rw [e]
    split
    · next h => rw [h]
    · rfl
  · have e := s.onAuthority_auth a b f
    rw [State.onAuthority, State.onAut_aut] at e
    rw [e]
    split
    · next k => subst k; exact hf _ h
    · exact h

/-- Another job, where the level lets the engine hold it. -/
theorem State.setEngine_keepsAll {e : Engine} {s : State}
    (h : s.EngineSound → (s.thm.level = .wiping → e = .idle) ∧
      (s.thm.level = .alarm → ∀ a credential, e.job = some (.authenticate a credential) → isAdmin a = true)) :
    s.KeepsAll (s.onAut fun t => { t with engine := e }) :=
  ⟨⟨⟨id, id, id, id, id, id, id⟩, fun _ => id⟩, h⟩

/-- The engine falls IDLE. -/
theorem State.idleEngine_keepsAll (s : State) : s.KeepsAll (s.onAut fun t => { t with engine := .idle }) :=
  State.setEngine_keepsAll fun _ => ⟨fun _ => rfl, fun _ _ _ h => by cases h⟩

/-- One more authority is signed in. -/
theorem State.signedIn_keepsAll (a : AuthIx) (s : State) : s.KeepsAll (s.setSignedIn a true) := by
  have signed (b : AuthIx) (h : (s.aut.auth.get b).signedIn = true) :
      ((s.setSignedIn a true).aut.auth.get b).signedIn = true := by
    rw [State.setSignedIn_auth]
    split
    · rfl
    · exact h
  refine ⟨⟨⟨id, fun h => ?_, id, id, id, fun h => ?_, id⟩, fun _ => id⟩, id⟩
  · obtain ⟨psc, failures, tryCount, captures⟩ := h
    refine ⟨psc, fun b => ?_, tryCount, captures⟩
    rw [State.setSignedIn_auth]
    split
    · exact failures a
    · exact failures b
  · obtain ⟨domain, keks⟩ := h
    refine ⟨fun k => ?_, fun b k => ⟨(keks b k).1, signed b (keks b k).2⟩⟩
    have := domain k
    simp only [State.adminSignedIn, Bool.or_eq_true] at this ⊢
    exact this.imp (signed 0) (signed 7)

theorem State.leaveSet_keepsAll (a : AuthIx) (s : State) : s.KeepsAll (s.leaveSet a) := by
  refine ⟨⟨⟨id, fun h => ?_, id, id, id, fun h => ?_, id⟩, fun _ => id⟩, id⟩
  · obtain ⟨psc, failures, tryCount, captures⟩ := h
    refine ⟨psc, fun b => ?_, tryCount, captures⟩
    simp only [State.leaveSet, State.onRmg_aut]
    rw [State.setSignedIn_auth]
    split
    · exact failures a
    · exact failures b
  · obtain ⟨-, keks⟩ := h
    refine ⟨fun k => ?_, fun b k => ?_⟩
    · simp only [State.leaveSet, State.onRmg_rmg] at k
      split at k
      · next h => exact h
      · cases k
    · have hb : a ≠ b ∧ (s.rmg.keks.get b).isSome = true := by
        simp only [State.leaveSet, State.onRmg_rmg, State.setSignedIn, State.onAut_rmg] at k
        split at k
        · rw [Table.get_set] at k
          split at k
          · cases k
          · next h => exact ⟨h, k⟩
        · next h => exact ⟨fun e => h (e ▸ (keks b k).1), k⟩
      refine ⟨(keks b hb.2).1, ?_⟩
      simp only [State.leaveSet, State.onRmg_aut]
      rw [State.setSignedIn_auth, if_neg hb.1]
      exact (keks b hb.2).2

theorem State.emptySet_keepsAll (s : State) : s.KeepsAll s.emptySet := by
  refine ⟨⟨⟨id, fun h => ?_, id, id, id, fun _ => ?_, id⟩, fun _ => id⟩, id⟩
  · obtain ⟨psc, failures, tryCount, captures⟩ := h
    refine ⟨psc, fun b => ?_, tryCount, captures⟩
    simpa [State.emptySet] using failures b
  · exact ⟨fun k => by simp [State.emptySet] at k, fun b k => by simp [State.emptySet] at k⟩

/-! ## The engine's job (R77) -/

theorem State.setBackoff_keepsAll (a : AuthIx) (s : State) : s.KeepsAll (s.setBackoff a) := s.enter_keepsAll _ _

theorem State.abortBackoff_keepsAll (s : State) : s.KeepsAll s.abortBackoff := by
  unfold State.abortBackoff
  split
  · exact s.setBackoff_keepsAll _
  all_goals exact .refl _

theorem State.abortJob_keepsAll (r : Reply) (s : State) : s.KeepsAll (s.abortJob r) :=
  (s.abortBackoff_keepsAll.trans (State.idleEngine_keepsAll _)).trans (State.answerJob_keepsAll _ _)

theorem State.abortForAlarm_keepsAll (s : State) : s.KeepsAll s.abortForAlarm := by
  unfold State.abortForAlarm
  split
  · split
    · exact s.abortJob_keepsAll _
    · exact .refl _
  · exact s.abortJob_keepsAll _
  all_goals exact .refl _

theorem State.abortForStandby_keepsAll (s : State) : s.KeepsAll s.abortForStandby := by
  unfold State.abortForStandby
  split
  · exact s.abortBackoff_keepsAll.trans (State.idleEngine_keepsAll _)
  · exact .refl _

theorem isAdmin_of_not_isUser {a : AuthIx} (h : isUser a = false) : isAdmin a = true := by
  revert h; revert a; decide

theorem isUser_of_not_isAdmin {a : AuthIx} (h : isAdmin a = false) : isUser a = true := by
  revert h; revert a; decide

/-- ALARM entry leaves no USER's AUTHENTICATE in the engine. -/
theorem State.abortForAlarm_job {s : State} {a : AuthIx} {credential : List Byte}
    (h : s.abortForAlarm.aut.engine.job = some (.authenticate a credential)) : isAdmin a = true := by
  have idle (t : State) (r : Reply) : (t.abortJob r).aut.engine = .idle := rfl
  unfold State.abortForAlarm at h
  split at h
  · next b _ hj =>
    split at h
    · rw [idle] at h; cases h
    · next hu =>
      rw [hj] at h
      cases h
      exact isAdmin_of_not_isUser (by simpa using hu)
  · rw [idle] at h; cases h
  · next hj => rw [hj] at h; cases h
  · next hj => rw [hj] at h; cases h

/-! ## The threat level -/

theorem State.setLevel_keepsLocks (l : Level) (cause : ThreatCause) (who : Option AuthIx) (s : State) :
    s.KeepsLocks (s.setLevel l cause who) := ⟨⟨id, id, id, id, id, id, id⟩, fun _ => id⟩

/-- The level falls to CALM or becomes WARY: the engine may hold any job. -/
theorem State.setLevel_keepsAll {l : Level} (cause : ThreatCause) (who : Option AuthIx) (s : State)
    (h : l = .calm ∨ l = .wary := by decide) : s.KeepsAll (s.setLevel l cause who) := by
  refine ⟨s.setLevel_keepsLocks l cause who, fun _ => ?_⟩
  rcases h with rfl | rfl
  · refine ⟨fun k => ?_, fun k => ?_⟩ <;> cases k
  · refine ⟨fun k => ?_, fun k => ?_⟩ <;> cases k

theorem State.threatNotice_keepsAll (l : Level) (c : ThreatCause) (who : Option AuthIx) (s : State) :
    s.KeepsAll (s.threatNotice l c who) := s.notify_keepsAll _

theorem State.clearGrace_keepsAll (s : State) : s.KeepsAll s.clearGrace :=
  State.KeepsAll.trans State.onThm_keepsAll (State.cancel_keepsAll _ _)

theorem State.wary_defined {s : State} {r : RangeIx} (h : s.wary r = true) : s.defined r = true := by
  simp only [State.wary, Bool.and_eq_true] at h
  exact h.1.1.1

theorem State.wary_lock {s : State} {r : RangeIx} (h : s.wary r = true) : (s.rmg.ranges.get r).lock ≠ .locking := by
  simp only [State.wary, Bool.and_eq_true] at h
  intro k
  rw [k] at h
  cases h.2

/-- Normal locks of distinct ranges, defined and not LOCKING as they begin. -/
theorem State.normalLocks_keepsAll (p : RangeIx → Bool) {rs : List RangeIx} (hn : rs.Nodup) (s : State)
    (h : ∀ r ∈ rs, p r = true → s.defined r = true ∧ (s.rmg.ranges.get r).lock ≠ .locking) :
    s.KeepsAll (rs.foldl (fun t r => if p r then t.normalLock r else t) s) := by
  induction rs generalizing s with
  | nil => exact .refl _
  | cons r rs ih =>
    obtain ⟨hr, hn⟩ := List.nodup_cons.mp hn
    rw [List.foldl_cons]
    split
    · next hp =>
      obtain ⟨hd, hl⟩ := h r (by simp) hp
      refine (State.normalLock_keepsAll hd hl).trans (ih hn _ fun q hq hp => ?_)
      obtain ⟨hd, hl⟩ := h q (by simp [hq]) hp
      obtain ⟨geometry, lock⟩ := s.normalLock_others (q := q) (r := r) (fun e => hr (e ▸ hq))
      exact ⟨by rw [State.defined, geometry]; exact hd, fun k => hl (lock k)⟩
    · exact ih hn s fun q hq => h q (by simp [hq])

theorem State.enterWary_keepsAll (k : TriggerKind) (s : State) : s.KeepsAll (s.enterWary k) := by
  have locks := State.normalLocks_keepsAll s.wary (List.nodup_finRange 16) (s.setLevel .wary (.trigger k) none)
    fun r _ hr => ⟨State.wary_defined hr, State.wary_lock hr⟩
  exact ((((s.setLevel_keepsAll _ _).trans locks).trans (State.bump_keepsAll _)).trans
    (State.threatNotice_keepsAll _ _ _ _)).trans (State.mark_keepsAll _ _)

theorem Lnk.answerWiping_keepsAll (s : State) : s.KeepsAll (s.onLnk Lnk.answerWiping) :=
  s.onWork_keepsAll fun w v r h => by cases h

/-- Every key of a range leaves the cache. -/
theorem State.dropKeys_keepsAll (s : State) :
    s.KeepsAll (s.onRmg fun m => { m with rangeKeys := .fill none, grants := [] }) := by
  refine ⟨⟨⟨id, id, id, id, fun h q => ⟨fun _ => ?_, (h q).2⟩, id, id⟩, fun _ => id⟩, id⟩
  simp

theorem State.dropNonce_keepsAll (s : State) : s.KeepsAll (s.onAut fun t => { t with nonce := none }) := State.onAut_keepsAll

theorem State.phaseZero_idle (phase : WipePhase) (next : Option Bank) (resumed : Bool) (s : State) :
    (s.phaseZero phase next resumed).aut.engine = .idle := rfl

theorem State.EngineSound.of_idle {s : State} (h : s.aut.engine = .idle) : s.EngineSound :=
  ⟨fun _ => h, fun _ a credential k => by rw [h] at k; cases k⟩

theorem State.phaseZero_keepsAll (phase : WipePhase) (next : Option Bank) (resumed : Bool) (s : State) :
    s.KeepsAll (s.phaseZero phase next resumed) := by
  unfold State.phaseZero
  exact ((((((((s.forceAll_keepsAll.trans (State.abortBackoff_keepsAll _)).trans (State.idleEngine_keepsAll _)).trans
    (State.answerJob_keepsAll _ _)).trans (State.emptySet_keepsAll _)).trans (State.withdrawAll_keepsAll _ _)).trans
    (State.dropNonce_keepsAll _)).trans (State.dropKeys_keepsAll _)).trans (Lnk.answerWiping_keepsAll _)).trans
    (State.onWpc_keepsAll _ _)

theorem State.enterWiping_keepsAll (c : ThreatCause) (s : State) : s.KeepsAll (s.enterWiping c) := by
  let s1 := (s.clearGrace.setLevel .wiping c none).phaseZero .erasing (some .k0) false
  have first : s.KeepsLocks s1 := (s.clearGrace_keepsAll.toKeepsLocks.trans (State.setLevel_keepsLocks _ _ _ _)).trans
    (State.phaseZero_keepsAll _ _ _ _).toKeepsLocks
  have rest : s1.KeepsAll (s.enterWiping c) :=
    (((s1.bump_keepsAll).trans (State.threatNotice_keepsAll _ _ _ _)).trans (State.notify_keepsAll _ _)).trans
      (State.mark_keepsAll _ _)
  exact ⟨first.trans rest.toKeepsLocks, fun _ => rest.engine (.of_idle (State.phaseZero_idle _ _ _ _))⟩

theorem State.enterAlarm_keepsAll (k : TriggerKind) (s : State) : s.KeepsAll (s.enterAlarm k) := by
  let due := s.pscNow + s.sto.policy.grace
  let s1 := (s.setLevel .alarm (.trigger k) none).forceAll.emptySet.abortForAlarm
  let s2 := (s1.onThm fun t => { t with grace := some due }).enter .grace due
  have first : s.KeepsLocks s1 := (s.setLevel_keepsLocks _ _ _).trans
    ((State.forceAll_keepsAll _).trans ((State.emptySet_keepsAll _).trans (State.abortForAlarm_keepsAll _))).toKeepsLocks
  have level : s1.thm.level = .alarm :=
    (((State.forceAll_unchanged _).append (State.emptySet_unchanged _)).append (State.abortForAlarm_unchanged _))
      .level (by decide)
  have alarm : s1.EngineSound := ⟨fun h => (nomatch level.symm.trans h), fun _ a credential => State.abortForAlarm_job⟩
  have second : s1.KeepsAll s2 := State.KeepsAll.trans State.onThm_keepsAll (State.enter_keepsAll _ _ _)
  have rest : s2.KeepsAll (s.enterAlarm k) := by
    unfold State.enterAlarm
    simp only
    split
    · exact State.enterWiping_keepsAll _ _
    · exact (((State.bump_keepsAll _).trans (State.threatNotice_keepsAll _ _ _ _)).trans (State.notify_keepsAll _ _)).trans
        (State.mark_keepsAll _ _)
  exact ⟨first.trans (second.trans rest).toKeepsLocks, fun _ => (second.trans rest).engine alarm⟩

/-! ## Captures, triggers, thresholds -/

/-- An update of one capture record that keeps its count within its values. -/
theorem State.onCapture_keepsAll {f : Thm → Thm} {s : State} {i : Fin 8} {c : Option Capture}
    (hc : (f s.thm).captures = s.thm.captures.set i c)
    (hv : s.CountsSound → ∀ d, c = some d → 1 ≤ d.count ∧ d.count ≤ 255)
    (hl : (f s.thm).level = s.thm.level := by rfl) : s.KeepsAll (s.onThm f) := by
  refine ⟨⟨⟨id, fun h => ?_, id, id, id, id, id⟩, fun _ => id⟩, fun h => ?_⟩
  · have hv := hv h
    obtain ⟨psc, failures, tryCount, captures⟩ := h
    refine ⟨psc, failures, tryCount, fun j d hd => ?_⟩
    rw [State.onThm_thm, hc, Table.get_set] at hd
    split at hd
    · exact hv d hd
    · exact captures j d hd
  · rw [State.EngineSound, State.onThm_thm, hl]
    exact h

theorem State.capture_keepsAll (k : TriggerKind) (s : State) : s.KeepsAll (s.capture k) := by
  unfold State.capture
  split
  · next c hc =>
    refine State.KeepsAll.trans (State.onCapture_keepsAll rfl fun h d hd => ?_) (State.mark_keepsAll _ _)
    obtain ⟨-, -, -, captures⟩ := h
    have := captures _ c hc
    cases hd
    simp only
    omega
  · refine State.KeepsAll.trans (State.KeepsAll.trans (State.onCapture_keepsAll rfl fun _ d hd => ?_)
      (State.mark_keepsAll _ _)) (State.notify_keepsAll _ _)
    cases hd
    simp

theorem State.takeTrigger_keepsAll (k : TriggerKind) (s : State) : s.KeepsAll (s.takeTrigger k) := by
  have h := s.capture_keepsAll k
  unfold State.takeTrigger
  simp only
  split
  · exact h
  · split
    · exact h
    · split
      · exact h
      · exact h.trans (State.enterWary_keepsAll _ _)
      · exact h.trans (State.enterAlarm_keepsAll _ _)
      · exact h.trans (State.enterWiping_keepsAll _ _)

theorem State.disableAtLimit_keepsAll (a : AuthIx) (s : State) : s.KeepsAll (s.disableAtLimit a) := by
  unfold State.disableAtLimit
  split
  · refine State.KeepsAll.trans ?_ (State.mark_keepsAll _ _)
    exact State.onAuthority_keepsAll fun _ h => h
  · exact .refl _

end Sys2Proof.Machine
end

section
/-! PROOFS. Frames of a start, of standby entry and of the opening of the link, and how these keep the invariants. -/

namespace Sys2Proof.Machine

/-! ## Frames -/

/-- What an opening of the link concerns (R168). -/
def Part.opening : List Part := [.power, .selTimed, .pairing, .deadlines, .fallen, .hold] ++ Part.notices

theorem State.clockNotice_unchanged (e : ClockEvent) (s : State) : Unchanged Part.notices s (s.clockNotice e) :=
  s.notify_unchanged _

theorem State.wipeNotice_unchanged (s : State) : Unchanged Part.notices s s.wipeNotice := s.notify_unchanged _

theorem State.openPairing_unchanged (s : State) : Unchanged [.pairing, .deadlines, .fallen] s s.openPairing := by
  have h (f : Aut → Aut) (hf : (f s.aut).auth = s.aut.auth ∧ (f s.aut).lifecycle = s.aut.lifecycle ∧
      (f s.aut).tryCount = s.aut.tryCount ∧ (f s.aut).lastSignIn = s.aut.lastSignIn ∧ (f s.aut).engine = s.aut.engine) :
      Unchanged [.pairing] s (s.onAut f) := by
    intro p hp; cases p <;> simp_all [Part.same]
  unfold State.openPairing
  split
  · exact (h _ ⟨rfl, rfl, rfl, rfl, rfl⟩).mono
  · split
    · exact ((h _ ⟨rfl, rfl, rfl, rfl, rfl⟩).append (State.enter_unchanged _ _ _)).mono
    · exact (s.withdraw_unchanged _).mono

theorem State.sampleHalt_unchanged (s : State) : Unchanged [.hold] s s.sampleHalt := by
  intro p hp; cases p <;> simp_all [Part.same, State.sampleHalt]

theorem State.threatAtOpening_unchanged (start : Bool) (s : State) :
    Unchanged Part.notices s (s.threatAtOpening start) := by
  unfold State.threatAtOpening
  split
  · exact s.threatNotice_unchanged _ _ _
  · exact .refl _ _

theorem State.clockAtOpening_unchanged (start : Bool) (s : State) : Unchanged Part.notices s (s.clockAtOpening start) := by
  unfold State.clockAtOpening
  split
  · exact s.clockNotice_unchanged _
  · exact .refl _ _

theorem State.wipeAtOpening_unchanged (s : State) : Unchanged Part.notices s s.wipeAtOpening := by
  unfold State.wipeAtOpening
  split
  · exact s.wipeNotice_unchanged
  · exact .refl _ _

theorem State.captureAtOpening_unchanged (s : State) : Unchanged Part.notices s s.captureAtOpening := by
  unfold State.captureAtOpening
  split
  · exact s.notify_unchanged _
  · exact .refl _ _

theorem State.storeAtOpening_unchanged (s : State) : Unchanged Part.notices s s.storeAtOpening := by
  unfold State.storeAtOpening
  split
  · exact s.notify_unchanged _
  · exact .refl _ _

/-- The notices due at an opening. -/
theorem State.openingNotices_unchanged (start : Bool) (t : State) : Unchanged Part.notices t
    (((t.threatAtOpening start).clockAtOpening start).wipeAtOpening.captureAtOpening).storeAtOpening :=
  ((((t.threatAtOpening_unchanged start).append (State.clockAtOpening_unchanged _ _)).append
    (State.wipeAtOpening_unchanged _)).append (State.captureAtOpening_unchanged _)).append
    (State.storeAtOpening_unchanged _) |>.mono

theorem State.openLink_unchanged (start : Bool) (s : State) : Unchanged Part.opening s (s.openLink start) := by
  have h (f : Pwc → Pwc) (hf : (f s.pwc).resetCause = s.pwc.resetCause ∧ (f s.pwc).stage = s.pwc.stage ∧
      (f s.pwc).waits = s.pwc.waits) : Unchanged [.power, .selTimed] s (s.onPwc f) := by
    intro p hp; cases p <;> simp_all [Part.same]
  exact ((((h _ ⟨rfl, rfl, rfl⟩).append (State.openPairing_unchanged _)).append (State.sampleHalt_unchanged _)).append
    (State.openingNotices_unchanged start _)).mono

theorem State.takeTriggers_unchanged (ks : List TriggerKind) (s : State) :
    Unchanged Part.triggers s (s.takeTriggers ks) :=
  Unchanged.foldl _ (fun s k => ((s.newOccurrence_unchanged).append (State.takeTrigger_unchanged k _)).mono) _ _

theorem State.takeHeld_unchanged (s : State) : Unchanged (.raised :: Part.triggers) s s.takeHeld := by
  have h : Unchanged [.raised] s (s.onThm fun t => { t with raised := [] }) := by
    intro p hp; cases p <;> simp_all [Part.same]
  exact (h.append (State.takeTriggers_unchanged _ _)).mono

theorem State.disableAtLimit_unchanged (a : AuthIx) (s : State) :
    Unchanged (.authorities :: Part.marks) s (s.disableAtLimit a) := by
  unfold State.disableAtLimit
  split
  · exact ((s.onAuthority_unchanged _ _).append (State.mark_unchanged _ _)).mono
  · exact .refl _ _

theorem State.startThresholds_unchanged (s : State) : Unchanged Part.triggers s s.startThresholds := by
  have h := Unchanged.foldl (fun s a => State.disableAtLimit a s) (fun s a => s.disableAtLimit_unchanged a) (List.finRange 8) s
  unfold State.startThresholds
  simp only
  split
  · exact (h.append (State.takeTriggers_unchanged _ _)).mono
  · exact h.mono

theorem State.startBackoffs_unchanged (s : State) : Unchanged [.deadlines, .fallen] s s.startBackoffs := by
  refine Unchanged.foldl _ (fun s a => ?_) _ _
  split
  · exact s.setBackoff_unchanged a
  · exact .refl _ _

theorem State.startOpenings_unchanged (s : State) : Unchanged Part.openings s s.startOpenings := by
  have h : Unchanged [] s (s.onModel fun m => { m with bumped := true }) := by
    intro p hp; cases p <;> simp_all [Part.same]
  exact ((h.append (State.openPlain_unchanged _ _ _)).append (State.newOccurrence_unchanged _)).mono

/-! ## The link closes and opens -/

theorem State.clearLink_keepsAll (s : State) : s.KeepsAll (s.onLnk fun l => { Lnk.cleared with sdo := l.sdo }) := by
  refine ⟨⟨⟨id, id, id, id, id, id, id⟩, fun _ _ i d w r hd => ?_⟩, id⟩
  simp [Lnk.cleared] at hd

theorem State.closeLink_keepsAll (s : State) : s.KeepsAll s.closeLink := by
  unfold State.closeLink
  simp only
  split
  · refine State.KeepsAll.trans ?_ State.onSto_keepsAll
    refine State.KeepsAll.trans ?_ (State.onWpc_keepsAll _ _)
    refine State.KeepsAll.trans ?_ State.onTmb_keepsAll
    refine State.KeepsAll.trans ?_ State.onThm_keepsAll
    exact s.clearLink_keepsAll
  · exact s.clearLink_keepsAll

theorem State.clockNotice_keepsAll (e : ClockEvent) (s : State) : s.KeepsAll (s.clockNotice e) := s.notify_keepsAll _

theorem State.clockEvent_keepsAll (cause : ClockCause) (previous : Quality) (measured : Option Nat) (s : State) :
    s.KeepsAll (s.clockEvent cause previous measured) :=
  State.KeepsAll.trans State.onTmb_keepsAll (State.clockNotice_keepsAll _ _)

theorem State.wipeNotice_keepsAll (s : State) : s.KeepsAll s.wipeNotice := s.notify_keepsAll _

theorem State.openPairing_keepsAll (s : State) : s.KeepsAll s.openPairing := by
  unfold State.openPairing
  split
  · exact State.onAut_keepsAll
  · split
    · exact State.KeepsAll.trans State.onAut_keepsAll (State.enter_keepsAll _ _ _)
    · exact s.withdraw_keepsAll _

theorem State.threatAtOpening_keepsAll (start : Bool) (s : State) : s.KeepsAll (s.threatAtOpening start) := by
  unfold State.threatAtOpening
  split
  · exact s.threatNotice_keepsAll _ _ _
  · exact .refl _

theorem State.clockAtOpening_keepsAll (start : Bool) (s : State) : s.KeepsAll (s.clockAtOpening start) := by
  unfold State.clockAtOpening
  split
  · exact s.clockNotice_keepsAll _
  · exact .refl _

theorem State.wipeAtOpening_keepsAll (s : State) : s.KeepsAll s.wipeAtOpening := by
  unfold State.wipeAtOpening
  split
  · exact s.wipeNotice_keepsAll
  · exact .refl _

theorem State.captureAtOpening_keepsAll (s : State) : s.KeepsAll s.captureAtOpening := by
  unfold State.captureAtOpening
  split
  · exact s.notify_keepsAll _
  · exact .refl _

theorem State.storeAtOpening_keepsAll (s : State) : s.KeepsAll s.storeAtOpening := by
  unfold State.storeAtOpening
  split
  · exact s.notify_keepsAll _
  · exact .refl _

/-- The link opens where the start's last step is taken. -/
theorem State.openLink_keepsAll {s : State} (start : Bool) (h : s.StageSound → s.pwc.stage = .done) :
    s.KeepsAll (s.openLink start) := by
  refine State.KeepsAll.trans (State.onPwc_keepsAll (f := fun p => { p with power := .active, selTimed := false })
    fun k _ => h k) ?_
  exact (((((((State.openPairing_keepsAll _).trans (State.onKln_keepsAll _ _)).trans
    (State.threatAtOpening_keepsAll start _)).trans (State.clockAtOpening_keepsAll start _)).trans
    (State.wipeAtOpening_keepsAll _)).trans (State.captureAtOpening_keepsAll _)).trans (State.storeAtOpening_keepsAll _))

theorem State.closeLink_pwc (s : State) : s.closeLink.pwc = s.pwc := by
  simp only [State.closeLink]
  split <;> rfl

/-- Standby entry where the start's last step is taken (R172). -/
theorem State.standbyEntry_keepsAll {s : State} (h : s.StageSound → s.pwc.stage = .done) : s.KeepsAll s.standbyEntry := by
  have power : s.KeepsAll (s.closeLink.onPwc fun p => { p with power := .standby, selTimed := false }) := by
    refine State.KeepsAll.trans s.closeLink_keepsAll (State.onPwc_keepsAll fun k _ => ?_)
    simp only [State.StageSound, State.onPwc_pwc, State.closeLink_pwc] at k ⊢
    exact h k
  unfold State.standbyEntry
  refine State.KeepsAll.trans (State.KeepsAll.trans ?_ (State.bump_keepsAll _)) (State.mark_keepsAll _ _)
  refine State.KeepsAll.trans (State.KeepsAll.trans ?_ State.onAut_keepsAll) (State.withdraw_keepsAll _ _)
  refine State.KeepsAll.trans (State.KeepsAll.trans ?_ (State.abortForStandby_keepsAll _)) (State.emptySet_keepsAll _)
  refine State.KeepsAll.trans ?_ (State.onKln_keepsAll _ _)
  exact (power.trans (State.purgeEffects_keepsAll _ _)).trans
    (State.forceLocked_keepsAll (State.purgeEffects_noneLocking _ _) _)

theorem State.warmStart_keepsAll (cause : ResetCause) (s : State) : s.KeepsAll (s.warmStart cause) := by
  refine State.KeepsAll.trans (s.closeLink_keepsAll.trans (State.idleEngine_keepsAll _)) (State.onPwc_keepsAll fun _ k => ?_)
  rcases k with k | k <;> cases k

/-! ## Step 2: the records read (R159) -/

theorem Kept.read_valid {α : Type} {valid : α → Bool} {k : Kept α} {a : α} (h : k.read valid = some a) : valid a = true := by
  cases k with
  | sound b =>
    simp only [Kept.read] at h
    split at h
    · next hb => cases h; exact hb
    · cases h
  | blank => cases h
  | invalid => cases h

theorem Records.readPolicy_valid (rs : Records) : rs.readPolicy.valid = true := by
  unfold Records.readPolicy
  cases h : rs.policy.read Policy.valid with
  | none => rfl
  | some p => exact Kept.read_valid h

theorem Records.readPolicy_sound {rs : Records} {s : State} (h : s.sto.policy = rs.readPolicy) : s.SettingsSound := by
  have := rs.readPolicy_valid
  simp only [Policy.valid, Bool.and_eq_true, Bool.or_eq_true, decide_eq_true_eq] at this
  simp only [State.SettingsSound, h]
  tauto

theorem Records.readCounters_tryCount (rs : Records) : rs.readCounters.tryCount ≤ 65535 := by
  unfold Records.readCounters
  cases h : rs.counters.read CountersRec.valid with
  | none => exact Nat.zero_le _
  | some c =>
    have := Kept.read_valid h
    simp only [CountersRec.valid, Bool.and_eq_true, decide_eq_true_eq] at this
    exact this.1.1.1.1

theorem Records.readAuthority_failures (rs : Records) (a : AuthIx) :
    ((rs.readAuthority a).getD .factory).failures ≤ 255 := by
  cases h : rs.readAuthority a with
  | none => exact Nat.zero_le _
  | some k =>
    have := Kept.read_valid h
    simp only [AuthorityRec.valid, Bool.and_eq_true, decide_eq_true_eq] at this
    exact this.1.1.1.1

theorem Records.readCapture_count {rs : Records} {i : Fin 8} {c : Capture} (h : (rs.readCapture i).getD none = some c) :
    1 ≤ c.count ∧ c.count ≤ 255 := by
  cases k : rs.readCapture i with
  | none => rw [k] at h; cases h
  | some o =>
    rw [k, Option.getD_some] at h
    subst h
    have := Kept.read_valid k
    simp only [Option.all_some, Capture.valid, Bool.and_eq_true, decide_eq_true_eq] at this
    exact ⟨this.1.2, this.2⟩

/-- Two geometries that share no block lie one above the other. -/
theorem Geometry.apart_of_not_overlaps {g k : Geometry} (h : g.overlaps k = false) :
    g.start + g.length ≤ k.start ∨ k.start + k.length ≤ g.start := by
  simp only [Geometry.overlaps, Bool.and_eq_false_iff, decide_eq_false_iff_not] at h
  simp only [Geometry.after] at h
  omega

/-- A range record that stands as the scan judges it is among those accepted. -/
theorem Records.mem_accepted {rs : Records} {c : Nat} {q : RangeIx} {e : RangeRec} {g : Geometry}
    (h : rs.readRange c q = some e) (hg : e.geometry = some g) : g ∈ rs.accepted c (q.val + 1) := by
  unfold Records.readRange at h
  split at h
  · next d hd =>
    split at h
    · cases h
    · next hn =>
      cases h
      have free : ((rs.accepted c q.val).any fun k => g.overlaps k) = false := by simpa [hg] using hn
      obtain ⟨geometry, flags⟩ := e
      subst hg
      have hd : (rs.range.get ⟨q.val, q.isLt⟩).read (rangeFits c ⟨q.val, q.isLt⟩) =
        some { geometry := some g, flags := flags } := hd
      simp only [Records.accepted, q.isLt, dite_true, hd, free]
      simp
  · cases h

/-- What is accepted below an index stays accepted. -/
theorem Records.accepted_mono {rs : Records} {c m n : Nat} (h : m ≤ n) {g : Geometry} (hg : g ∈ rs.accepted c m) :
    g ∈ rs.accepted c n := by
  induction h with
  | refl => exact hg
  | @step n _ ih =>
    unfold Records.accepted
    simp only
    split
    · split
      · split
        · exact ih
        · exact List.mem_append_left _ ih
      · exact ih
    · exact ih

/-- A range read with a geometry is not index 0, and lies below C (R159). -/
theorem Records.readRange_fits {rs : Records} {c : Nat} {r : RangeIx} {e : RangeRec} {g : Geometry}
    (h : rs.readRange c r = some e) (hg : e.geometry = some g) :
    r ≠ 0 ∧ g.below c = true ∧ ∀ k ∈ rs.accepted c r.val, g.overlaps k = false := by
  unfold Records.readRange at h
  split at h
  · next d hd =>
    have fits := Kept.read_valid hd
    split at h
    · cases h
    · next hn =>
      cases h
      refine ⟨fun h0 => ?_, ?_, ?_⟩
      · simp [rangeFits, h0, hg] at fits
      · unfold rangeFits at fits
        split at fits
        · simp [hg] at fits
        · simpa [hg] using fits
      · simpa [hg] using hn
  · cases h

theorem Records.rangeEntry_geometry {rs : Records} {c : Nat} {r : RangeIx} {g : Geometry}
    (h : (rs.rangeEntry c r).geometry = some g) : ∃ e, rs.readRange c r = some e ∧ e.geometry = some g := by
  cases k : rs.readRange c r with
  | none => simp [Records.rangeEntry, k, rangeFallback] at h
  | some e => exact ⟨e, rfl, by simpa [Records.rangeEntry, k] using h⟩

/-- The range table as the scan builds it meets R1 and R2. -/
theorem State.readRecords_ranges (s : State) : s.readRecords.RangesSound := by
  have get (r : RangeIx) : s.readRecords.rmg.ranges.get r =
      s.sto.records.rangeEntry s.sto.records.readIdentity.capacity r := by simp [State.readRecords]
  have below {q r : RangeIx} {g k : Geometry} (hqr : q < r) (hq : (s.readRecords.rmg.ranges.get q).geometry = some g)
      (hr : (s.readRecords.rmg.ranges.get r).geometry = some k) : k.overlaps g = false := by
    rw [get] at hq hr
    obtain ⟨d, hd, hg⟩ := Records.rangeEntry_geometry hq
    obtain ⟨e, he, hk⟩ := Records.rangeEntry_geometry hr
    exact (Records.readRange_fits he hk).2.2 g (Records.accepted_mono (by simpa using hqr) (Records.mem_accepted hd hg))
  refine ⟨?_, fun r g hg => ?_, fun q r g k hqr hq hr => ?_⟩
  · rw [Option.eq_none_iff_forall_ne_some]
    intro g hg
    rw [get] at hg
    obtain ⟨e, he, hk⟩ := Records.rangeEntry_geometry hg
    exact (Records.readRange_fits he hk).1 rfl
  · rw [get] at hg
    obtain ⟨e, he, hk⟩ := Records.rangeEntry_geometry hg
    have := (Records.readRange_fits he hk).2.1
    simp only [Geometry.below, Bool.and_eq_true, decide_eq_true_eq] at this
    exact this
  · rcases lt_or_gt_of_ne hqr with h | h
    · exact (Geometry.apart_of_not_overlaps (below h hq hr)).symm
    · exact Geometry.apart_of_not_overlaps (below h hr hq)

theorem State.readRecords_locked (s : State) (r : RangeIx) : (s.readRecords.rmg.ranges.get r).lock = .locked := by
  simp [State.readRecords, Records.rangeEntry]

theorem State.readRecords_keeps (s : State) : s.Keeps s.readRecords where
  mapGen := id
  counts h := by
    obtain ⟨psc, -⟩ := h
    refine ⟨psc, fun a => ?_, Records.readCounters_tryCount _, fun i c hc => ?_⟩
    · simpa [State.readRecords] using s.sto.records.readAuthority_failures a
    · exact Records.readCapture_count (by simpa [State.readRecords] using hc)
  settings _ := Records.readPolicy_sound (rs := s.sto.records) rfl
  ranges _ := s.readRecords_ranges
  rangeKeys _ r := ⟨fun _ => by simp [State.readRecords, Rmg.bare], fun _ => s.readRecords_locked r⟩
  authorityKeys _ := ⟨fun k => by simp [State.readRecords, Rmg.bare] at k,
    fun a k => by simp [State.readRecords, Rmg.bare] at k⟩
  stage := id

theorem State.readRecords_idle (s : State) : s.readRecords.aut.engine = .idle := rfl

theorem State.readRecords_keepsLocks {s : State} (h : ∀ i, s.lnk.deferred.get i = none) : s.KeepsLocks s.readRecords :=
  ⟨s.readRecords_keeps, fun _ _ i d _ _ hd => by rw [show s.readRecords.lnk = s.lnk from rfl, h i] at hd; cases hd⟩

/-! ## Steps 3 to 8 (R167, R168) -/

/-- The PSC stands within its value. -/
theorem State.setPsc_keepsAll {p : Nat} (hp : p ≤ 4294967295) (s : State) :
    s.KeepsAll (s.onTmb fun t => { t with psc := some p }) := by
  refine ⟨⟨⟨id, fun h => ?_, id, id, id, id, id⟩, fun _ => id⟩, id⟩
  obtain ⟨-, rest⟩ := h
  exact ⟨fun q hq => by cases hq; exact hp, rest⟩

/-- The PSC charge of a start, which is not ACTIVE or STANDBY. -/
theorem State.chargePsc_keepsAll {s : State} (h : s.StageSound → ¬(s.pwc.power = .active ∨ s.pwc.power = .standby)) :
    s.KeepsAll s.chargePsc := by
  unfold State.chargePsc
  refine State.KeepsAll.trans ?_ (State.mark_keepsAll _ _)
  refine State.KeepsAll.trans (State.KeepsAll.trans (s.setPsc_keepsAll (Nat.min_le_right _ _)) (State.enter_keepsAll _ _ _))
    (State.onPwc_keepsAll fun k p => absurd p (h k))

theorem State.firstMapGen_keepsAll (s : State) : s.KeepsAll (s.onRmg fun m => { m with mapGen := 1 }) :=
  ⟨⟨⟨fun _ => ⟨Nat.le_refl 1, (by decide : 1 ≤ 4294967295)⟩, id, id, id, id, id, id⟩, fun _ => id⟩, id⟩

theorem State.startPurge_keepsAll (s : State) : s.KeepsAll s.startPurge := by
  unfold State.startPurge
  exact (((s.purgeEffects_keepsAll _).trans (State.onKln_keepsAll _ _)).trans (State.firstMapGen_keepsAll _)).trans
    (State.onSrv_keepsAll _ _)

/-- The start's last step is taken. -/
theorem State.stageDone_keepsAll (s : State) : s.KeepsAll (s.onPwc fun p => { p with stage := .done, waits := [] }) :=
  State.onPwc_keepsAll fun _ _ => rfl

theorem State.restoreLevel_keepsAll (s : State) : s.KeepsAll s.restoreLevel := by
  have first : s.KeepsAll ((s.onThm fun t =>
      { t with
        bay := .fresh, caseSw := .fresh, armed := true, lastCause := .start, lastAuthority := none
        levelAtClose := t.level, changedClosed := false }).onPwc fun p => { p with stage := .done, waits := [] }) :=
    State.KeepsAll.trans State.onThm_keepsAll (State.stageDone_keepsAll _)
  unfold State.restoreLevel
  simp only
  split
  · exact first.trans (State.cancel_keepsAll _ _)
  · exact first.trans (State.cancel_keepsAll _ _)
  · split
    · split
      · exact (first.trans (State.newOccurrence_keepsAll _)).trans (State.enterWiping_keepsAll _ _)
      · exact (first.trans (State.cancel_keepsAll _ _)).trans (State.enter_keepsAll _ _ _)
    · exact first.trans (State.cancel_keepsAll _ _)
  · exact ((first.trans (State.cancel_keepsAll _ _)).trans (State.phaseZero_keepsAll _ _ _ _)).trans
      (State.mark_keepsAll _ _)

theorem State.restoreLevel_stage (s : State) : s.restoreLevel.pwc.stage = .done := by
  unfold State.restoreLevel
  simp only
  split
  · rfl
  · rfl
  · split
    · split
      · exact (State.enterWiping_unchanged _ _ .stage (by decide)).1
      · rfl
    · rfl
  · exact (((State.phaseZero_unchanged _ _ _ _).append (State.mark_unchanged _ _)) .stage (by decide)).1

theorem State.takeTriggers_keepsAll (ks : List TriggerKind) (s : State) : s.KeepsAll (s.takeTriggers ks) :=
  .foldl _ (fun s k => (s.newOccurrence_keepsAll).trans (State.takeTrigger_keepsAll k _)) _ _

theorem State.takeHeld_keepsAll (s : State) : s.KeepsAll s.takeHeld := by
  unfold State.takeHeld
  exact State.KeepsAll.trans State.onThm_keepsAll (State.takeTriggers_keepsAll _ _)

theorem State.startThresholds_keepsAll (s : State) : s.KeepsAll s.startThresholds := by
  have h := State.KeepsAll.foldl (fun s a => State.disableAtLimit a s) (fun s a => s.disableAtLimit_keepsAll a)
    (List.finRange 8) s
  unfold State.startThresholds
  simp only
  split
  · exact h.trans (State.takeTriggers_keepsAll _ _)
  · exact h

theorem State.startBackoffs_keepsAll (s : State) : s.KeepsAll s.startBackoffs := by
  refine State.KeepsAll.foldl _ (fun s a => ?_) _ _
  split
  · exact s.setBackoff_keepsAll a
  · exact .refl _

theorem State.startOpenings_keepsAll (s : State) : s.KeepsAll s.startOpenings :=
  ((s.onModel_keepsAll _).trans (State.openPlain_keepsAll rfl _ _)).trans (State.newOccurrence_keepsAll _)

theorem State.endStart_keepsAll {s : State} (h : s.pwc.stage = .done) : s.KeepsAll s.endStart := by
  unfold State.endStart
  split
  · exact State.openLink_keepsAll _ fun _ => h
  · exact State.standbyEntry_keepsAll fun _ => h

/-- The part of a start from the restored level to the openings of step 7 leaves the stage. -/
theorem State.midStart_stage (s : State) :
    s.restoreLevel.takeHeld.startThresholds.startBackoffs.startOpenings.pwc.stage = .done := by
  have h := ((((State.takeHeld_unchanged s.restoreLevel).append (State.startThresholds_unchanged _)).append
    (State.startBackoffs_unchanged _)).append (State.startOpenings_unchanged _)) .stage (by decide)
  exact h.1.trans s.restoreLevel_stage

theorem State.finishStart_keepsAll (s : State) : s.KeepsAll s.finishStart :=
  ((((((s.startPurge_keepsAll).trans (State.restoreLevel_keepsAll _)).trans (State.takeHeld_keepsAll _)).trans
    (State.startThresholds_keepsAll _)).trans (State.startBackoffs_keepsAll _)).trans
    (State.startOpenings_keepsAll _)).trans (State.endStart_keepsAll (State.midStart_stage _))

/-! ## The scan, the supply, and the step before a warm start's scan -/

/-- What follows the records read at the end of the scan. -/
theorem State.afterScan_keepsAll {s : State} (h : s.pwc.stage ≠ .done) :
    (s.pwc.stage = .scanning true → s.readRecords.KeepsAll s.scanDone) ∧
      (s.pwc.stage = .scanning false → s.readRecords.KeepsAll s.scanDone) := by
  refine ⟨fun k => ?_, fun k => ?_⟩
  · unfold State.scanDone
    rw [k]
    exact State.chargePsc_keepsAll fun hs p => h (hs p)
  · unfold State.scanDone
    rw [k]
    exact ((State.withdrawAll_keepsAll _ _).trans (State.finishStart_keepsAll _)).trans (State.beginOp_keepsAll _)

theorem State.scanDone_cases (s : State) : s.scanDone = s ∨
    (s.pwc.stage ≠ .done ∧ ((s.pwc.power = .active ∨ s.pwc.power = .standby) → s.pwc.stage ≠ .done) ∧
      s.readRecords.KeepsAll s.scanDone) := by
  cases h : s.pwc.stage with
  | scanning cold =>
    have hd : s.pwc.stage ≠ .done := by rw [h]; exact fun k => by cases k
    refine .inr ⟨by simp, fun _ => by simp, ?_⟩
    cases cold
    · exact (State.afterScan_keepsAll hd).2 h
    · exact (State.afterScan_keepsAll hd).1 h
  | waitStore => exact .inl (by simp [State.scanDone, h])
  | charging => exact .inl (by simp [State.scanDone, h])
  | done => exact .inl (by simp [State.scanDone, h])

theorem State.losePower_keepsAll (s : State) : s.KeepsAll s.losePower := by
  unfold State.losePower
  refine State.KeepsAll.trans State.onSto_keepsAll (State.onPwc_keepsAll fun _ k => ?_)
  rcases k with k | k <;> cases k

theorem State.proceed_keepsAll {s : State} (h : s.pwc.stage = .waitStore) : s.KeepsAll s.proceed := by
  unfold State.proceed
  refine State.KeepsAll.trans (State.KeepsAll.trans ?_ (State.onWpc_keepsAll _ _)) (State.onPwc_keepsAll fun k p => ?_)
  · refine State.KeepsAll.trans (State.KeepsAll.trans ?_ (State.emptySet_keepsAll _)) (State.idleEngine_keepsAll _)
    exact State.KeepsAll.trans State.onSto_keepsAll (State.clearLink_keepsAll _)
  · have : s.pwc.stage = .done := k p
    rw [h] at this
    cases this

end Sys2Proof.Machine
end

section
/-! PROOFS. Envelopes, fresh keys, PROVISION, the wipe and the report of a store operation: frames, and how they keep the invariants. -/

namespace Sys2Proof.Machine

/-! ## Envelopes and fresh keys (R4, R6) -/

theorem State.deleteEnvelopes_unchanged (ps : List EnvIx) (s : State) :
    Unchanged [.envelopes, .grants] s (s.deleteEnvelopes ps) := by
  intro p hp; cases p <;> simp_all [Part.same, State.deleteEnvelopes]

theorem State.putEnvelope_unchanged (q : EnvIx) (e : Envelope) (s : State) : Unchanged [.envelopes] s (s.putEnvelope q e) := by
  intro p hp; cases p <;> simp_all [Part.same, State.putEnvelope]

theorem placeEnvelope_unchanged (e : Envelope) (acc : State × List EnvIx) :
    Unchanged [.envelopes] acc.1 (placeEnvelope e acc).1 := by
  unfold placeEnvelope
  split
  · exact acc.1.putEnvelope_unchanged _ _
  · exact .refl _ _

theorem State.freshKey_unchanged (domain : Key) (r : RangeIx) (s : State) :
    Unchanged [.draws, .ranges] s (s.freshKey domain r) :=
  s.draw_unchanged.append (State.onRange_unchanged _ _ _)

theorem State.setCredential_unchanged (a : AuthIx) (credential : List Byte) (factor : Nat) (startup : List RangeIx)
    (s : State) : Unchanged [.draws, .authorities] s (s.setCredential a credential factor startup) :=
  s.draw_unchanged.append (State.onAuthority_unchanged _ _ _)

theorem State.deleteEnvelopes_keepsAll (ps : List EnvIx) (s : State) : s.KeepsAll (s.deleteEnvelopes ps) :=
  (s.deleteEnvelopes_unchanged ps).keepsAll_of_deferred

theorem State.putEnvelope_keepsAll (q : EnvIx) (e : Envelope) (s : State) : s.KeepsAll (s.putEnvelope q e) :=
  (s.putEnvelope_unchanged q e).keepsAll_of_deferred

theorem placeEnvelope_keepsAll (e : Envelope) (acc : State × List EnvIx) : acc.1.KeepsAll (placeEnvelope e acc).1 := by
  unfold placeEnvelope
  split
  · exact acc.1.putEnvelope_keepsAll _ _
  · exact .refl _

theorem State.freshKey_keepsAll (domain : Key) (r : RangeIx) (s : State) : s.KeepsAll (s.freshKey domain r) := by
  unfold State.freshKey
  exact State.KeepsAll.onRange s.draw_keepsAll

theorem State.freshKeys_keepsAll (domain : Key) (rs : List RangeIx) (s : State) :
    s.KeepsAll (rs.foldl (fun s r => s.freshKey domain r) s) := .foldl _ (fun s r => s.freshKey_keepsAll domain r) _ _

theorem State.setCredential_keepsAll (a : AuthIx) (credential : List Byte) (factor : Nat) (startup : List RangeIx)
    (s : State) : s.KeepsAll (s.setCredential a credential factor startup) := by
  unfold State.setCredential
  exact State.KeepsAll.trans s.draw_keepsAll (State.onAuthority_keepsAll fun _ _ => Nat.zero_le _)

/-! ## PROVISION (R75) -/

/-- A stage of PROVISION: the engine was not IDLE, so the level is not WIPING. -/
theorem State.finishing_keepsAll {stage : Stage} {domain : Key} {ws : List Wait} {s : State} (h : s.aut.engine ≠ .idle) :
    s.KeepsAll (s.onAut fun a => { a with engine := .finishing stage domain ws }) :=
  State.setEngine_keepsAll fun k => ⟨fun hw => absurd (k.1 hw) h, fun _ _ _ hj => by cases hj⟩

theorem Unchanged.engine_busy {e : List Part} {s t : State} (h : Unchanged e s t) (hs : s.aut.engine ≠ .idle)
    (he : Part.engine ∉ e := by decide) : t.aut.engine ≠ .idle := by
  have : t.aut.engine.plain = s.aut.engine.plain := h .engine he
  rwa [ne_eq, ← Engine.plain_idle, this, Engine.plain_idle]

/-- ADMIN's credential and RESCUE's, or RESCUE left disabled (R75). -/
def State.provisionCredentials (p : ProvisionJob) (s : State) : State :=
  let s1 := s.setCredential 0 p.admin p.factor p.adminSet
  match p.rescue with
  | some c => s1.setCredential 7 c p.factor p.rescueSet
  | none => s1.onAuthority 7 fun k => { k with enabled := false, startup := [] }

/-- The domain envelopes that PROVISION places, with their positions (R75). -/
def State.provisionEnvelopes (p : ProvisionJob) (s : State) : State × List EnvIx :=
  let s1 := s.setCredential 0 p.admin p.factor p.adminSet
  let s2 := s.provisionCredentials p
  let domain := Key.drawn s2.model.draws
  let admin := placeEnvelope (domainEnvelope 0 (.kek p.admin s.model.draws p.factor) domain)
    ((s2.deleteEnvelopes (s2.envelopesWhere fun _ => true)).draw, [])
  match p.rescue.map fun c => Key.kek c s1.model.draws p.factor with
  | some k => placeEnvelope (domainEnvelope 7 k domain) admin
  | none => admin

theorem State.provisionAuthorities_eq (p : ProvisionJob) (s : State) : ∃ domain ws rs,
    s.provisionAuthorities p = ((s.provisionEnvelopes p).1.onAut fun a =>
      { a with engine := .finishing .authorities domain ws }).markAll rs := ⟨_, _, _, rfl⟩

theorem State.provisionCredentials_unchanged (p : ProvisionJob) (s : State) :
    Unchanged [.draws, .authorities] s (s.provisionCredentials p) := by
  unfold State.provisionCredentials
  simp only
  split
  · exact ((s.setCredential_unchanged _ _ _ _).append (State.setCredential_unchanged _ _ _ _ _)).mono
  · exact ((s.setCredential_unchanged _ _ _ _).append (State.onAuthority_unchanged _ _ _)).mono

theorem State.provisionCredentials_keepsAll (p : ProvisionJob) (s : State) : s.KeepsAll (s.provisionCredentials p) := by
  unfold State.provisionCredentials
  simp only
  split
  · exact (s.setCredential_keepsAll _ _ _ _).trans (State.setCredential_keepsAll _ _ _ _ _)
  · exact State.KeepsAll.trans (s.setCredential_keepsAll _ _ _ _) (State.onAuthority_keepsAll fun _ h => h)

theorem State.provisionEnvelopes_unchanged (p : ProvisionJob) (s : State) :
    Unchanged [.draws, .authorities, .envelopes, .grants] s (s.provisionEnvelopes p).1 := by
  have h := ((s.provisionCredentials_unchanged p).append
    (State.deleteEnvelopes_unchanged ((s.provisionCredentials p).envelopesWhere fun _ => true) _)).append
    (State.draw_unchanged _)
  unfold State.provisionEnvelopes
  simp only
  split
  · exact ((h.append (placeEnvelope_unchanged _ (_, []))).append (placeEnvelope_unchanged _ _)).mono
  · exact (h.append (placeEnvelope_unchanged _ (_, []))).mono

theorem State.provisionEnvelopes_keepsAll (p : ProvisionJob) (s : State) : s.KeepsAll (s.provisionEnvelopes p).1 := by
  have h := ((s.provisionCredentials_keepsAll p).trans
    (State.deleteEnvelopes_keepsAll ((s.provisionCredentials p).envelopesWhere fun _ => true) _)).trans
    (State.draw_keepsAll _)
  unfold State.provisionEnvelopes
  simp only
  split
  · exact (h.trans (placeEnvelope_keepsAll _ (_, []))).trans (placeEnvelope_keepsAll _ _)
  · exact h.trans (placeEnvelope_keepsAll _ (_, []))

theorem State.provisionAuthorities_keepsAll {p : ProvisionJob} {s : State} (h : s.aut.engine ≠ .idle) :
    s.KeepsAll (s.provisionAuthorities p) := by
  obtain ⟨domain, ws, rs, e⟩ := s.provisionAuthorities_eq p
  rw [e]
  exact ((s.provisionEnvelopes_keepsAll p).trans
    (State.finishing_keepsAll ((s.provisionEnvelopes_unchanged p).engine_busy h))).trans (State.markAll_keepsAll _ _)

/-- G and the lifecycle at PROVISION's second stage, or at the end of a wipe. -/
theorem State.resetCounters_keepsAll {f : Aut → Aut} {s : State} (ha : (f s.aut).auth = s.aut.auth := by rfl)
    (ht : (f s.aut).tryCount = 0 := by rfl) (he : (f s.aut).engine = s.aut.engine := by rfl) : s.KeepsAll (s.onAut f) :=
  State.onAuth_keepsAll (fun _ => by rw [ha]) (fun _ h => by rw [ha]; exact h) (fun _ => by omega) he

theorem State.provisionLifecycle_keepsAll {domain : Key} {s : State} (h : s.aut.engine ≠ .idle) :
    s.KeepsAll (s.provisionLifecycle domain) := by
  have first : s.KeepsAll (s.onAut fun a => { a with lifecycle := .provisioned, tryCount := 0, lastSignIn := s.pscNow }) :=
    State.resetCounters_keepsAll
  exact (first.trans (State.finishing_keepsAll h)).trans (State.mark_keepsAll _ _)

/-- The range keys of PROVISION's third stage, with what they open (R75). -/
def State.provisionOpenings (domain : Key) (s : State) : State :=
  ((s.definedRanges.foldl (fun s r => s.freshKey domain r) (s.onThm fun t => { t with armed := true })).bump).openPlain
    LockState.isLocked s.definedRanges

theorem State.provisionOpenings_unchanged (domain : Key) (s : State) :
    Unchanged ([.armed, .draws] ++ Part.openings) s (s.provisionOpenings domain) := by
  have h : Unchanged [.armed] s (s.onThm fun t => { t with armed := true }) := by
    intro p hp; cases p <;> simp_all [Part.same]
  exact (((h.append (Unchanged.foldl _ (fun s r => s.freshKey_unchanged domain r) _ _)).append
    (State.bump_unchanged _)).append (State.openPlain_unchanged _ _ _)).mono

theorem State.provisionOpenings_keepsAll (domain : Key) (s : State) : s.KeepsAll (s.provisionOpenings domain) := by
  unfold State.provisionOpenings
  refine State.KeepsAll.trans (State.KeepsAll.trans ?_ (State.bump_keepsAll _)) (State.openPlain_keepsAll rfl _ _)
  exact State.KeepsAll.trans State.onThm_keepsAll (State.freshKeys_keepsAll _ _ _)

theorem State.provisionKeys_keepsAll {domain : Key} {s : State} (h : s.aut.engine ≠ .idle) :
    s.KeepsAll (s.provisionKeys domain) :=
  ((s.provisionOpenings_keepsAll domain).trans
    (State.finishing_keepsAll ((s.provisionOpenings_unchanged domain).engine_busy h))).trans (State.markAll_keepsAll _ _)

theorem State.provisioned_keepsAll (s : State) : s.KeepsAll s.provisioned :=
  s.idleEngine_keepsAll.trans (State.answerJob_keepsAll _ _)

theorem State.nextStage_keepsAll {stage : Stage} {domain : Key} {s : State} (h : s.aut.engine ≠ .idle) :
    s.KeepsAll (s.nextStage stage domain) := by
  cases stage
  · exact State.provisionLifecycle_keepsAll h
  · exact State.provisionKeys_keepsAll h
  · exact s.provisioned_keepsAll

/-! ## The wipe (R121 to R125) -/

/-- An image of every entry that leaves its geometry and its lock. -/
theorem State.mapRanges_keepsAll {f : Rmg → Rmg} {g : RangeIx → RangeEntry → RangeEntry} {s : State}
    (hr : (f s.rmg).ranges = s.rmg.ranges.imap g)
    (hg : ∀ r e, (g r e).geometry = e.geometry ∧ (g r e).lock = e.lock)
    (hk : (f s.rmg).rangeKeys = s.rmg.rangeKeys := by rfl) (hd : (f s.rmg).domainKey = s.rmg.domainKey := by rfl)
    (hu : (f s.rmg).keks = s.rmg.keks := by rfl) (hm : (f s.rmg).mapGen = s.rmg.mapGen := by rfl) :
    s.KeepsAll (s.onRmg f) :=
  State.onRmg_keepsAll (fun q => by rw [State.onRmg_rmg, hr, Table.get_imap]; exact hg q _) hk hd hu hm

theorem State.wipeGroup_keepsAll (n : Fin 25) (s : State) : s.KeepsAll (s.wipeGroup n) := by
  unfold State.wipeGroup
  split
  · exact State.mapRanges_keepsAll rfl fun _ _ => ⟨rfl, rfl⟩
  · split
    · exact State.onAuth_keepsAll (fun a => by simp [Authority.wiped]) fun a _ => by simp [Authority.wiped]
    · split
      · exact State.onAut_keepsAll
      · exact .refl _

theorem State.startRewrite_keepsAll (n : Fin 25) (s : State) : s.KeepsAll (s.startRewrite n) :=
  ((s.wipeGroup_keepsAll n).trans (State.onWpc_keepsAll _ _)).trans (State.askStore_keepsAll _ _)

theorem State.wipeOn_keepsAll (s : State) : s.KeepsAll s.wipeOn := by
  unfold State.wipeOn
  split
  · exact (s.onWpc_keepsAll _).trans (State.askStore_keepsAll _ _)
  all_goals exact s.startRewrite_keepsAll 0

theorem State.wipeReport_keepsAll (last : WipeLast) (s : State) : s.KeepsAll (s.wipeReport last) :=
  (s.onWpc_keepsAll _).trans (State.wipeNotice_keepsAll _)

theorem State.wipeRecorded_keepsAll (s : State) : s.KeepsAll s.wipeRecorded := by
  unfold State.wipeRecorded
  refine State.KeepsAll.trans (State.KeepsAll.trans ?_ (State.wipeOn_keepsAll _)) (State.wipeReport_keepsAll _ _)
  exact State.onSto_keepsAll

theorem State.wipeComplete_keepsAll (s : State) : s.KeepsAll s.wipeComplete := by
  unfold State.wipeComplete
  refine State.KeepsAll.trans (State.KeepsAll.trans ?_ (State.threatNotice_keepsAll _ _ _ _)) (State.wipeReport_keepsAll _ _)
  refine State.KeepsAll.trans (State.KeepsAll.trans ?_ (State.onWpc_keepsAll _ _)) (State.bump_keepsAll _)
  exact State.KeepsAll.trans (s.setLevel_keepsAll _ _) State.resetCounters_keepsAll

theorem State.wipeCounted_keepsAll (s : State) : s.KeepsAll s.wipeCounted := by
  have h := s.onWpc_keepsAll fun w => { w with waits := servedWait .counters w.waits }
  unfold State.wipeCounted
  simp only
  split
  · exact h.trans (State.wipeRecorded_keepsAll _)
  · exact (h.trans (State.wipeOn_keepsAll _)).trans (State.wipeReport_keepsAll _ _)
  · exact h.trans (State.wipeComplete_keepsAll _)
  · exact h
  · exact h

theorem State.bankImage_keepsAll (b : Bank) (s : State) : s.KeepsAll (s.bankImage b) := by
  unfold State.bankImage
  split
  · exact State.mapRanges_keepsAll rfl fun _ _ => ⟨rfl, rfl⟩
  all_goals exact State.onRmg_keepsAll fun _ => ⟨rfl, rfl⟩

theorem State.wipeErased_keepsAll (b : Bank) (s : State) : s.KeepsAll (s.wipeErased b) :=
  (((s.bankImage_keepsAll b).trans (State.onWpc_keepsAll _ _)).trans (State.wipeReport_keepsAll _ _)).trans
    (State.mark_keepsAll _ _)

theorem State.wipeWrote_keepsAll (n : Fin 25) (s : State) : s.KeepsAll (s.wipeWrote n) := by
  have first : s.KeepsAll (if h : n.val + 1 < 25 then s.startRewrite ⟨n.val + 1, h⟩
      else (s.onWpc fun w => { w with step := .closing, waits := waitsFor [.counters] }).mark .counters) := by
    split
    · exact s.startRewrite_keepsAll _
    · exact (s.onWpc_keepsAll _).trans (State.mark_keepsAll _ _)
  unfold State.wipeWrote
  simp only
  split
  · exact first.trans (State.wipeReport_keepsAll _ _)
  · exact first

theorem State.wipeTurn_keepsAll (forWipe : Bool) (s : State) : s.KeepsAll (s.wipeTurn forWipe) := by
  unfold State.wipeTurn
  split
  · split
    · exact s.wipeWrote_keepsAll _
    all_goals exact .refl _
  · exact s.wipeCounted_keepsAll

/-! ## The report of a write (R9, R22, R75, R79, R137, R154) -/

theorem workWritten_onlyDrops (r : RecordId) (good : Bool) : Work.onlyDrops (workWritten r good) := by
  intro w v q h hv
  unfold workWritten writesState at h
  cases w with
  | lock p => cases h; exact hv
  | engine => cases h; exact hv
  | writes ws lock done fault =>
    simp only at h
    split at h
    · split at h
      · split at h <;> cases h
        exact hv
      · cases h
    · cases h; exact hv

theorem State.reportGrants_keepsAll (r : RecordId) (good : Bool) (s : State) : s.KeepsAll (s.reportGrants r good) := by
  unfold State.reportGrants
  refine State.KeepsAll.trans (t := if good then s else s.deleteEnvelopes (s.grantFailed r)) ?_
    (State.onRmg_keepsAll fun _ => ⟨rfl, rfl⟩)
  split
  · exact .refl _
  · exact s.deleteEnvelopes_keepsAll _

/-- A job goes on charging, derives, or goes on finishing: the job is the engine's own. -/
theorem State.sameJob_keepsAll {e : Engine} {s : State} (h : s.aut.engine ≠ .idle)
    (he : e.job = s.aut.engine.job ∨ e.job = none) : s.KeepsAll (s.onAut fun a => { a with engine := e }) := by
  refine State.setEngine_keepsAll fun k => ⟨fun hw => absurd (k.1 hw) h, fun ha a credential hj => ?_⟩
  rcases he with he | he
  · exact k.2 ha a credential (he ▸ hj)
  · rw [he] at hj; cases hj

theorem State.reportEngine_keepsAll (r : RecordId) (good : Bool) (s : State) : s.KeepsAll (s.reportEngine r good) := by
  unfold State.reportEngine
  split
  · next j ws he =>
    have busy : s.aut.engine ≠ .idle := by rw [he]; exact fun k => by cases k
    split
    · split
      · refine State.sameJob_keepsAll busy (.inl ?_)
        rw [he]
        split <;> rfl
      · exact s.abortJob_keepsAll _
    · exact .refl _
  · next stage domain ws he =>
    have busy : s.aut.engine ≠ .idle := by rw [he]; exact fun k => by cases k
    split
    · split
      · simp only
        split
        · exact State.nextStage_keepsAll busy
        · exact State.sameJob_keepsAll busy (.inr rfl)
      · exact s.idleEngine_keepsAll.trans (State.answerJob_keepsAll _ _)
    · exact .refl _
  all_goals exact .refl _

theorem State.reportStart_keepsAll (r : RecordId) (s : State) : s.KeepsAll (s.reportStart r) := by
  unfold State.reportStart
  split
  · exact s.finishStart_keepsAll
  · exact .refl _

theorem State.reportWrite_keepsAll (r : RecordId) (good : Bool) (s : State) : s.KeepsAll (s.reportWrite r good) :=
  (((s.onWork_keepsAll (workWritten_onlyDrops r good)).trans (State.reportGrants_keepsAll _ _ _)).trans
    (State.reportEngine_keepsAll _ _ _)).trans (State.reportStart_keepsAll _ _)

theorem State.operationOver_keepsAll (s : State) : s.KeepsAll s.operationOver := State.onSto_keepsAll

theorem State.turns_keepsAll {turn : State → State} (h : ∀ s : State, s.KeepsAll (turn s)) (due wpcFirst : Bool) (s : State) :
    s.KeepsAll (s.turns due wpcFirst turn) := by
  unfold State.turns
  split
  · split
    · exact ((h s).trans (State.operationOver_keepsAll _)).trans (State.beginOp_keepsAll _)
    · exact (s.operationOver_keepsAll.trans (State.beginOp_keepsAll _)).trans (h _)
  · exact s.operationOver_keepsAll.trans (State.beginOp_keepsAll _)

theorem State.storeWritten_keepsAll (c : RecContent) (good : Bool) (s : State) : s.KeepsAll (s.storeWritten c good) := by
  unfold State.storeWritten
  split
  · exact State.onSto_keepsAll
  · refine State.KeepsAll.trans (State.KeepsAll.trans ?_ (State.addFaulty_keepsAll _ _)) (State.notify_keepsAll _ _)
    exact State.onSto_keepsAll

theorem State.wipeFailed_keepsAll (rs : List RecordId) (s : State) : s.KeepsAll (s.wipeFailed rs) := s.onWpc_keepsAll _

theorem State.writeDone_keepsAll (c : RecContent) (forWipe good wpcFirst : Bool) (s : State) :
    s.KeepsAll (s.writeDone c forWipe good wpcFirst) := by
  have h := (s.storeWritten_keepsAll c good).trans (State.reportWrite_keepsAll c.id good _)
  unfold State.writeDone
  simp only
  refine State.KeepsAll.trans ?_ (State.turns_keepsAll (State.wipeTurn_keepsAll forWipe) _ _ _)
  split
  · exact h.trans (State.wipeFailed_keepsAll _ _)
  · exact h

theorem State.eraseDone_keepsAll (b : Bank) (good wpcFirst : Bool) (s : State) :
    s.KeepsAll (s.eraseDone b good wpcFirst) := by
  have erased : s.KeepsAll (s.onSto fun t => { t with records := t.records.eraseBank b good }) := State.onSto_keepsAll
  unfold State.eraseDone
  simp only
  refine State.KeepsAll.trans ?_ (State.turns_keepsAll (State.wipeErased_keepsAll b) _ _ _)
  split
  · exact erased
  · exact ((erased.trans (.foldl _ (fun s r => s.addFaulty_keepsAll r) _ _)).trans (State.notify_keepsAll _ _)).trans
      (State.wipeFailed_keepsAll _ _)

end Sys2Proof.Machine
end

section
/-! PROOFS. Every command keeps the invariants. -/

namespace Sys2Proof.Machine

/-! ## Outcomes -/

theorem State.occur_keepsAll {f : State → State} {s t : State} (hf : s.KeepsAll (f s)) (h : s.occur f = .next t) :
    s.KeepsAll t := by
  unfold State.occur at h
  split at h <;> cases h
  · exact hf.trans (State.settle_keepsAll _)
  · exact .refl _

/-- An occurrence after a line has moved. -/
theorem State.occur_pins_keepsAll {f : State → State} {s t : State} {g : Pins → Pins}
    (hf : (s.onPins g).KeepsAll (f (s.onPins g))) (h : (s.onPins g).occur f = .next t) : s.KeepsAll t :=
  (s.onPins_keepsAll g).trans (State.occur_keepsAll hf h)

/-- A request passes its checks when each of them passes. -/
theorem judge_none {l : List (Bool × ResultCode)} : judge l = none ↔ ∀ p ∈ l, p.1 = true := by
  induction l with
  | nil => simp [judge]
  | cons p l ih =>
    obtain ⟨passes, code⟩ := p
    cases passes <;> simp [judge, ih]

theorem State.take_keepsAll {c : Instr} {need : Nat} {s t : State} (h : s.take c need = some t) :
    s.KeepsAll t ∧ t.pwc.power = .active ∧ t.thm = s.thm := by
  unfold State.take at h
  split at h
  · next hl =>
    have hp : s.pwc.power = .active := by simpa [State.linkOpen] using hl
    split at h
    · split at h <;> cases h
      refine ⟨?_, hp, rfl⟩
      exact State.onLnk_keepsAll (s := s)
    · split at h <;> cases h
      refine ⟨?_, hp, rfl⟩
      exact State.onLnk_keepsAll (s := s)
  · cases h

theorem State.arrive_deferred (c : Instr) (s : State) : (s.arrive c).lnk.deferred = s.lnk.deferred := by
  unfold State.arrive
  split
  · split
    · rfl
    · split <;> rfl
  · rfl

theorem State.arrive_keepsAll (c : Instr) (s : State) : s.KeepsAll (s.arrive c) :=
  (s.arrive_unchanged c).keepsAll_of_deferred (s.arrive_deferred c)

/-- A request keeps the invariants where its effect does, once taken below WIPING in ACTIVE with its checks passed. -/
theorem State.requestOf_keepsAll {need : Nat} {c : Instr} {kind : Byte} {hd : Header}
    {checks : State → List (Bool × ResultCode)} {act : State → State} {s t : State}
    (hact : ∀ u : State, u.pwc.power = .active → u.thm.level ≠ .wiping → (∀ p ∈ checks u, p.1 = true) → u.KeepsAll (act u))
    (h : s.requestOf need c kind hd checks act = .next t) : s.KeepsAll t := by
  refine State.occur_keepsAll ?_ h
  split
  · next u hu =>
    obtain ⟨taken, active, -⟩ := State.take_keepsAll hu
    refine taken.trans ?_
    split
    · exact u.answer_keepsAll _ _ _
    · next hw =>
      split
      · exact u.answer_keepsAll _ _ _
      · next hj => exact hact u active hw (judge_none.mp hj)
  · exact s.arrive_keepsAll c

theorem State.requestAlways_keepsAll {c : Instr} {kind : Byte} {hd : Header}
    {checks : State → List (Bool × ResultCode)} {act : State → State} {s t : State}
    (hact : ∀ u : State, u.KeepsAll (act u)) (h : s.requestAlways c kind hd checks act = .next t) : s.KeepsAll t := by
  refine State.occur_keepsAll ?_ h
  split
  · next u hu =>
    refine (State.take_keepsAll hu).1.trans ?_
    split
    · exact u.answer_keepsAll _ _ _
    · exact hact u
  · exact s.arrive_keepsAll c

theorem State.takeFallen_keepsAll {p : Purpose} {s t : State} {n : Nat} (h : s.takeFallen p = some (t, n)) :
    s.KeepsAll t := by
  unfold State.takeFallen at h
  split at h <;> cases h
  exact State.onTmb_keepsAll

/-! ## Authorities and pairing -/

/-- A job taken where the level lets the engine hold it. -/
theorem State.takeEngine_keepsAll {kind : Byte} {h : Header} {e : Engine} {s : State} (hw : s.thm.level ≠ .wiping)
    (he : s.thm.level = .alarm → ∀ a credential, e.job = some (.authenticate a credential) → isAdmin a = true) :
    s.KeepsAll (s.takeEngine kind h e) := by
  unfold State.takeEngine
  split
  · refine State.KeepsAll.trans (State.defer_keepsAll fun r hr => by cases hr) (State.setEngine_keepsAll fun _ => ⟨?_, he⟩)
    exact fun k => absurd k hw
  · exact s.noAnswer_keepsAll

theorem execProvision_keepsAll {hd : Header} {admin : List Byte} {rescue : Option (List Byte)} {a b : List Nat} {s t : State}
    (h : execProvision hd admin rescue a b s = .next t) : s.KeepsAll t :=
  State.requestOf_keepsAll (fun _ _ hw _ => State.takeEngine_keepsAll hw fun _ _ _ hj => by cases hj) h

/-- f counts an attempt, up to 255 (R79). -/
theorem State.countFailure_keepsAll (a : AuthIx) (s : State) :
    s.KeepsAll (s.onAuthority a fun k => { k with failures := min (k.failures + 1) 255 }) :=
  State.onAuthority_keepsAll fun _ _ => Nat.min_le_right _ _

/-- G counts an attempt, up to 65,535 (R79). -/
theorem State.countTry_keepsAll (s : State) :
    s.KeepsAll (s.onAut fun t => { t with tryCount := min (t.tryCount + 1) 65535 }) :=
  State.onAuth_keepsAll (fun _ => rfl) (fun _ => id) fun _ => Nat.min_le_right _ _

/-- The refund of f (R80). -/
theorem State.refund_keepsAll (a : AuthIx) (s : State) :
    s.KeepsAll (s.onAuthority a fun k => { k with failures := 0 }) :=
  State.onAuthority_keepsAll fun _ _ => Nat.zero_le _

/-- The refund of G, with the engine IDLE (R80). -/
theorem State.refundTries_keepsAll (s : State) (now : Nat) :
    s.KeepsAll (s.onAut fun t => { t with tryCount := 0, lastSignIn := now, engine := .idle }) :=
  ⟨(State.resetCounters_keepsAll (f := fun t => { t with tryCount := 0, lastSignIn := now })).toKeepsLocks.trans
    (State.idleEngine_keepsAll _).toKeepsLocks, fun _ => .of_idle rfl⟩

theorem State.charge_keepsAll {hd : Header} {a : AuthIx} {credential : List Byte} {s : State} (hw : s.thm.level ≠ .wiping)
    (ha : s.thm.level = .alarm → isAdmin a = true) : s.KeepsAll (s.charge hd a credential) := by
  unfold State.charge
  refine State.KeepsAll.trans (State.KeepsAll.trans (State.KeepsAll.trans (s.countFailure_keepsAll a) (State.countTry_keepsAll _))
    (State.takeEngine_keepsAll ?_ ?_)) (State.markAll_keepsAll _ _)
  · exact hw
  · intro k b c hj
    cases hj
    exact ha k

theorem execAuthenticate_keepsAll {hd : Header} {authority : Nat} {credential : List Byte} {s t : State}
    (h : execAuthenticate hd authority credential s = .next t) : s.KeepsAll t := by
  refine State.requestOf_keepsAll (fun u _ hw hc => ?_) h
  split
  · next a ha =>
    have admin : u.thm.level = .alarm → isAdmin a = true := by
      simp only [ha, State.signInChecks] at hc
      have := hc (u.thm.level != .alarm || isAdmin a, .denied) (by simp)
      intro k
      simpa [k] using this
    unfold State.attempt
    split
    · exact u.answer_keepsAll _ _ _
    · split
      · exact State.charge_keepsAll hw admin
      · exact u.answer_keepsAll _ _ _
  · exact u.noAnswer_keepsAll

theorem execSignOut_keepsAll {hd : Header} {authority : Nat} {s t : State} (h : execSignOut hd authority s = .next t) :
    s.KeepsAll t := by
  refine State.requestOf_keepsAll (fun u _ _ _ => State.KeepsAll.trans ?_ (State.answerOk_keepsAll _ _ _ _)) h
  split
  · split
    · exact u.leaveSet_keepsAll _
    · exact .refl _
  · exact .refl _

theorem execSetCredential_keepsAll {hd : Header} {acting user : Nat} {credential : List Byte} {grants startup : List Nat}
    {s t : State} (h : execSetCredential hd acting user credential grants startup s = .next t) : s.KeepsAll t := by
  refine State.requestOf_keepsAll (fun u _ hw _ => ?_) h
  split
  · exact u.draw_keepsAll.trans (State.takeEngine_keepsAll hw fun _ _ _ hj => by cases hj)
  · exact u.noAnswer_keepsAll

theorem State.abortJobOf_keepsAll (a : AuthIx) (s : State) : s.KeepsAll (s.abortJobOf a) := by
  unfold State.abortJobOf
  split
  · split
    · exact s.abortJob_keepsAll _
    · exact .refl _
  · split
    · exact s.abortJob_keepsAll _
    · exact .refl _
  all_goals exact .refl _

/-- An authority leaves the signed-in set, if it is in it. -/
theorem State.leaveSet_if_keepsAll (a : AuthIx) (s : State) :
    s.KeepsAll (if (s.aut.auth.get a).signedIn then s.leaveSet a else s) := by
  split
  · exact s.leaveSet_keepsAll a
  · exact .refl _

theorem State.disable_keepsAll (hd : Header) (a : AuthIx) (s : State) : s.KeepsAll (s.disable hd a) := by
  unfold State.disable
  split
  · exact s.answerOk_keepsAll _ _ _
  · split
    · exact s.answer_keepsAll _ _ _
    · simp only
      refine State.KeepsAll.trans (State.KeepsAll.trans ?_ (State.deferWrites_none_keepsAll _ _ _ _ _ _ _ _))
        (State.mark_keepsAll _ _)
      refine State.KeepsAll.trans ?_ (State.leaveSet_if_keepsAll _ _)
      exact State.KeepsAll.trans (s.abortJobOf_keepsAll a) (State.onAuthority_keepsAll fun _ h => h)

theorem execDisableAuthority_keepsAll {hd : Header} {acting target : Nat} {s t : State}
    (h : execDisableAuthority hd acting target s = .next t) : s.KeepsAll t := by
  refine State.requestOf_keepsAll (fun u _ _ _ => ?_) h
  split
  · exact u.disable_keepsAll _ _
  · exact u.noAnswer_keepsAll

theorem execPairChallenge_keepsAll {hd : Header} {s t : State} (h : execPairChallenge hd s = .next t) : s.KeepsAll t := by
  refine State.requestOf_keepsAll (fun u _ _ _ => ?_) h
  exact State.KeepsAll.trans (State.KeepsAll.trans u.draw_keepsAll State.onAut_keepsAll) (State.answerOk_keepsAll _ _ _ _)

theorem execPairProve_keepsAll {hd : Header} {proof : List Byte} {s t : State} (h : execPairProve hd proof s = .next t) :
    s.KeepsAll t := by
  refine State.requestOf_keepsAll (fun u _ _ _ => ?_) h
  simp only
  split
  · refine State.KeepsAll.trans (State.KeepsAll.trans ?_ (State.cancel_keepsAll _ _)) (State.answerOk_keepsAll _ _ _ _)
    exact State.KeepsAll.trans u.dropNonce_keepsAll State.onAut_keepsAll
  · exact (u.dropNonce_keepsAll.trans (State.answer_keepsAll _ _ _ _)).trans (State.raiseTrigger_keepsAll _ _)

theorem execSetPairing_keepsAll {hd : Header} {acting : Nat} {secret token : Option (List Byte)} {s t : State}
    (h : execSetPairing hd acting secret token s = .next t) : s.KeepsAll t := by
  refine State.requestOf_keepsAll (fun u _ _ _ => ?_) h
  refine State.KeepsAll.trans (State.KeepsAll.trans (State.KeepsAll.trans ?_ (State.withdraw_keepsAll _ _))
    (State.deferWrites_none_keepsAll _ _ _ _ _ _ _ _)) (State.mark_keepsAll _ _)
  exact State.onAut_keepsAll

/-! ## DERIVATION_COMPLETE (R80 to R83, R87) -/

theorem openStartup_keepsAll (wrapOf : RangeIx → Option Wrapped) (under : Key) (o : Opening) (r : RangeIx) :
    o.state.KeepsAll (openStartup wrapOf under o r).state := by
  unfold openStartup
  split
  · next h =>
    have ⟨defined, lock⟩ : o.state.defined r = true ∧ (o.state.rmg.ranges.get r).lock ≠ .locking := by
      simp only [State.startsUp, Bool.and_eq_true, Bool.or_eq_true, beq_iff_eq] at h
      obtain ⟨⟨⟨defined, -⟩, -⟩, lock⟩ := h
      refine ⟨defined, fun k => ?_⟩
      rw [k] at lock
      rcases lock with lock | lock <;> cases lock
    split
    · exact State.openWith_keepsAll (by decide) defined lock
    · exact .refl _
  · exact .refl _

theorem openStartups_keepsAll {wrapOf : RangeIx → Option Wrapped} {under : Key} {rs : List RangeIx} {o : Opening} {s : State}
    (h : s.KeepsAll o.state) : s.KeepsAll (rs.foldl (openStartup wrapOf under) o).state := by
  induction rs generalizing o with
  | nil => exact h
  | cons r rs ih => exact ih (h.trans (openStartup_keepsAll wrapOf under o r))

theorem State.joinSet_keepsAll (a : AuthIx) (s : State) : s.KeepsAll (s.joinSet a) := by
  unfold State.joinSet
  refine State.KeepsAll.trans (State.KeepsAll.trans ?_ (State.signedIn_keepsAll a _)) State.onThm_keepsAll
  exact ((s.refund_keepsAll a).trans (State.refundTries_keepsAll _ _)).trans (State.withdraw_keepsAll _ _)

theorem State.joinSet_signedIn (a : AuthIx) (s : State) : ((s.joinSet a).aut.auth.get a).signedIn = true := by
  simp only [State.joinSet, State.onThm_aut]
  rw [State.setSignedIn_auth, if_pos rfl]

/-- The domain key enters the cache while an admin is signed in. -/
theorem State.cacheDomain_keepsAll {k : Key} {s : State} (h : s.adminSignedIn = true) :
    s.KeepsAll (s.onRmg fun m => { m with domainKey := some k }) :=
  ⟨⟨⟨id, id, id, id, id, fun hk => ⟨fun _ => h, hk.2⟩, id⟩, fun _ => id⟩, id⟩

/-- A KEK enters the cache for a USER that is signed in. -/
theorem State.cacheKek_keepsAll {a : AuthIx} {k : Key} {s : State} (hu : isUser a = true)
    (hs : (s.aut.auth.get a).signedIn = true) :
    s.KeepsAll (s.onRmg fun m => { m with keks := m.keks.set a (some k) }) := by
  refine ⟨⟨⟨id, id, id, id, id, fun hk => ⟨hk.1, fun b hb => ?_⟩, id⟩, fun _ => id⟩, id⟩
  simp only [State.onRmg_rmg, Table.get_set] at hb
  split at hb
  · next e => subst e; exact ⟨hu, hs⟩
  · exact hk.2 b hb

theorem State.returnToCalm_keepsAll (a : AuthIx) (s : State) : s.KeepsAll (s.returnToCalm a).state := by
  unfold State.returnToCalm
  split
  · dsimp only
    exact (s.clearGrace_keepsAll.trans (State.setLevel_keepsAll (l := .calm) .signIn (some a) _)).trans
      (openPlainFold_keepsAll (from_ := LockState.isLocked) rfl (List.finRange 16) (s.clearGrace.setLevel .calm .signIn (some a), []))
  · exact .refl _

theorem State.openForAdmin_keepsAll {a : AuthIx} {kek : Key} {s : State} (h : s.adminSignedIn = true) :
    s.KeepsAll (s.openForAdmin a kek).state := by
  unfold State.openForAdmin
  simp only
  split
  · exact openStartups_keepsAll ((State.cacheDomain_keepsAll h).trans (State.returnToCalm_keepsAll a _))
  · exact s.returnToCalm_keepsAll a

theorem State.openForUser_keepsAll {a : AuthIx} {kek : Key} {s : State} (hu : isUser a = true)
    (hs : (s.aut.auth.get a).signedIn = true) : s.KeepsAll (s.openForUser a kek).state := by
  unfold State.openForUser
  exact openStartups_keepsAll (State.cacheKek_keepsAll hu hs)

theorem State.adminSignedIn_of {a : AuthIx} {s : State} (ha : isAdmin a = true) (hs : (s.aut.auth.get a).signedIn = true) :
    s.adminSignedIn = true := by
  simp only [isAdmin, Bool.or_eq_true, decide_eq_true_eq] at ha
  rcases ha with rfl | rfl
  · simp [State.adminSignedIn, hs]
  · simp [State.adminSignedIn, hs]

theorem State.signIn_keepsAll (a : AuthIx) (kek : Key) (s : State) : s.KeepsAll (s.signIn a kek) := by
  have opened : (s.joinSet a).KeepsAll
      (if isAdmin a then (s.joinSet a).openForAdmin a kek else (s.joinSet a).openForUser a kek).state := by
    split
    · next h => exact State.openForAdmin_keepsAll (State.adminSignedIn_of h (s.joinSet_signedIn a))
    · next h => exact State.openForUser_keepsAll (isUser_of_not_isAdmin (by simpa using h)) (s.joinSet_signedIn a)
  unfold State.signIn
  simp only
  generalize (if isAdmin a then (s.joinSet a).openForAdmin a kek else (s.joinSet a).openForUser a kek) = o at opened ⊢
  have loaded := ((s.joinSet_keepsAll a).trans opened).trans (State.eagerLoads_keepsAll o.opened _)
  have bumped (b : Bool) : s.KeepsAll (if b then (o.state.eagerLoads o.opened).bump else o.state.eagerLoads o.opened) := by
    split
    · exact loaded.trans (State.bump_keepsAll _)
    · exact loaded
  refine State.KeepsAll.trans (State.KeepsAll.trans ?_ (State.answerJob_keepsAll _ _)) (State.markAll_keepsAll _ _)
  split
  · exact (bumped _).trans (State.threatNotice_keepsAll _ _ _ _)
  · exact bumped _

theorem State.attemptFailed_keepsAll (a : AuthIx) (s : State) : s.KeepsAll (s.attemptFailed a) := by
  have h := ((s.idleEngine_keepsAll.trans (State.setBackoff_keepsAll a _)).trans
    (State.disableAtLimit_keepsAll a _))
  unfold State.attemptFailed
  simp only
  split
  · exact (h.trans (State.answerJob_keepsAll _ _)).trans (State.raiseTrigger_keepsAll _ _)
  · exact h.trans (State.answerJob_keepsAll _ _)

theorem State.authenticated_keepsAll (a : AuthIx) (credential : List Byte) (s : State) :
    s.KeepsAll (s.authenticated a credential) := by
  unfold State.authenticated
  split
  · split
    · exact s.signIn_keepsAll _ _
    · exact s.attemptFailed_keepsAll _
  · exact s.attemptFailed_keepsAll _

theorem grantOne_keepsAll (u : AuthIx) (kek : Key) (g : Granting) (r : RangeIx) :
    g.state.KeepsAll (grantOne u kek g r).state := by
  unfold grantOne
  split
  · split
    · exact g.state.putEnvelope_keepsAll _ _
    · exact .refl _
    · exact .refl _
  · exact .refl _

theorem grants_keepsAll (u : AuthIx) (kek : Key) (rs : List RangeIx) (g : Granting) :
    g.state.KeepsAll (rs.foldl (grantOne u kek) g).state := by
  induction rs generalizing g with
  | nil => exact .refl _
  | cons r rs ih => exact (grantOne_keepsAll u kek g r).trans (ih _)

theorem State.jobWaits_keepsAll (rs : List RecordId) (done fault : Reply) (s : State) :
    s.KeepsAll (s.jobWaits rs done fault) := by
  refine s.onWork_keepsAll ?_
  intro w v q h hv
  cases w <;> cases h <;> exact hv

theorem State.credentialSet_keepsAll (u : AuthIx) (credential : List Byte) (salt factor : Nat) (grants startup : List RangeIx)
    (s : State) : s.KeepsAll (s.credentialSet u credential salt factor grants startup) := by
  unfold State.credentialSet
  simp only
  split
  · exact s.idleEngine_keepsAll.trans (State.answerJob_keepsAll _ _)
  · refine State.KeepsAll.trans (State.KeepsAll.trans ?_ (State.jobWaits_keepsAll _ _ _ _)) (State.markAll_keepsAll _ _)
    refine State.KeepsAll.trans ?_ (grants_keepsAll _ _ _ { state := _, placed := [], results := [] })
    refine State.KeepsAll.trans (State.KeepsAll.trans ?_ (State.onAuthority_keepsAll fun _ _ => Nat.zero_le _))
      (State.withdraw_keepsAll _ _)
    exact (s.idleEngine_keepsAll.trans (State.deleteEnvelopes_keepsAll _ _)).trans (State.leaveSet_if_keepsAll _ _)

theorem execDerivationComplete_keepsAll {s t : State} (h : execDerivationComplete s = .next t) : s.KeepsAll t := by
  refine State.occur_keepsAll ?_ h
  split
  · exact s.authenticated_keepsAll _ _
  · exact s.credentialSet_keepsAll _ _ _ _ _ _
  · next p he =>
    have busy : s.aut.engine ≠ .idle := by rw [he]; exact fun k => by cases k
    unfold State.provisionDerived
    split
    · exact State.setEngine_keepsAll fun k => ⟨fun hw => absurd (k.1 hw) busy, fun _ _ _ hj => by cases hj⟩
    · exact State.provisionAuthorities_keepsAll busy
  all_goals exact .refl _

theorem execBackoffExpiry_keepsAll {authority : Nat} {s t : State} (h : execBackoffExpiry authority s = .next t) :
    s.KeepsAll t := by
  refine State.occur_keepsAll ?_ h
  split
  · split
    · next hf => exact State.takeFallen_keepsAll hf
    · exact .refl _
  · exact .refl _

theorem execPairingWindowExpiry_keepsAll {s t : State} (h : execPairingWindowExpiry s = .next t) : s.KeepsAll t := by
  refine State.occur_keepsAll ?_ h
  split
  · next hf =>
    exact ((State.takeFallen_keepsAll hf).trans (State.dropNonce_keepsAll _)).trans (State.raiseTrigger_keepsAll _ _)
  · exact .refl _

end Sys2Proof.Machine
end

section
/-! PROOFS. Every command keeps the invariants: the guard, the lane, the link, power and the ranges. -/

namespace Sys2Proof.Machine

/-! ## The guard (R160 to R163) -/

theorem clampBetween_within {least greatest n : Nat} (h : least ≤ greatest) :
    least ≤ clampBetween least greatest n ∧ clampBetween least greatest n ≤ greatest := by
  unfold clampBetween
  omega

/-- A policy whose settings lie within their values (R163). -/
def Policy.Within (p : Policy) : Prop :=
  1 ≤ p.verdictLifetime ∧ p.verdictLifetime ≤ 255 ∧ 3 ≤ p.failureLimit ∧ p.failureLimit ≤ 64 ∧ p.tryLimit ≤ 65535 ∧
    16 ≤ p.workFactor ∧ p.workFactor ≤ 255 ∧ 10 ≤ p.pairWindow ∧ p.pairWindow ≤ 600 ∧
    (p.absenceLimit = 0 ∨ 3600 ≤ p.absenceLimit ∧ p.absenceLimit ≤ 31536000) ∧ p.grace ≤ 3600

theorem State.settingsSound_iff (s : State) : s.SettingsSound ↔ s.sto.policy.Within := Iff.rfl

/-- A clamped value put in its setting keeps every setting within its values (R163). -/
theorem Policy.item_within {p : Policy} (h : p.Within) (i : SettingItem) : (p.item i).Within := by
  obtain ⟨lifetime, lifetime', failure, failure', try_, factor, factor', window, window', absence, grace⟩ := h
  unfold Policy.item
  split
  · next n hn =>
    unfold clampSetting at hn
    split at hn
    case h_17 => cases hn
    case h_13 hid =>
      cases hn
      rw [hid]
      refine ⟨lifetime, lifetime', failure, failure', try_, factor, factor', window, window', ?_, grace⟩
      by_cases h0 : i.value = 0
      · exact .inl (if_pos h0)
      · refine .inr ?_
        rw [if_neg h0]
        exact clampBetween_within (by decide)
    all_goals
      cases hn
      rename_i hid
      simp only [hid, Policy.put, Policy.Within, clampBetween]
      omega
  · exact ⟨lifetime, lifetime', failure, failure', try_, factor, factor', window, window', absence, grace⟩

theorem Policy.items_within (items : List SettingItem) {p : Policy} (h : p.Within) : (items.foldl Policy.item p).Within := by
  induction items generalizing p with
  | nil => exact h
  | cons i items ih => exact ih (Policy.item_within h i)

theorem State.setPolicy_keepsAll (items : List SettingItem) (s : State) :
    s.KeepsAll (s.onSto fun t => { t with policy := items.foldl Policy.item t.policy }) :=
  ⟨⟨⟨id, id, Policy.items_within items, id, id, id, id⟩, fun _ => id⟩, id⟩

theorem State.stimulationChanged_keepsAll (old : Bool) (s : State) : s.KeepsAll (s.stimulationChanged old) := by
  unfold State.stimulationChanged
  split
  · split
    · exact s.enter_keepsAll _ _
    · exact .refl _
  · exact s.withdraw_keepsAll _
  · exact .refl _
  · exact .refl _

theorem execConfigure_keepsAll {hd : Header} {acting : Nat} {items : List SettingItem} {s t : State}
    (h : execConfigure hd acting items s = .next t) : s.KeepsAll t := by
  refine State.requestOf_keepsAll (fun u _ _ _ => ?_) h
  exact (((u.setPolicy_keepsAll items).trans (State.deferWrites_none_keepsAll _ _ _ _ _ _ _ _)).trans
    (State.stimulationChanged_keepsAll _ _)).trans (State.mark_keepsAll _ _)

theorem execFreeze_keepsAll {hd : Header} {s t : State} (h : execFreeze hd s = .next t) : s.KeepsAll t := by
  refine State.requestOf_keepsAll (fun u _ _ _ => ?_) h
  exact State.KeepsAll.trans State.onSto_keepsAll (State.answerOk_keepsAll _ _ _ _)

theorem execSetGuard_keepsAll {hd : Header} {acting : Nat} {mode : Option GuardMode} {s t : State}
    (h : execSetGuard hd acting mode s = .next t) : s.KeepsAll t := by
  refine State.requestOf_keepsAll (fun u _ _ _ => ?_) h
  split
  · unfold State.setGuard
    split
    · exact u.answerOk_keepsAll _ _ _
    · split
      · exact u.answer_keepsAll _ _ _
      · refine State.KeepsAll.trans (State.KeepsAll.trans ?_ (State.deferWrites_none_keepsAll _ _ _ _ _ _ _ _))
          (State.mark_keepsAll _ _)
        exact State.onSto_keepsAll
  · exact u.noAnswer_keepsAll

/-! ## The lane -/

theorem execReadSlots_keepsAll {hd : Header} {acting : Option Nat} {s t : State}
    (h : execReadSlots hd acting s = .next t) : s.KeepsAll t :=
  State.requestOf_keepsAll (fun u _ _ _ => u.answerOk_keepsAll _ _ _) h

theorem execLaneFrameSent_keepsAll {s t : State} (h : execLaneFrameSent s = .next t) : s.KeepsAll t := by
  refine State.occur_keepsAll ?_ h
  split
  · exact (s.enter_keepsAll _ _).trans (State.onKln_keepsAll _ _)
  all_goals exact .refl _

theorem State.answered_keepsAll (s : State) : s.KeepsAll s.answered :=
  (s.cancel_keepsAll _).trans (State.onKln_keepsAll _ _)

theorem State.dropSlotField_keepsAll (i : SlotIx) (s : State) : s.KeepsAll (s.dropSlotField i) := by
  unfold State.dropSlotField
  refine State.mapRanges_keepsAll (g := fun _ e => if e.slot = some i then { e with slot := none } else e) rfl
    fun r e => ?_
  split <;> exact ⟨rfl, rfl⟩

theorem State.emptySlotAt_keepsAll (i : SlotIx) (s : State) : s.KeepsAll (s.emptySlotAt i) := s.onSlot_keepsAll i _

theorem State.loadGood_keepsAll (i : SlotIx) (s : State) : s.KeepsAll (s.loadGood i) :=
  (s.onSlot_keepsAll i _).trans (State.onKln_keepsAll _ _)

theorem State.loadBad_keepsAll (i : SlotIx) (s : State) : s.KeepsAll (s.loadBad i) := by
  have first : s.KeepsAll (match (s.kln.slots.get i).state with
      | .clearing => ((s.emptySlotAt i).onKln fun k => { k with queue := unqueue .clear i k.queue }).clearComplete i
      | .empty | .loading | .loaded | .unknown => (s.emptySlotAt i).dropSlotField i) := by
    split
    · exact ((s.emptySlotAt_keepsAll i).trans (State.onKln_keepsAll _ _)).trans (State.clearComplete_keepsAll _ _)
    all_goals exact (s.emptySlotAt_keepsAll i).trans (State.dropSlotField_keepsAll _ _)
  have third (u : State) : u.KeepsAll (if 3 ≤ u.kln.badRun then u.laneFault i .loadBad else u) := by
    split
    · exact u.laneFault_keepsAll _ _
    · exact .refl _
  exact (first.trans (State.onKln_keepsAll _ _)).trans (third _)

theorem execLoadAck_keepsAll {good : Bool} {s t : State} (h : execLoadAck good s = .next t) : s.KeepsAll t := by
  refine State.occur_keepsAll ?_ h
  split
  · split
    · exact s.answered_keepsAll.trans (State.loadGood_keepsAll _ _)
    · exact s.answered_keepsAll.trans (State.loadBad_keepsAll _ _)
  · exact .refl _

theorem State.clearGood_keepsAll (i : SlotIx) (s : State) : s.KeepsAll (s.clearGood i) := by
  unfold State.clearGood
  split
  · exact s.onSlot_keepsAll _ _
  · exact (s.emptySlotAt_keepsAll i).trans (State.clearComplete_keepsAll _ _)

theorem execClearAck_keepsAll {good : Bool} {s t : State} (h : execClearAck good s = .next t) : s.KeepsAll t := by
  refine State.occur_keepsAll ?_ h
  split
  · split
    · exact s.answered_keepsAll.trans (State.clearGood_keepsAll _ _)
    · exact s.answered_keepsAll.trans (State.laneFault_keepsAll _ _ _)
  · exact .refl _

theorem execAckTimeout_keepsAll {s t : State} (h : execAckTimeout s = .next t) : s.KeepsAll t := by
  refine State.occur_keepsAll ?_ h
  split
  · next hf =>
    split
    · exact (State.takeFallen_keepsAll hf).trans (State.laneFault_keepsAll _ _ _)
    all_goals exact State.takeFallen_keepsAll hf
  · exact .refl _

theorem execSyncError_keepsAll {s t : State} (h : execSyncError s = .next t) : s.KeepsAll t := by
  refine State.occur_keepsAll ?_ h
  split
  · exact s.laneFault_keepsAll _ _
  · exact .refl _

theorem execPurgePulseEnd_keepsAll {s t : State} (h : execPurgePulseEnd s = .next t) : s.KeepsAll t := by
  refine State.occur_keepsAll ?_ h
  split
  · exact s.onKln_keepsAll _
  · exact .refl _

theorem State.haltAction_keepsAll (s : State) : s.KeepsAll s.haltAction := by
  unfold State.haltAction
  split
  · exact s.purge_keepsAll _ _
  · exact s.onKln_keepsAll _
  · split
    · exact .refl _
    · exact s.purge_keepsAll _ _

theorem execHaltRise_keepsAll {s t : State} (h : execHaltRise s = .next t) : s.KeepsAll t := by
  unfold execHaltRise at h
  split at h
  · cases h; exact .refl _
  · refine State.occur_pins_keepsAll ?_ h
    generalize s.onPins _ = u
    have raised : u.KeepsAll (if u.haltObserved then u.raiseTrigger .halt else u) := by
      split
      · exact u.raiseTrigger_keepsAll _
      · exact .refl _
    have acted (v : State) : v.KeepsAll (if v.linkOpen then v.haltAction else v) := by
      split
      · exact v.haltAction_keepsAll
      · exact .refl _
    exact raised.trans (acted _)

theorem execHaltFall_keepsAll {s t : State} (h : execHaltFall s = .next t) : s.KeepsAll t := by
  unfold execHaltFall at h
  split at h
  · exact State.occur_pins_keepsAll (State.onKln_keepsAll _ _) h
  · cases h; exact .refl _

/-! ## The link -/

theorem State.frameArrives_keepsAll (w : Waiting) (s : State) : s.KeepsAll (s.frameArrives w) := by
  refine State.onLnk_keepsAll (fun l => ?_) s
  split <;> rfl

theorem State.periodEnds_keepsAll (sdo : List Byte) (s : State) : s.KeepsAll (s.periodEnds sdo) := by
  unfold State.periodEnds
  refine State.KeepsAll.trans ?_ (State.onPwc_keepsAll fun h => h)
  exact State.onLnk_keepsAll (s := s)

theorem State.readEnds_keepsAll (clocked : Nat) (whole : Bool) (s : State) : s.KeepsAll (s.readEnds clocked whole) := by
  have ended := s.periodEnds_keepsAll (readBytes s.lnk.shiftedOut clocked)
  unfold State.readEnds
  simp only
  split
  · exact ended
  · split
    · exact ended.trans (State.frameArrives_keepsAll _ _)
    · split
      · refine ended.trans ?_
        exact State.onLnk_keepsAll (s := s.periodEnds (readBytes s.lnk.shiftedOut clocked))
      · exact ended

theorem State.selRises_keepsAll (s : State) : s.KeepsAll s.selRises := s.onPins_keepsAll _

theorem execInboundFrame_keepsAll {bytes : List Byte} {whole : Bool} {s t : State}
    (h : execInboundFrame bytes whole s = .next t) : s.KeepsAll t := by
  refine s.selRises_keepsAll.trans (State.occur_keepsAll ?_ h)
  split
  · split
    · exact State.periodEnds_keepsAll _ _
    · split
      · exact State.readEnds_keepsAll _ _ _
      · exact (State.periodEnds_keepsAll _ _).trans (State.frameArrives_keepsAll _ _)
  · exact State.periodEnds_keepsAll _ _

theorem execReadPeriod_keepsAll {clocked : Nat} {whole : Bool} {s t : State}
    (h : execReadPeriod clocked whole s = .next t) : s.KeepsAll t := by
  refine s.selRises_keepsAll.trans (State.occur_keepsAll ?_ h)
  split
  · exact State.readEnds_keepsAll _ _ _
  · exact State.periodEnds_keepsAll _ _

/-- The waiting position is emptied. -/
theorem State.dropWaiting_keepsAll (s : State) : s.KeepsAll (s.onLnk fun l => { l with waiting := none }) :=
  State.onLnk_keepsAll (s := s)

theorem execLinkReply_keepsAll {s t : State} (h : execLinkReply s = .next t) : s.KeepsAll t := by
  refine State.occur_keepsAll ?_ h
  split
  · split
    · exact s.dropWaiting_keepsAll.trans (State.answer_keepsAll _ _ _ _)
    · exact .refl _
    · split
      · exact .refl _
      · exact s.dropWaiting_keepsAll.trans (State.answer_keepsAll _ _ _ _)
    · exact .refl _
  · exact .refl _

theorem execIdentify_keepsAll {hd : Header} {s t : State} (h : execIdentify hd s = .next t) : s.KeepsAll t :=
  State.requestAlways_keepsAll (fun u => u.answerOk_keepsAll _ _ _) h

theorem execStatus_keepsAll {hd : Header} {s t : State} (h : execStatus hd s = .next t) : s.KeepsAll t := by
  refine State.requestAlways_keepsAll (fun u => State.KeepsAll.trans ?_ (State.answerOk_keepsAll _ _ _ _)) h
  exact State.onLnk_keepsAll (s := u)

/-! ## Power -/

theorem State.cold_sound (records : Records) (pins : Pins) (model : Model) (pending : List Instr) :
    let t := State.cold records pins model pending
    t.MapGenHeld ∧ t.CountsSound ∧ t.SettingsSound ∧ t.RangesSound ∧ t.RangeKeysSound ∧ t.AuthorityKeysSound ∧
      t.EngineSound ∧ t.StageSound ∧ t.LocksAwaited := by
  refine ⟨?_, ⟨?_, ?_, ?_, ?_⟩, ?_, ⟨?_, ?_, ?_⟩, ?_, ⟨?_, ?_⟩, .of_idle rfl, ?_, ?_⟩
  · exact ⟨Nat.le_refl 1, by simp [State.cold, Rmg.bare]⟩
  · exact fun p h => by cases h
  · exact fun a => by simp [State.cold, Aut.bare, AuthorityRec.factory]
  · exact Nat.zero_le _
  · exact fun i c h => by simp [State.cold, Thm.bare] at h
  · show Policy.Within Policy.default
    simp [Policy.Within, Policy.default]
  · simp [State.cold, Rmg.bare, RangeEntry.bare]
  · exact fun r g h => by simp [State.cold, Rmg.bare, RangeEntry.bare] at h
  · exact fun q r g k _ h => by simp [State.cold, Rmg.bare, RangeEntry.bare] at h
  · exact fun r => ⟨fun _ => by simp [State.cold, Rmg.bare], fun _ => by simp [State.cold, Rmg.bare, RangeEntry.bare]⟩
  · exact fun h => by cases h
  · exact fun a h => by simp [State.cold, Rmg.bare] at h
  · exact fun h => by rcases h with h | h <;> cases h
  · exact fun i d w r h => by simp [State.cold, Lnk.cleared] at h

theorem execColdStart_keepsAll {s t : State} (h : execColdStart s = .next t) : s.KeepsAll t := by
  cases h
  obtain ⟨mapGen, counts, settings, ranges, rangeKeys, authorityKeys, engine, stage, awaited⟩ :=
    State.cold_sound s.losePower.sto.records s.pins { s.model with bumped := false } s.pending
  exact ⟨⟨⟨fun _ => mapGen, fun _ => counts, fun _ => settings, fun _ => ranges, fun _ => rangeKeys,
    fun _ => authorityKeys, fun _ => stage⟩, fun _ _ => awaited⟩, fun _ => engine⟩

theorem execPowerLoss_keepsAll {s t : State} (h : execPowerLoss s = .next t) : s.KeepsAll t := by
  unfold execPowerLoss at h
  split at h <;> cases h
  · exact s.losePower_keepsAll
  · exact .refl _

theorem execSelHeldLow_keepsAll {s t : State} (h : execSelHeldLow s = .next t) : s.KeepsAll t := by
  refine State.occur_keepsAll ?_ h
  split
  · exact s.warmStart_keepsAll _
  · exact .refl _

theorem execWarmStartProceed_keepsAll {s t : State} (h : execWarmStartProceed s = .next t) : s.KeepsAll t := by
  refine State.occur_keepsAll ?_ h
  split
  · next hs =>
    simp only [Bool.and_eq_true, decide_eq_true_eq] at hs
    exact State.proceed_keepsAll hs.1
  · exact .refl _

theorem State.wake_keepsAll {s : State} (h : s.pwc.power = .standby) : s.KeepsAll s.wake :=
  State.openLink_keepsAll false fun k => k (.inr h)

theorem execWakePulse_keepsAll {s t : State} (h : execWakePulse s = .next t) : s.KeepsAll t := by
  refine s.selRises_keepsAll.trans (State.occur_keepsAll ?_ h)
  split
  · exact State.periodEnds_keepsAll _ _
  · split
    · next hs =>
      simp only [Bool.and_eq_true, decide_eq_true_eq] at hs
      exact State.wake_keepsAll hs.1
    · exact .refl _

theorem execDpwrRise_keepsAll {s t : State} (h : execDpwrRise s = .next t) : s.KeepsAll t := by
  unfold execDpwrRise at h
  split at h
  · cases h; exact .refl _
  · refine State.occur_pins_keepsAll ?_ h
    split
    · next hs => exact State.wake_keepsAll hs
    · exact .refl _

/-- Standby entry from ACTIVE (R172). -/
theorem State.sleep_keepsAll {s : State} (h : s.pwc.power = .active) : s.KeepsAll s.standbyEntry :=
  State.standbyEntry_keepsAll fun k => k (.inl h)

theorem execDpwrFall_keepsAll {s t : State} (h : execDpwrFall s = .next t) : s.KeepsAll t := by
  unfold execDpwrFall at h
  split at h
  · refine State.occur_pins_keepsAll ?_ h
    split
    · next hs => exact State.sleep_keepsAll hs
    · exact .refl _
  · cases h; exact .refl _

theorem execStandby_keepsAll {hd : Header} {s t : State} (h : execStandby hd s = .next t) : s.KeepsAll t :=
  State.requestOf_keepsAll (fun u hp _ _ => u.noAnswer_keepsAll.trans (State.sleep_keepsAll (s := u.noAnswer) hp)) h

theorem execRestart_keepsAll {hd : Header} {check : Nat} {s t : State} (h : execRestart hd check s = .next t) :
    s.KeepsAll t :=
  State.requestOf_keepsAll (fun u _ _ _ => u.noAnswer_keepsAll.trans (State.warmStart_keepsAll _ _)) h

theorem execSelFall_keepsAll {sckHigh : Bool} {s t : State} (h : execSelFall sckHigh s = .next t) : s.KeepsAll t := by
  refine State.occur_pins_keepsAll ?_ h
  generalize s.onPins _ = u
  have timed : u.KeepsAll (u.onPwc fun p =>
      { p with selTimed := p.selTimed || p.power = .active || p.power = .standby }) := State.onPwc_keepsAll fun k => k
  simp only
  split
  · refine timed.trans ?_
    exact State.onLnk_keepsAll (s := u.onPwc _)
  · exact timed

end Sys2Proof.Machine
end

section
/-! PROOFS. The requests over the range table keep the invariants. -/

namespace Sys2Proof.Machine

/-- An index that a request names is in use. -/
theorem State.named_defined {s : State} {least n : Nat} {r : RangeIx} (h : s.named least n = some r) : s.defined r = true := by
  unfold State.named at h
  split at h
  · split at h
    · next hc => cases h; exact (Bool.and_eq_true _ _ ▸ hc).2
    · cases h
  · cases h

theorem State.named_val {s : State} {least n : Nat} {r : RangeIx} (h : s.named least n = some r) : r.val = n := by
  unfold State.named at h
  split at h
  · split at h
    · cases h; rfl
    · cases h
  · cases h

theorem State.named_least {s : State} {least n : Nat} {r : RangeIx} (h : s.named least n = some r) : least ≤ n := by
  unfold State.named at h
  split at h
  · split at h
    · next hc => exact of_decide_eq_true (Bool.and_eq_true _ _ ▸ hc).1
    · cases h
  · cases h

/-! ## Envelopes (R22, R23) -/

theorem State.grant_keepsAll (hd : Header) (u : AuthIx) (r : RangeIx) (kek : Key) (s : State) :
    s.KeepsAll (s.grant hd u r kek) := by
  unfold State.grant
  split
  · exact s.answerOk_keepsAll _ _ _
  · split
    · exact s.answer_keepsAll _ _ _
    · split
      · exact s.answer_keepsAll _ _ _
      · split
        · exact s.answer_keepsAll _ _ _
        · refine State.KeepsAll.trans (State.KeepsAll.trans ?_ (State.deferWrites_none_keepsAll _ _ _ _ _ _ _ _))
            (State.mark_keepsAll _ _)
          exact (s.putEnvelope_keepsAll _ _).trans (State.onRmg_keepsAll fun _ => ⟨rfl, rfl⟩)

theorem execGrant_keepsAll {hd : Header} {acting user range : Nat} {s t : State}
    (h : execGrant hd acting user range s = .next t) : s.KeepsAll t := by
  refine State.requestOf_keepsAll (fun u _ _ _ => ?_) h
  split
  · split
    · exact u.grant_keepsAll _ _ _ _
    · exact u.noAnswer_keepsAll
  · exact u.noAnswer_keepsAll

theorem State.revoke_keepsAll (hd : Header) (p : EnvIx) (r : RangeIx) (s : State) : s.KeepsAll (s.revoke hd p r) :=
  ((s.deleteEnvelopes_keepsAll _).trans (State.deferWrites_none_keepsAll _ _ _ _ _ _ _ _)).trans (State.mark_keepsAll _ _)

theorem execRevoke_keepsAll {hd : Header} {acting user range : Nat} {s t : State}
    (h : execRevoke hd acting user range s = .next t) : s.KeepsAll t := by
  refine State.requestOf_keepsAll (fun u _ _ _ => ?_) h
  split
  · exact u.revoke_keepsAll _ _ _
  · exact u.noAnswer_keepsAll

/-! ## DEFINE_RANGE, MODIFY_RANGE and DELETE_RANGE (R10 to R13) -/

/-- A new entry for one range that is not LOCKING afterwards unless it was: its geometry is none, or fits beside the others; and it is LOCKED
without a key in the cache, or it keeps its lock and stays defined. -/
theorem State.setEntry_keepsAll {r : RangeIx} {f : RangeEntry → RangeEntry} {s : State}
    (hg : s.RangesSound → ∀ g, (f (s.rmg.ranges.get r)).geometry = some g →
      r ≠ 0 ∧ g.below s.sto.identity.capacity = true ∧ s.clearOf g (some r) = true)
    (hk : s.RangeKeysSound → ((f (s.rmg.ranges.get r)).lock = .locked → s.rmg.rangeKeys.get r = none) ∧
      ((s.onRange r f).defined r = false → (f (s.rmg.ranges.get r)).lock = .locked))
    (hl : s.RangeKeysSound → (s.rmg.ranges.get r).lock = .locking → (f (s.rmg.ranges.get r)).lock = .locking) :
    s.KeepsAll (s.onRange r f) := by
  have get := fun q => s.onRange_get r q f
  have same {q : RangeIx} (h : r ≠ q) : (s.onRange r f).rmg.ranges.get q = s.rmg.ranges.get q := by rw [get, if_neg h]
  have own : (s.onRange r f).rmg.ranges.get r = f (s.rmg.ranges.get r) := by rw [get, if_pos rfl]
  have apart {q : RangeIx} {g k : Geometry} (h : s.RangesSound) (hq : r ≠ q)
      (own : (f (s.rmg.ranges.get r)).geometry = some g) (other : (s.rmg.ranges.get q).geometry = some k) :
      g.start + g.length ≤ k.start ∨ k.start + k.length ≤ g.start := by
    obtain ⟨-, -, clear⟩ := hg h g own
    have q0 : q ≠ 0 := by rintro rfl; rw [h.1] at other; cases other
    have := List.all_eq_true.mp clear q (List.mem_finRange q)
    simp only [other, Option.all_some, Bool.or_eq_true, decide_eq_true_eq, Option.some.injEq, q0, hq.symm, false_or,
      Bool.not_eq_true'] at this
    exact Geometry.apart_of_not_overlaps this
  refine ⟨⟨⟨id, id, id, fun h => ⟨?_, fun q g hq => ?_, fun p q g k hpq hp hq => ?_⟩, fun h q => ?_, id, id⟩,
    fun keys h i d w q h1 h2 h3 => ?_⟩, id⟩
  · by_cases h0 : r = 0
    · subst h0
      rw [own]
      by_contra hne
      obtain ⟨g, e⟩ := Option.ne_none_iff_exists'.mp hne
      exact (hg h g e).1 rfl
    · rw [same h0]; exact h.1
  · by_cases hr : r = q
    · subst hr
      rw [own] at hq
      obtain ⟨-, below, -⟩ := hg h g hq
      simp only [Geometry.below, Bool.and_eq_true, decide_eq_true_eq] at below
      exact below
    · rw [same hr] at hq
      exact h.2.1 q g hq
  · by_cases hp' : r = p
    · subst hp'
      rw [own] at hp
      rw [same hpq] at hq
      exact apart h hpq hp hq
    · by_cases hq' : r = q
      · subst hq'
        rw [own] at hq
        rw [same hp'] at hp
        exact (apart h hp' hq hp).symm
      · rw [same hp'] at hp
        rw [same hq'] at hq
        exact h.2.2 p q g k hpq hp hq
  · by_cases hr : r = q
    · subst hr
      rw [own]
      exact hk h
    · rw [State.defined, same hr]
      exact h q
  · have hq := h i d w q h1 h2 h3
    by_cases hr : r = q
    · subst hr
      rw [own]
      exact hl keys hq
    · rw [same hr]
      exact hq

theorem State.freeIndex_undefined {s : State} {r : RangeIx} (h : s.freeIndex = some r) : s.defined r = false := by
  have := List.find?_some h
  simpa using this

theorem State.defined_zero (s : State) : s.defined 0 = true := by simp [State.defined]

theorem State.ne_zero_of_undefined {s : State} {r : RangeIx} (h : s.defined r = false) : r ≠ 0 := by
  rintro rfl
  rw [s.defined_zero] at h
  cases h

/-- A geometry clear of every other range is clear of them but one. -/
theorem State.clearOf_some {s : State} {g : Geometry} (h : s.clearOf g none = true) (r : RangeIx) :
    s.clearOf g (some r) = true := by
  refine List.all_eq_true.mpr fun q hq => ?_
  have := List.all_eq_true.mp h q hq
  simp only [Bool.or_eq_true] at this ⊢
  rcases this with (k | k) | k
  · exact .inl (.inl k)
  · simp at k
  · exact .inr k

theorem State.defineRange_keepsAll {hd : Header} {r : RangeIx} {geometry : Geometry} {flags : RangeFlags} {domain : Key}
    {s : State} (hr : s.defined r = false) (hb : geometry.below s.sto.identity.capacity = true)
    (hc : s.clearOf geometry none = true) : s.KeepsAll (s.defineRange hd r geometry flags domain) := by
  have entry : s.KeepsAll (s.onRange r fun e =>
      { e with geometry := some geometry, flags := flags, lock := .locked, slot := none }) := by
    refine State.setEntry_keepsAll (fun _ g e => ?_) (fun h => ⟨fun _ => (h r).1 ((h r).2 hr), fun _ => rfl⟩) fun h k => ?_
    · cases e
      exact ⟨State.ne_zero_of_undefined hr, hb, State.clearOf_some hc r⟩
    · rw [(h r).2 hr] at k
      cases k
  unfold State.defineRange
  exact (((((entry.trans (State.freshKey_keepsAll _ _ _)).trans (State.bump_keepsAll _)).trans
    (State.openPlain_keepsAll rfl _ _)).trans (State.deferWrites_none_keepsAll _ _ _ _ _ _ _ _))).trans
    (State.markAll_keepsAll _ _)

theorem execDefineRange_keepsAll {hd : Header} {acting : Nat} {geometry : Geometry} {flags : RangeFlags} {s t : State}
    (h : execDefineRange hd acting geometry flags s = .next t) : s.KeepsAll t := by
  refine State.requestOf_keepsAll (fun u _ _ hc => ?_) h
  split
  · next r domain hr _ =>
    have fits := hc (hd.sized && geometry.below u.sto.identity.capacity && u.clearOf geometry none, .badArg) (by simp)
    simp only [Bool.and_eq_true] at fits
    exact State.defineRange_keepsAll (State.freeIndex_undefined hr) fits.1.2 fits.2
  · exact u.answer_keepsAll _ _ _
  · exact u.noAnswer_keepsAll

/-- What MODIFY_RANGE asks of its geometry and of the range's lock (R12). -/
def State.takesGeometry (s : State) (r : RangeIx) (geometry : Option Geometry) : Prop :=
  ∀ g, geometry = some g → r ≠ 0 ∧ g.below s.sto.identity.capacity = true ∧ s.clearOf g (some r) = true ∧
    (s.rmg.ranges.get r).lock = .locked

theorem State.modifyRange_keepsAll {hd : Header} {r : RangeIx} {flags : Option RangeFlags} {geometry : Option Geometry}
    {key : Option Key} {s : State} (hg : s.takesGeometry r geometry) :
    s.KeepsAll (s.modifyRange hd r flags geometry key) := by
  have entry (f : RangeEntry → RangeEntry) (hf : ∀ e, (f e).geometry = geometry.or e.geometry ∧ (f e).lock = e.lock) :
      s.KeepsAll (s.onRange r f) := by
    cases geometry with
    | none => exact State.onRange_keepsAll (fun e => (hf e).1) fun e => (hf e).2
    | some g =>
      obtain ⟨h0, below, clear, locked⟩ := hg g rfl
      refine State.setEntry_keepsAll (fun _ k e => ?_) (fun h => ⟨fun _ => (h r).1 locked, fun _ => ?_⟩) fun _ k => ?_
      · rw [(hf _).1] at e
        cases e
        exact ⟨h0, below, clear⟩
      · rw [(hf _).2, locked]
      · rw [(hf _).2, k]
  have opened (u : State) (b : Bool) : u.KeepsAll (if b then u.openPlain LockState.lockedOrReadOnly [r] else u) := by
    split
    · exact u.openPlain_keepsAll rfl _
    · exact .refl _
  unfold State.modifyRange
  refine State.KeepsAll.trans (State.KeepsAll.trans (State.KeepsAll.trans (State.KeepsAll.trans ?_ (State.bump_keepsAll _))
    (opened _ _)) (State.deferWrites_none_keepsAll _ _ _ _ _ _ _ _)) (State.markAll_keepsAll _ _)
  exact entry _ fun e => ⟨by cases geometry <;> rfl, rfl⟩

theorem State.modify_keepsAll {hd : Header} {r : RangeIx} {flags : Option RangeFlags} {geometry : Option Geometry}
    {s : State} (hg : s.takesGeometry r geometry) :
    s.KeepsAll (s.modify hd r flags geometry) := by
  unfold State.modify
  simp only
  split
  · split
    · exact State.modifyRange_keepsAll hg
    · exact s.answer_keepsAll _ _ _
  · exact State.modifyRange_keepsAll hg

/-- The checks of MODIFY_RANGE say that its geometry fits. -/
theorem State.modifyChecks_takes {hd : Header} {acting least n : Nat} {r : RangeIx} {flags : Option RangeFlags}
    {geometry : Option Geometry} {s : State} (hn : s.named least n = some r) (hl : geometry.isSome = true → 1 ≤ least)
    (h : ∀ p ∈ s.modifyChecks hd acting (some r) flags geometry, p.1 = true) : s.takesGeometry r geometry := by
  rintro g rfl
  have fits := h (hd.sized && flags.all (flagsFit (some r)) &&
    (some g).all (fun g => g.below s.sto.identity.capacity && s.clearOf g (some r)), .badArg) (by simp [State.modifyChecks])
  have locked := h ((some g).isNone || (some r).any (fun r => (s.rmg.ranges.get r).lock == .locked), .wrongState)
    (by simp [State.modifyChecks])
  simp only [Option.all_some, Bool.and_eq_true] at fits
  refine ⟨?_, fits.2.1, fits.2.2, by simpa using locked⟩
  rintro rfl
  have := (hl rfl).trans (State.named_least hn)
  rw [← State.named_val hn] at this
  exact absurd this (by decide)

theorem execModifyRange_keepsAll {hd : Header} {acting index : Nat} {flags : RangeFlags} {geometry : Option Geometry}
    {s t : State} (h : execModifyRange hd acting index flags geometry s = .next t) : s.KeepsAll t := by
  refine State.requestOf_keepsAll (fun u _ _ hc => ?_) h
  split
  · next r hr =>
    rw [hr] at hc
    refine State.modify_keepsAll (State.modifyChecks_takes hr (fun hg => ?_) hc)
    rw [if_pos hg]
  · exact u.noAnswer_keepsAll

theorem execModifyRangeGeometry_keepsAll {hd : Header} {acting index : Nat} {geometry : Geometry} {s t : State}
    (h : execModifyRangeGeometry hd acting index geometry s = .next t) : s.KeepsAll t := by
  refine State.requestOf_keepsAll (fun u _ _ hc => ?_) h
  split
  · next r hr =>
    rw [hr] at hc
    exact State.modify_keepsAll (State.modifyChecks_takes hr (fun _ => Nat.le_refl 1) hc)
  · exact u.noAnswer_keepsAll

theorem State.dropStartup_keepsAll (r : RangeIx) (s : State) : s.KeepsAll (s.onAut fun a =>
    { a with
      auth := a.auth.imap fun _ e =>
        { e with kept := { e.kept with startup := e.kept.startup.filter fun q => !(q == r) } } }) :=
  State.onAuth_keepsAll (fun _ => by simp) fun a h => by simpa using h

theorem State.deleteRange_keepsAll {hd : Header} {r : RangeIx} {s : State} (hr : (s.rmg.ranges.get r).lock = .locked) :
    s.KeepsAll (s.deleteRange hd r) := by
  have entry (u : State) (hu : (u.rmg.ranges.get r).lock = .locked) : u.KeepsAll (u.onRange r RangeEntry.deleted) := by
    refine State.setEntry_keepsAll (fun _ g e => ?_) (fun h => ⟨fun _ => (h r).1 hu, fun _ => rfl⟩) fun _ k => ?_
    · cases e
    · rw [hu] at k
      cases k
  unfold State.deleteRange
  refine State.KeepsAll.trans (State.KeepsAll.trans (State.KeepsAll.trans (State.KeepsAll.trans ?_ (entry _ ?_))
    (State.bump_keepsAll _)) (State.deferWrites_none_keepsAll _ _ _ _ _ _ _ _)) (State.markAll_keepsAll _ _)
  · exact (s.deleteEnvelopes_keepsAll _).trans (State.dropStartup_keepsAll r _)
  · exact hr

theorem execDeleteRange_keepsAll {hd : Header} {acting index : Nat} {s t : State}
    (h : execDeleteRange hd acting index s = .next t) : s.KeepsAll t := by
  refine State.requestOf_keepsAll (fun u _ _ hc => ?_) h
  split
  · next r hr =>
    have locked := hc ((u.named 1 index).any fun r => (u.rmg.ranges.get r).lock == .locked, .wrongState) (by simp)
    rw [hr] at locked
    exact State.deleteRange_keepsAll (by simpa using locked)
  · exact u.noAnswer_keepsAll

theorem execListRanges_keepsAll {hd : Header} {acting : Option Nat} {s t : State}
    (h : execListRanges hd acting s = .next t) : s.KeepsAll t := by
  refine State.requestOf_keepsAll (fun u _ _ _ => ?_) h
  exact .foldl _ (fun s r => s.answer_keepsAll _ _ _) _ _

/-! ## LOCK_RANGE and UNLOCK_RANGE (R15, R17 to R19) -/

/-- An entry of the deferred-reply table that waits on the lock of a range, and the lock begun. -/
theorem State.awaitLock_keepsAll {i : DeferIx} {kind tag : Byte} {b : Block} {range : Option RangeIx} {w : Work} {r : RangeIx}
    {s : State} (hd : s.defined r = true) (hw : w.awaits = some r) :
    s.KeepsAll ((s.defer i kind tag b range w).onRange r fun e => { e with lock := .locking }) := by
  have locking : s.KeepsAll (s.onRange r fun e => { e with lock := .locking }) :=
    State.setLock_keepsAll (by decide) hd fun _ => rfl
  have entry : (s.onRange r fun e => { e with lock := .locking }).KeepsAll
      ((s.onRange r fun e => { e with lock := .locking }).defer i kind tag b range w) := by
    refine State.defer_keepsAll fun q hq => ?_
    rw [hw] at hq
    cases hq
    rw [State.onRange_get, if_pos rfl]
  exact locking.trans entry

theorem State.lockAll_keepsAll {hd : Header} {r : RangeIx} {s : State} (hr : s.defined r = true)
    (hl : (s.rmg.ranges.get r).lock ≠ .locking) : s.KeepsAll (s.lockAll hd r) := by
  unfold State.lockAll
  split
  · exact ((State.normalLock_keepsAll hr hl).trans (State.bump_keepsAll _)).trans (State.answerOk_keepsAll _ _ _ _)
  · next hs =>
    split
    · next i _ =>
      refine State.KeepsAll.trans ?_ (State.bump_keepsAll _)
      unfold State.normalLock
      split
      · next none_ => exact absurd (Option.isNone_iff_eq_none.mpr none_) hs
      · simp only
        split
        · exact (State.awaitLock_keepsAll hr rfl).trans (State.clearRequest_keepsAll _ _)
        · exact State.awaitLock_keepsAll hr rfl
    · exact s.answer_keepsAll _ _ _

theorem State.lockRange_keepsAll {hd : Header} {r : RangeIx} {mode : LockMode} {s : State} (hr : s.defined r = true) :
    s.KeepsAll (s.lockRange hd r mode) := by
  unfold State.lockRange
  split
  · next hl =>
    refine State.KeepsAll.trans (State.KeepsAll.trans ?_ (State.bump_keepsAll _)) (State.answerOk_keepsAll _ _ _ _)
    exact State.setLock_keepsAll (by decide) hr (by rw [hl]; intro k; cases k)
  · exact s.answerOk_keepsAll _ _ _
  · next hl => exact State.lockAll_keepsAll hr (by rw [hl]; decide)
  · next hl => exact State.lockAll_keepsAll hr (by rw [hl]; decide)
  · exact s.answer_keepsAll _ _ _
  · exact s.answerOk_keepsAll _ _ _

theorem execLockRange_keepsAll {hd : Header} {acting index : Nat} {mode : Option LockMode} {s t : State}
    (h : execLockRange hd acting index mode s = .next t) : s.KeepsAll t := by
  refine State.requestOf_keepsAll (fun u _ _ _ => ?_) h
  split
  · next r m hr _ => exact State.lockRange_keepsAll (State.named_defined hr)
  · exact u.noAnswer_keepsAll

theorem State.unlockTo_keepsAll {hd : Header} {acting : Nat} {r : RangeIx} {lock : LockState} {s : State}
    (hn : lock ≠ .locked) (hr : s.defined r = true) (hl : (s.rmg.ranges.get r).lock ≠ .locking) :
    s.KeepsAll (s.unlockTo hd acting r lock) := by
  unfold State.unlockTo
  split
  · exact (((State.openWith_keepsAll hn hr hl).trans (State.eagerLoads_keepsAll _ _)).trans (State.bump_keepsAll _)).trans
      (State.answerOk_keepsAll _ _ _ _)
  · exact s.answer_keepsAll _ _ _

/-- A READ_ONLY range opens. -/
theorem State.widen_keepsAll {hd : Header} {r : RangeIx} {s : State} (hr : s.defined r = true)
    (hl : (s.rmg.ranges.get r).lock = .readOnly) :
    s.KeepsAll ((s.onRange r fun e => { e with lock := .opened }).bump.answerOk 0x25 hd (.lockState .opened)) := by
  refine State.KeepsAll.trans (State.KeepsAll.trans ?_ (State.bump_keepsAll _)) (State.answerOk_keepsAll _ _ _ _)
  exact State.setLock_keepsAll (by decide) hr (by rw [hl]; intro k; cases k)

theorem State.unlockRange_keepsAll {hd : Header} {acting : Nat} {r : RangeIx} {mode : UnlockMode} {s : State}
    (hr : s.defined r = true) : s.KeepsAll (s.unlockRange hd acting r mode) := by
  unfold State.unlockRange
  split
  · next hl => exact State.unlockTo_keepsAll (by decide) hr (by rw [hl]; decide)
  · exact s.answer_keepsAll _ _ _
  · next hl => exact State.unlockTo_keepsAll (by decide) hr (by rw [hl]; decide)
  · exact s.answerOk_keepsAll _ _ _
  · next hl => exact State.widen_keepsAll hr hl
  · next hl => exact State.widen_keepsAll hr hl
  · exact s.answerOk_keepsAll _ _ _
  · exact s.answer_keepsAll _ _ _

theorem execUnlockRange_keepsAll {hd : Header} {acting index : Nat} {mode : Option UnlockMode} {s t : State}
    (h : execUnlockRange hd acting index mode s = .next t) : s.KeepsAll t := by
  refine State.requestOf_keepsAll (fun u _ _ _ => ?_) h
  split
  · next r m hr _ => exact State.unlockRange_keepsAll (State.named_defined hr)
  · exact u.noAnswer_keepsAll

/-! ## REKEY_RANGE (R20, R21) -/

theorem State.deferWrites_ranges (kind : Byte) (h : Header) (b : Block) (range : Option RangeIx) (rs : List RecordId)
    (lock : Option RangeIx) (done fault : Reply) (s : State) :
    (s.deferWrites kind h b range rs lock done fault).rmg = s.rmg ∧
      (s.deferWrites kind h b range rs lock done fault).kln = s.kln := by
  unfold State.deferWrites
  split <;> exact ⟨rfl, rfl⟩

/-- The deferred reply of a REKEY_RANGE and the forced lock: the reply waits on the lock where a CLEAR has to end first. -/
theorem State.deferredRekey_keepsAll {kind : Byte} {h : Header} {b : Block} {r : RangeIx} {rs : List RecordId}
    {done fault : Reply} {s : State} (hr : s.defined r = true) :
    s.KeepsAll ((s.deferWrites kind h b (some r) rs (if s.pinsOf r = some 0 then some r else none) done fault).rekeyLock r) := by
  have pins (w : Option RangeIx) : (s.deferWrites kind h b (some r) rs w done fault).pinsOf r = s.pinsOf r := by
    obtain ⟨rmg, kln⟩ := s.deferWrites_ranges kind h b (some r) rs w done fault
    rw [State.pinsOf, State.pinsOf, rmg, kln]
  have defined (w : Option RangeIx) : (s.deferWrites kind h b (some r) rs w done fault).defined r = true := by
    rw [State.defined, (s.deferWrites_ranges kind h b (some r) rs w done fault).1]
    exact hr
  unfold State.rekeyLock
  rw [pins]
  split
  · next none_ =>
    rw [none_, if_neg (by decide)]
    exact (s.deferWrites_none_keepsAll _ _ _ _ _ _ _).trans (State.finishLock_keepsAll _ _)
  · next zero =>
    rw [zero, if_pos rfl]
    refine State.KeepsAll.trans ?_ (State.clearRequest_keepsAll _ _)
    unfold State.deferWrites
    split
    · exact State.awaitLock_keepsAll hr rfl
    · exact s.noAnswer_keepsAll.trans (State.setLock_keepsAll (s := s.noAnswer) (by decide) hr fun _ => rfl)
  · next n some_ =>
    rw [some_, if_neg (by simp)]
    exact ((s.deferWrites_none_keepsAll _ _ _ _ _ _ _).trans
      (State.setLock_keepsAll (by decide) (defined none) fun _ => rfl)).trans (State.purge_keepsAll _ _ _)

theorem State.rekey_keepsAll {hd : Header} {r : RangeIx} {domain : Key} {s : State} (hr : s.defined r = true) :
    s.KeepsAll (s.rekey hd r domain) := by
  have defined (ps : List EnvIx) : ((s.deleteEnvelopes ps).freshKey domain r).defined r = true := by
    simp only [State.defined, State.freshKey, State.onRange_get, if_pos] at hr ⊢
    exact hr
  unfold State.rekey
  exact ((((((s.deleteEnvelopes_keepsAll _).trans (State.freshKey_keepsAll _ _ _)).trans
    (State.deferredRekey_keepsAll (defined _)))).trans (State.bump_keepsAll _)).trans
    (State.openPlain_keepsAll rfl _ _)).trans (State.markAll_keepsAll _ _)

theorem execRekeyRange_keepsAll {hd : Header} {acting index : Nat} {s t : State}
    (h : execRekeyRange hd acting index s = .next t) : s.KeepsAll t := by
  refine State.requestOf_keepsAll (fun u _ _ _ => ?_) h
  split
  · next r domain hr _ => exact State.rekey_keepsAll (State.named_defined hr)
  · exact u.answer_keepsAll _ _ _
  · exact u.noAnswer_keepsAll

end Sys2Proof.Machine
end

section
/-! PROOFS. The span, store, threat, time and wipe families keep the invariants. -/

namespace Sys2Proof.Machine

/-! ## The span (R28 to R43) -/

theorem State.pin_keepsAll (i : SlotIx) (s : State) : s.KeepsAll (s.pin i) := s.onSlot_keepsAll _ _

theorem Resolving.slot_keepsAll (full : Bool) (v : Resolving) (p : Piece) (r : RangeIx) :
    v.state.KeepsAll (v.slot full p r).state := by
  unfold Resolving.slot
  split
  · split
    · split
      · exact .refl _
      · split
        · exact .refl _
        · exact v.state.pin_keepsAll _
    · exact .refl _
  · split
    · next t ht => exact State.allocate_keepsAll ht
    · exact .refl _

theorem dispose_keepsAll (kind : Access) (full : Bool) (v : Resolving) (p : Piece) :
    v.state.KeepsAll (dispose kind full v p).state := by
  unfold dispose
  split
  · exact .refl _
  · split
    · exact .refl _
    · exact v.slot_keepsAll _ _ _

theorem disposeAll_keepsAll (kind : Access) (full : Bool) (ps : List Piece) (v : Resolving) :
    v.state.KeepsAll (ps.foldl (dispose kind full) v).state := by
  induction ps generalizing v with
  | nil => exact .refl _
  | cons p ps ih => exact (dispose_keepsAll kind full v p).trans (ih _)

theorem State.issue_keepsAll (id : Nat) (segments : List Segment) (s : State) : s.KeepsAll (s.issue id segments) :=
  (s.onSrv_keepsAll _).trans (State.enter_keepsAll _ _ _)

theorem State.resolve_keepsAll (hd : Header) (start n : Nat) (kind : Access) (s : State) :
    s.KeepsAll (s.resolve hd start n kind) := by
  have disposed := disposeAll_keepsAll kind (decide (32 ≤ s.srv.verdicts.length)) ((s.pieces start n).take 8)
    { state := s, segments := [], pinned := [] }
  unfold State.resolve
  simp only
  split
  · exact (disposed.trans (State.issue_keepsAll _ _ _)).trans (State.answerOk_keepsAll _ _ _ _)
  · exact disposed.trans (State.answerOk_keepsAll _ _ _ _)

theorem execResolve_keepsAll {hd : Header} {start count : Nat} {kind : Option Access} {s t : State}
    (h : execResolve hd start count kind s = .next t) : s.KeepsAll t := by
  refine State.requestOf_keepsAll (fun u _ _ _ => ?_) h
  split
  · exact u.resolve_keepsAll _ _ _ _
  · exact u.noAnswer_keepsAll

theorem releaseOne_keepsAll (acc : State × List Bool) (id : Nat) : acc.1.KeepsAll (releaseOne acc id).1 := by
  unfold releaseOne
  split
  · exact acc.1.dropVerdict_keepsAll _
  · exact .refl _

theorem releases_keepsAll (ids : List Nat) (acc : State × List Bool) : acc.1.KeepsAll (ids.foldl releaseOne acc).1 := by
  induction ids generalizing acc with
  | nil => exact .refl _
  | cons id ids ih => exact (releaseOne_keepsAll acc id).trans (ih _)

theorem execRelease_keepsAll {hd : Header} {ids : List Nat} {s t : State} (h : execRelease hd ids s = .next t) :
    s.KeepsAll t := by
  refine State.requestOf_keepsAll (fun u _ _ _ => ?_) h
  exact (releases_keepsAll ids (u, [])).trans (State.answerOk_keepsAll _ _ _ _)

theorem execVerdictExpiry_keepsAll {id : Nat} {s t : State} (h : execVerdictExpiry id s = .next t) : s.KeepsAll t := by
  refine State.occur_keepsAll ?_ h
  split
  · next hf =>
    split
    · exact (State.takeFallen_keepsAll hf).trans (State.dropVerdict_keepsAll _ _)
    · exact State.takeFallen_keepsAll hf
  · exact .refl _

/-! ## The store (R154, R155) -/

theorem execRecordWrite_keepsAll {good wpcFirst : Bool} {s t : State} (h : execRecordWrite good wpcFirst s = .next t) :
    s.KeepsAll t := by
  refine State.occur_keepsAll ?_ h
  split
  · split
    · exact s.writeDone_keepsAll _ _ _ _
    · exact State.onSto_keepsAll
  · exact .refl _
  · exact .refl _

theorem execBankErase_keepsAll {good wpcFirst : Bool} {s t : State} (h : execBankErase good wpcFirst s = .next t) :
    s.KeepsAll t := by
  refine State.occur_keepsAll ?_ h
  split
  · split
    · exact s.eraseDone_keepsAll _ _ _
    · exact State.onSto_keepsAll
  · exact .refl _
  · exact .refl _

/-! ## Threats (R97, R98, R101, R105, R114) -/

theorem execReadCaptures_keepsAll {hd : Header} {s t : State} (h : execReadCaptures hd s = .next t) : s.KeepsAll t :=
  State.requestAlways_keepsAll (fun u => u.answerOk_keepsAll _ _ _) h

theorem State.clearCapture_keepsAll (hd : Header) (k : TriggerKind) (s : State) : s.KeepsAll (s.clearCapture hd k) := by
  unfold State.clearCapture
  split
  · exact s.answerOk_keepsAll _ _ _
  · split
    · exact s.answer_keepsAll _ _ _
    · refine State.KeepsAll.trans (State.KeepsAll.trans ?_ (State.deferWrites_none_keepsAll _ _ _ _ _ _ _ _))
        (State.mark_keepsAll _ _)
      exact State.onCapture_keepsAll rfl fun _ d hd => by cases hd

theorem execClearCapture_keepsAll {hd : Header} {acting : Nat} {kind : Option TriggerKind} {s t : State}
    (h : execClearCapture hd acting kind s = .next t) : s.KeepsAll t := by
  refine State.requestOf_keepsAll (fun u _ _ _ => ?_) h
  split
  · exact u.clearCapture_keepsAll _ _
  · exact u.noAnswer_keepsAll

theorem execTrigger_keepsAll {kind : TriggerKind} {s t : State} (h : execTrigger kind s = .next t) : s.KeepsAll t := by
  refine State.occur_keepsAll ?_ h
  split
  · refine State.KeepsAll.trans ?_ (State.takeTrigger_keepsAll _ _)
    exact State.onThm_keepsAll
  · exact .refl _

theorem State.setDebouncer_keepsAll (line : Line) (d : Debouncer) (s : State) :
    s.KeepsAll (s.onThm fun h => h.setDebouncer line d) := by
  cases line <;> exact State.onThm_keepsAll

theorem execDebouncerSettle_keepsAll {line : Line} {s t : State} (h : execDebouncerSettle line s = .next t) :
    s.KeepsAll t := by
  refine State.occur_keepsAll ?_ h
  simp only
  split
  · split
    · exact (s.setDebouncer_keepsAll _ _).trans (State.raiseTrigger_keepsAll _ _)
    · exact s.setDebouncer_keepsAll _ _
  · exact .refl _

theorem execAbsenceCheck_keepsAll {s t : State} (h : execAbsenceCheck s = .next t) : s.KeepsAll t := by
  refine State.occur_keepsAll ?_ h
  split
  · next hf =>
    split
    · refine (State.takeFallen_keepsAll hf).trans (State.KeepsAll.trans ?_ (State.raiseTrigger_keepsAll _ _))
      exact State.onThm_keepsAll
    · exact State.takeFallen_keepsAll hf
  · exact .refl _

theorem execGraceExpiry_keepsAll {s t : State} (h : execGraceExpiry s = .next t) : s.KeepsAll t := by
  refine State.occur_keepsAll ?_ h
  split
  · split
    · next hf =>
      split
      · exact (State.takeFallen_keepsAll hf).trans (State.enterWiping_keepsAll _ _)
      · exact State.takeFallen_keepsAll hf
    · exact .refl _
  · exact .refl _

/-! ## Time (R135 to R151) -/

theorem execReadTime_keepsAll {hd : Header} {s t : State} (h : execReadTime hd s = .next t) : s.KeepsAll t :=
  State.requestAlways_keepsAll (fun u => u.answerOk_keepsAll _ _ _) h

/-- The PSC stops at its end (R137). -/
theorem State.advance_keepsAll (cycles : Nat) (s : State) : s.KeepsAll (s.advance cycles) := by
  refine ⟨⟨⟨id, fun h => ?_, id, id, id, id, id⟩, fun _ => id⟩, id⟩
  obtain ⟨psc, rest⟩ := h
  refine ⟨fun p hp => ?_, rest⟩
  simp only [State.advance, State.onTmb_tmb] at hp
  split at hp
  · obtain ⟨q, -, rfl⟩ := Option.map_eq_some_iff.mp hp
    exact Nat.min_le_right _ _
  · exact psc p hp

theorem State.sampleLines_keepsAll (l : Lines) (s : State) : s.KeepsAll (s.sampleLines l) := by
  unfold State.sampleLines
  simp only
  split
  · exact State.KeepsAll.trans (s.onPins_keepsAll _) State.onThm_keepsAll
  · exact s.onPins_keepsAll _

theorem execTickBoundary_keepsAll {lines : Lines} {s t : State} (h : execTickBoundary lines s = .next t) : s.KeepsAll t := by
  refine State.occur_keepsAll ?_ h
  refine State.KeepsAll.trans (State.KeepsAll.trans (s.advance_keepsAll lines.xiCycles) ?_) (State.sampleLines_keepsAll _ _)
  exact State.onTmb_keepsAll

theorem execPscPersistence_keepsAll {s t : State} (h : execPscPersistence s = .next t) : s.KeepsAll t := by
  refine State.occur_keepsAll ?_ h
  split
  · next hf => exact ((State.takeFallen_keepsAll hf).trans (State.enter_keepsAll _ _ _)).trans (State.markAs_keepsAll _ _ _)
  · exact .refl _

theorem State.stimulate_keepsAll (s : State) : s.KeepsAll s.stimulate := by
  unfold State.stimulate
  split
  · exact s.enter_keepsAll _ _
  · exact .refl _

theorem execCrystalGap_keepsAll {s t : State} (h : execCrystalGap s = .next t) : s.KeepsAll t := by
  refine State.occur_keepsAll ?_ h
  split
  · exact State.onTmb_keepsAll
  · refine State.KeepsAll.trans (State.KeepsAll.trans ?_ (State.withdraw_keepsAll _ _)) (State.stimulate_keepsAll _)
    exact State.onTmb_keepsAll
  · exact .refl _

theorem execCrystalLoss_keepsAll {s t : State} (h : execCrystalLoss s = .next t) : s.KeepsAll t := by
  refine State.occur_keepsAll ?_ h
  split
  · refine State.KeepsAll.trans (State.KeepsAll.trans (State.KeepsAll.trans (State.KeepsAll.trans ?_
      (State.withdraw_keepsAll _ _)) (State.stimulate_keepsAll _)) (State.clockEvent_keepsAll _ _ _ _))
      (State.raiseTrigger_keepsAll _ _)
    exact State.onTmb_keepsAll
  · exact .refl _
  · exact .refl _

theorem execCrystalConfirmed_keepsAll {s t : State} (h : execCrystalConfirmed s = .next t) : s.KeepsAll t := by
  refine State.occur_keepsAll ?_ h
  split
  · refine State.KeepsAll.trans ?_ (State.withdraw_keepsAll _ _)
    exact State.onTmb_keepsAll
  · exact .refl _

theorem execCalibrationWindowStart_keepsAll {s t : State} (h : execCalibrationWindowStart s = .next t) : s.KeepsAll t := by
  refine State.occur_keepsAll ?_ h
  split
  · exact State.onTmb_keepsAll
  · exact .refl _

theorem State.rejectCount_keepsAll (w : Window) (m : Nat) (s : State) : s.KeepsAll (s.rejectCount w m) := by
  have again (u : State) (due : Nat) : u.KeepsAll (if w = .confirmation then u.enter .calibration due else u) := by
    split
    · exact u.enter_keepsAll _ _
    · exact .refl _
  unfold State.rejectCount
  refine State.KeepsAll.trans (State.KeepsAll.trans (State.KeepsAll.trans ?_ (again _ _)) (State.clockEvent_keepsAll _ _ _ _))
    (State.raiseTrigger_keepsAll _ _)
  exact State.onTmb_keepsAll

theorem execCalibrationCount_keepsAll {m : Nat} {s t : State} (h : execCalibrationCount m s = .next t) : s.KeepsAll t := by
  refine State.occur_keepsAll ?_ h
  split
  · split
    · exact State.onTmb_keepsAll
    · exact s.rejectCount_keepsAll _ _
  · exact .refl _

theorem execSwitchToCrystal_keepsAll {s t : State} (h : execSwitchToCrystal s = .next t) : s.KeepsAll t := by
  refine State.occur_keepsAll ?_ h
  split
  · split
    · refine State.KeepsAll.trans (State.KeepsAll.trans (State.KeepsAll.trans (State.KeepsAll.trans ?_
        (State.enter_keepsAll _ _ _)) (State.withdraw_keepsAll _ _)) (State.withdraw_keepsAll _ _))
        (State.clockEvent_keepsAll _ _ _ _)
      exact State.onTmb_keepsAll
    · exact .refl _
  · exact .refl _

theorem execCalibrationDeadline_keepsAll {s t : State} (h : execCalibrationDeadline s = .next t) : s.KeepsAll t := by
  refine State.occur_keepsAll ?_ h
  split
  · next hf =>
    refine (State.takeFallen_keepsAll hf).trans ?_
    split
    · refine State.KeepsAll.trans ?_ (State.enter_keepsAll _ _ _)
      exact State.onTmb_keepsAll
    · exact State.onTmb_keepsAll
    · exact .refl _
  · exact .refl _

theorem execUncalibratedWatch_keepsAll {s t : State} (h : execUncalibratedWatch s = .next t) : s.KeepsAll t := by
  refine State.occur_keepsAll ?_ h
  split
  · next hf =>
    refine (State.takeFallen_keepsAll hf).trans ?_
    split
    · exact (State.clockEvent_keepsAll _ _ _ _).trans (State.raiseTrigger_keepsAll _ _)
    · exact .refl _
  · exact .refl _

theorem execStimulationDeadline_keepsAll {s t : State} (h : execStimulationDeadline s = .next t) : s.KeepsAll t := by
  refine State.occur_keepsAll ?_ h
  split
  · next hf =>
    refine (State.takeFallen_keepsAll hf).trans ?_
    split
    · refine State.KeepsAll.trans ?_ (State.enter_keepsAll _ _ _)
      exact State.onTmb_keepsAll
    · exact .refl _
  · exact .refl _

theorem execStimulationPulseEnd_keepsAll {s t : State} (h : execStimulationPulseEnd s = .next t) : s.KeepsAll t := by
  refine State.occur_keepsAll ?_ h
  split
  · exact State.onTmb_keepsAll
  · exact .refl _

/-! ## WIPE (R118) -/

theorem execWipe_keepsAll {hd : Header} {acting : Option Nat} {token : Option (List Byte)} {s t : State}
    (h : execWipe hd acting token s = .next t) : s.KeepsAll t :=
  State.requestOf_keepsAll (fun u _ _ _ => (u.answer_keepsAll _ _ _).trans (State.raiseTrigger_keepsAll _ _)) h

/-! ## Every command -/

/-- Every command but INTEGRITY_SCAN keeps the invariants. -/
theorem exec_keepsAll {c : Instr} {s t : State} (hc : c ≠ .integrityScan) (h : exec c s = .next t) : s.KeepsAll t := by
  cases c with
  | integrityScan => exact absurd rfl hc
  | coldStart => exact execColdStart_keepsAll h
  | powerLoss => exact execPowerLoss_keepsAll h
  | selHeldLow => exact execSelHeldLow_keepsAll h
  | warmStartProceed => exact execWarmStartProceed_keepsAll h
  | wakePulse => exact execWakePulse_keepsAll h
  | dpwrRise => exact execDpwrRise_keepsAll h
  | dpwrFall => exact execDpwrFall_keepsAll h
  | standby => exact execStandby_keepsAll h
  | restart => exact execRestart_keepsAll h
  | inboundFrame => exact execInboundFrame_keepsAll h
  | readPeriod => exact execReadPeriod_keepsAll h
  | linkReply => exact execLinkReply_keepsAll h
  | identify => exact execIdentify_keepsAll h
  | status => exact execStatus_keepsAll h
  | readTime => exact execReadTime_keepsAll h
  | configure => exact execConfigure_keepsAll h
  | freeze => exact execFreeze_keepsAll h
  | setGuard => exact execSetGuard_keepsAll h
  | provision => exact execProvision_keepsAll h
  | authenticate => exact execAuthenticate_keepsAll h
  | signOut => exact execSignOut_keepsAll h
  | setCredential => exact execSetCredential_keepsAll h
  | disableAuthority => exact execDisableAuthority_keepsAll h
  | grant => exact execGrant_keepsAll h
  | revoke => exact execRevoke_keepsAll h
  | pairChallenge => exact execPairChallenge_keepsAll h
  | pairProve => exact execPairProve_keepsAll h
  | setPairing => exact execSetPairing_keepsAll h
  | defineRange => exact execDefineRange_keepsAll h
  | modifyRange => exact execModifyRange_keepsAll h
  | modifyRangeGeometry => exact execModifyRangeGeometry_keepsAll h
  | deleteRange => exact execDeleteRange_keepsAll h
  | listRanges => exact execListRanges_keepsAll h
  | lockRange => exact execLockRange_keepsAll h
  | unlockRange => exact execUnlockRange_keepsAll h
  | rekeyRange => exact execRekeyRange_keepsAll h
  | resolve => exact execResolve_keepsAll h
  | release => exact execRelease_keepsAll h
  | readSlots => exact execReadSlots_keepsAll h
  | readCaptures => exact execReadCaptures_keepsAll h
  | clearCapture => exact execClearCapture_keepsAll h
  | wipe => exact execWipe_keepsAll h
  | verdictExpiry => exact execVerdictExpiry_keepsAll h
  | laneFrameSent => exact execLaneFrameSent_keepsAll h
  | loadAck => exact execLoadAck_keepsAll h
  | clearAck => exact execClearAck_keepsAll h
  | ackTimeout => exact execAckTimeout_keepsAll h
  | syncError => exact execSyncError_keepsAll h
  | purgePulseEnd => exact execPurgePulseEnd_keepsAll h
  | haltRise => exact execHaltRise_keepsAll h
  | haltFall => exact execHaltFall_keepsAll h
  | derivationComplete => exact execDerivationComplete_keepsAll h
  | backoffExpiry => exact execBackoffExpiry_keepsAll h
  | pairingWindowExpiry => exact execPairingWindowExpiry_keepsAll h
  | trigger => exact execTrigger_keepsAll h
  | debouncerSettle => exact execDebouncerSettle_keepsAll h
  | absenceCheck => exact execAbsenceCheck_keepsAll h
  | graceExpiry => exact execGraceExpiry_keepsAll h
  | bankErase => exact execBankErase_keepsAll h
  | recordWrite => exact execRecordWrite_keepsAll h
  | tickBoundary => exact execTickBoundary_keepsAll h
  | pscPersistence => exact execPscPersistence_keepsAll h
  | crystalGap => exact execCrystalGap_keepsAll h
  | crystalLoss => exact execCrystalLoss_keepsAll h
  | crystalConfirmed => exact execCrystalConfirmed_keepsAll h
  | calibrationWindowStart => exact execCalibrationWindowStart_keepsAll h
  | calibrationCount => exact execCalibrationCount_keepsAll h
  | switchToCrystal => exact execSwitchToCrystal_keepsAll h
  | calibrationDeadline => exact execCalibrationDeadline_keepsAll h
  | uncalibratedWatch => exact execUncalibratedWatch_keepsAll h
  | stimulationDeadline => exact execStimulationDeadline_keepsAll h
  | stimulationPulseEnd => exact execStimulationPulseEnd_keepsAll h
  | selFall => exact execSelFall_keepsAll h

end Sys2Proof.Machine
end

section
/-! PROOFS. The invariants of ranges, keys, jobs, counts and settings: every step keeps them, and the reset state meets them. -/

namespace Sys2Proof.Machine

/-! ## INTEGRITY_SCAN (R159) -/

/-- The scan keeps the invariants, the awaited locks where LNK holds nothing in STARTING. -/
theorem State.scanDone_keeps {s : State} : s.Keeps s.scanDone ∧ (s.EngineSound → s.scanDone.EngineSound) ∧
    (s.powered = true → s.OutboundSound → s.StageSound → s.RangeKeysSound → s.LocksAwaited → s.scanDone.LocksAwaited) := by
  rcases s.scanDone_cases with h | ⟨hs, -, h⟩
  · rw [h]
    exact ⟨(State.KeepsAll.refl s).toKeeps, id, fun _ _ _ _ => id⟩
  · refine ⟨s.readRecords_keeps.trans h.toKeeps, fun _ => h.engine (.of_idle s.readRecords_idle),
      fun powered out stage keys locks => ?_⟩
    have starting : s.pwc.power = .starting := by
      cases hp : s.pwc.power with
      | unpowered => simp [State.powered, hp] at powered
      | starting => rfl
      | active => exact absurd (stage (.inl hp)) hs
      | standby => exact absurd (stage (.inr hp)) hs
    obtain ⟨-, -, -, -, empty, -⟩ := out.2.2.2 (.inl starting)
    exact ((State.readRecords_keepsLocks empty).trans h.toKeepsLocks).awaited keys locks

theorem execIntegrityScan_keeps {s t : State} (h : execIntegrityScan s = .next t) : s.Keeps t ∧
    (s.EngineSound → t.EngineSound) ∧
    (s.OutboundSound → s.StageSound → s.RangeKeysSound → s.LocksAwaited → t.LocksAwaited) := by
  obtain ⟨keeps, engine, locks⟩ := s.scanDone_keeps
  unfold execIntegrityScan State.occur at h
  split at h <;> cases h
  · next powered =>
    have settled := s.scanDone.settle_keepsAll
    exact ⟨keeps.trans settled.toKeeps, settled.engine ∘ engine,
      fun out stage keys l => settled.awaited (keeps.rangeKeys keys) (locks powered out stage keys l)⟩
  · exact ⟨(State.KeepsAll.refl s).toKeeps, id, fun _ _ _ => id⟩

/-- What every command keeps. -/
theorem exec_keeps {c : Instr} {s t : State} (h : exec c s = .next t) : s.Keeps t ∧ (s.EngineSound → t.EngineSound) ∧
    (s.OutboundSound → s.StageSound → s.RangeKeysSound → s.LocksAwaited → t.LocksAwaited) := by
  by_cases hc : c = .integrityScan
  · subst hc
    exact execIntegrityScan_keeps h
  · have k := exec_keepsAll hc h
    exact ⟨k.toKeeps, k.engine, fun _ _ => k.awaited⟩

/-- What every step keeps. -/
theorem step_keeps {s t : State} (h : step s = .next t) : s.Keeps t ∧ (s.EngineSound → t.EngineSound) ∧
    (s.OutboundSound → s.StageSound → s.RangeKeysSound → s.LocksAwaited → t.LocksAwaited) := by
  unfold step at h
  split at h
  · cases h
    exact ⟨(State.KeepsAll.refl s).toKeeps, id, fun _ _ _ => id⟩
  · next c rest _ =>
    obtain ⟨keeps, engine, locks⟩ := exec_keeps h
    have queue := s.setPending_keepsAll rest
    exact ⟨queue.toKeeps.trans keeps, engine ∘ queue.engine, locks⟩

/-! ## No increment of a past occurrence is remembered (log 5) -/

theorem State.occur_bumped {f : State → State} {s t : State} (h : s.occur f = .next t) (hs : s.model.bumped = false) :
    t.model.bumped = false := by
  unfold State.occur at h
  split at h <;> cases h
  · rfl
  · exact hs

theorem exec_bumped {c : Instr} {s t : State} (h : exec c s = .next t) (hs : s.model.bumped = false) :
    t.model.bumped = false := by
  cases hc : movesALine c with
  | false =>
    obtain ⟨f, hf⟩ := exec_occur hc
    exact State.occur_bumped (hf s ▸ h) hs
  | true =>
    cases c with
    | coldStart => cases h; rfl
    | powerLoss =>
      simp only [exec, execPowerLoss] at h
      split at h <;> cases h <;> exact hs
    | dpwrRise =>
      simp only [exec, execDpwrRise] at h
      split at h
      · cases h; exact hs
      · exact State.occur_bumped h hs
    | dpwrFall =>
      simp only [exec, execDpwrFall] at h
      split at h
      · exact State.occur_bumped h hs
      · cases h; exact hs
    | haltRise =>
      simp only [exec, execHaltRise] at h
      split at h
      · cases h; exact hs
      · exact State.occur_bumped h hs
    | haltFall =>
      simp only [exec, execHaltFall] at h
      split at h
      · exact State.occur_bumped h hs
      · cases h; exact hs
    | selFall =>
      simp only [exec, execSelFall] at h
      exact State.occur_bumped h hs
    | inboundFrame =>
      simp only [exec, execInboundFrame] at h
      exact State.occur_bumped h hs
    | readPeriod =>
      simp only [exec, execReadPeriod] at h
      exact State.occur_bumped h hs
    | wakePulse =>
      simp only [exec, execWakePulse] at h
      exact State.occur_bumped h hs
    | _ => cases hc

theorem step_bumped {s t : State} (h : step s = .next t) (hs : s.model.bumped = false) : t.model.bumped = false := by
  unfold step at h
  split at h
  · cases h; exact hs
  · exact exec_bumped h hs

/-! ## The invariants -/

/-- Settles O7: `State.Keeps` through every shared operation and every command, INTEGRITY_SCAN apart for the awaited locks. -/
theorem everyStepKeepsKeysAndJobsWithTheirOwners : Obligations.EveryStepKeepsKeysAndJobsWithTheirOwners := by
  intro s t h
  obtain ⟨keeps, engine, locks⟩ := step_keeps h
  exact ⟨keeps.rangeKeys, keeps.authorityKeys, engine, keeps.stage, locks⟩

/-- Settles O8: `State.Keeps`, with the mark of an increment taken back as every occurrence settles. -/
theorem everyStepKeepsCountsAndSettingsWithinValues : Obligations.EveryStepKeepsCountsAndSettingsWithinValues := by
  intro s t h
  obtain ⟨keeps, -⟩ := step_keeps h
  refine ⟨fun ⟨least, greatest, bumped⟩ => ?_, keeps.counts, keeps.settings⟩
  obtain ⟨least', greatest'⟩ := keeps.mapGen ⟨least, greatest⟩
  exact ⟨least', greatest', step_bumped h bumped⟩

/-- Settles O9: `State.Keeps`; only DEFINE_RANGE, MODIFY_RANGE and the scan place a geometry, each beside the others. -/
theorem everyStepKeepsRangesDisjointBelowC : Obligations.EveryStepKeepsRangesDisjointBelowC :=
  fun _ _ hs h => (step_keeps h).1.ranges hs

/-- Settles O10: the state of a cold start with the factory's records. -/
theorem resetMeetsEveryInvariant : Obligations.ResetMeetsEveryInvariant := by
  obtain ⟨⟨least, greatest⟩, counts, settings, ranges, rangeKeys, authorityKeys, engine, stage, awaited⟩ :=
    State.cold_sound .factory .quiet { draws := 0, bumped := false, marks := 0 } []
  have deadlines : State.reset.DeadlinesSound := List.nodup_singleton _
  have verdicts : State.reset.VerdictsSound := ⟨Nat.zero_le _, List.nodup_nil, fun _ h => by cases h⟩
  have empty : State.reset.LinkEmptied := ⟨rfl, rfl, rfl, rfl, fun i => by simp [State.reset, State.cold, Lnk.cleared], rfl, rfl⟩
  have outbound : State.reset.OutboundSound := ⟨Nat.zero_le _, Nat.zero_le _, List.nodup_nil, fun _ => empty⟩
  exact ⟨⟨least, greatest, rfl⟩, deadlines, verdicts, outbound, rangeKeys, authorityKeys, counts, ranges, settings, engine,
    stage, awaited⟩

end Sys2Proof.Machine
end

section
/-! PROOFS. The visible capacity and the run of concealed ranges at the medium's end (R25). -/

namespace Sys2Proof.Machine

theorem State.concealedEndingAt_some {s : State} {p : Nat} {g : Geometry} (h : s.concealedEndingAt p = some g) :
    ∃ r, s.concealed r = true ∧ (s.rmg.ranges.get r).geometry = some g ∧ g.after = p := by
  have ends := List.find?_some h
  obtain ⟨r, -, hr⟩ := List.mem_filterMap.mp (List.mem_of_find?_eq_some h)
  split at hr
  · next hc => exact ⟨r, hc, hr, of_decide_eq_true ends⟩
  · cases hr

theorem State.concealedEndingAt_none {s : State} {p : Nat} (h : s.concealedEndingAt p = none) {r : RangeIx} {g : Geometry}
    (hc : s.concealed r = true) (hg : (s.rmg.ranges.get r).geometry = some g) : g.after ≠ p := by
  have := List.find?_eq_none.mp h g (List.mem_filterMap.mpr ⟨r, List.mem_finRange r, by rw [if_pos hc, hg]⟩)
  simpa using this

/-- The indices of the ranges that lie wholly below an address. -/
def State.endingBy (s : State) (p : Nat) : Finset RangeIx :=
  Finset.univ.filter fun r => (s.rmg.ranges.get r).geometry.any fun g => decide (g.after ≤ p)

theorem State.mem_endingBy {s : State} {p : Nat} {r : RangeIx} :
    r ∈ s.endingBy p ↔ ∃ g, (s.rmg.ranges.get r).geometry = some g ∧ g.after ≤ p := by
  simp [State.endingBy, Option.any_eq_true]

/-- Index 0 has no geometry of its own: at most 15 ranges have one. -/
theorem State.card_endingBy_le {s : State} (h : s.RangesSound) (p : Nat) : (s.endingBy p).card ≤ 15 := by
  have sub : s.endingBy p ⊆ Finset.univ.erase 0 := by
    intro r hr
    obtain ⟨g, hg, -⟩ := State.mem_endingBy.mp hr
    refine Finset.mem_erase.mpr ⟨?_, Finset.mem_univ r⟩
    rintro rfl
    rw [h.1] at hg
    cases hg
  calc (s.endingBy p).card ≤ (Finset.univ.erase (0 : RangeIx)).card := Finset.card_le_card sub
    _ = 15 := by rw [Finset.card_erase_of_mem (Finset.mem_univ _), Finset.card_univ, Fintype.card_fin]

/-- Below the start of a range fewer ranges end than below its own end. -/
theorem State.card_endingBy_lt {s : State} (h : s.RangesSound) {r : RangeIx} {g : Geometry}
    (hg : (s.rmg.ranges.get r).geometry = some g) : (s.endingBy g.start).card < (s.endingBy g.after).card := by
  have length := (h.2.1 r g hg).1
  refine Finset.card_lt_card (Finset.ssubset_iff_of_subset (fun q hq => ?_) |>.mpr ⟨r, ?_, fun hr => ?_⟩)
  · obtain ⟨k, hk, le⟩ := State.mem_endingBy.mp hq
    exact State.mem_endingBy.mpr ⟨k, hk, le.trans (Nat.le_add_right _ _)⟩
  · exact State.mem_endingBy.mpr ⟨g, hg, Nat.le_refl _⟩
  · obtain ⟨k, hk, le⟩ := State.mem_endingBy.mp hr
    rw [hg] at hk
    cases hk
    rw [Geometry.after] at le
    omega

theorem State.runDown_le (s : State) (fuel p : Nat) : s.runDown fuel p ≤ p := by
  induction fuel generalizing p with
  | zero => exact Nat.le_refl p
  | succ n ih =>
    unfold State.runDown
    split
    · next g hg =>
      obtain ⟨r, -, -, rfl⟩ := State.concealedEndingAt_some hg
      exact (ih g.start).trans (Nat.le_add_right _ _)
    · exact Nat.le_refl p

/-- The run covers every block from its start up. -/
theorem State.runDown_covers (s : State) (fuel p : Nat) {q : Nat} (hq : s.runDown fuel p ≤ q) (hp : q < p) :
    ∃ r g, s.concealed r = true ∧ (s.rmg.ranges.get r).geometry = some g ∧ g.start ≤ q ∧ q < g.start + g.length := by
  induction fuel generalizing p with
  | zero => exact absurd hp (Nat.not_lt.mpr hq)
  | succ n ih =>
    unfold State.runDown at hq
    split at hq
    · next g hg =>
      obtain ⟨r, hc, hr, rfl⟩ := State.concealedEndingAt_some hg
      by_cases below : q < g.start
      · exact ih g.start hq below
      · exact ⟨r, g, hc, hr, Nat.not_lt.mp below, hp⟩
    · exact absurd hp (Nat.not_lt.mpr hq)

/-- A run that moved down starts with a range. -/
theorem State.runDown_starts (s : State) (fuel p : Nat) (h : s.runDown fuel p < p) :
    ∃ r g, s.concealed r = true ∧ (s.rmg.ranges.get r).geometry = some g ∧ g.start = s.runDown fuel p := by
  induction fuel generalizing p with
  | zero => exact absurd h (Nat.lt_irrefl p)
  | succ n ih =>
    unfold State.runDown at h ⊢
    split at h
    · next g hg =>
      obtain ⟨r, hc, hr, rfl⟩ := State.concealedEndingAt_some hg
      rcases Nat.lt_or_eq_of_le (s.runDown_le n g.start) with below | same
      · exact ih g.start below
      · exact ⟨r, g, hc, hr, same.symm⟩
    · exact absurd h (Nat.lt_irrefl p)

/-- A run with fuel for every range below it goes down as far as it can. -/
theorem State.runDown_ends {s : State} (h : s.RangesSound) (fuel p : Nat) (hf : (s.endingBy p).card ≤ fuel) {r : RangeIx}
    {g : Geometry} (hc : s.concealed r = true) (hg : (s.rmg.ranges.get r).geometry = some g) :
    g.after ≠ s.runDown fuel p := by
  induction fuel generalizing p with
  | zero =>
    intro e
    have : r ∈ s.endingBy p := State.mem_endingBy.mpr ⟨g, hg, Nat.le_of_eq e⟩
    rw [Finset.card_eq_zero.mp (Nat.le_zero.mp hf)] at this
    cases this
  | succ n ih =>
    unfold State.runDown
    split
    · next k hk =>
      obtain ⟨q, -, hq, rfl⟩ := State.concealedEndingAt_some hk
      exact ih k.start (Nat.le_of_lt_succ ((State.card_endingBy_lt h hq).trans_le hf))
    · next none_ => exact State.concealedEndingAt_none none_ hc hg

/-- Settles O46: the run down from C, which the 15 ranges that have a geometry cannot outlast. -/
theorem visibleCapacityEndsBelowTheConcealedRun : Obligations.VisibleCapacityEndsBelowTheConcealedRun := fun s h =>
  ⟨s.runDown_le _ _, fun _ hp hc => s.runDown_covers _ _ hp hc, fun hv => s.runDown_starts _ _ hv,
    fun _ _ hc hg => State.runDown_ends h _ _ (State.card_endingBy_le h _) hc hg⟩

end Sys2Proof.Machine
end

section
/-! PROOFS. Refusals of the requests that name an acting authority: how their checks begin, and what each answers (R8, R24, R160). -/

namespace Sys2Proof.Machine

/-! ## Refusals -/

theorem judge_cons (p : Bool × ResultCode) (l : List (Bool × ResultCode)) :
    judge (p :: l) = if p.1 then judge l else some p.2 := rfl

/-- A request taken up that fails a check is answered with that check's code alone. -/
theorem State.request_refused {kind : Byte} {h : Header} {c : Instr} {checks : State → List (Bool × ResultCode)}
    {act : State → State} {s : State} {code : ResultCode} (hs : s.TakesUp c)
    (hc : ∀ m, judge (checks (s.onLnk fun _ => m)) = some code) :
    ∃ t, s.request c kind h checks act = .next t ∧ s.Replied kind h.tag (.plain code) t ∧ Unchanged Part.replies s t := by
  obtain ⟨serves, level, -⟩ := hs
  obtain ⟨m, taken, run⟩ := State.requestOf_refuses serves (Nat.le_refl 1) level hc
  refine ⟨_, run, State.RepliedAll.settle (State.replied_answer taken.waiting taken.outbound), ?_⟩
  exact (((State.taken_unchanged taken).append (State.answer_unchanged _ _ _ _)).append (State.settle_unchanged _)).mono

/-- So a request whose executor is `request`. -/
theorem State.refuses {kind : Byte} {h : Header} {c : Instr} {checks : State → List (Bool × ResultCode)}
    {act : State → State} {s : State} {code : ResultCode} (hs : s.TakesUp c) (hr : Sys2Proof.requestOf c = some (kind, h))
    (he : ∀ s, exec c s = s.request c kind h checks act)
    (hc : ∀ m, judge (checks (s.onLnk fun _ => m)) = some code) : s.Refuses c code := by
  obtain ⟨t, run, replied, frame⟩ := State.request_refused (kind := kind) (h := h) (act := act) hs hc
  exact ⟨kind, h, t, hr, (he s).trans run, replied, frame⟩

/-! ## The requests that name a range (R8) -/

/-- The rights that a request over a range asks of its acting authority (R8). -/
def State.rightsOf (s : State) (c : Instr) (acting : Nat) (r : Option RangeIx) : Bool :=
  if mayUserAct c then s.mayLock acting r else namesAdmin acting

/-- A request that names a range judges index, concealment, sign-in and rights first, and a guarded one the guard next. -/
theorem exec_namedRange {c : Instr} {acting n : Nat} (h : namedRange c = some (acting, n)) :
    ∃ (kind : Byte) (hd : Header) (least : Nat) (rest : State → List (Bool × ResultCode)) (act : State → State),
      requestOf c = some (kind, hd) ∧ least ≤ 1 ∧ (mayNameZero c = true → least = 0) ∧
      (∀ s, exec c s = s.request c kind hd
        (fun s => s.rangeChecks acting (s.named least n) (s.rightsOf c acting (s.named least n)) ++ rest s) act) ∧
      (isGuarded c = true → ∃ own : State → List (Bool × ResultCode),
        ∀ s, rest s = (s.guardPasses hd.strap, .guarded) :: own s) := by
  cases c with
  | grant => cases h; exact ⟨_, _, 1, _, _, rfl, Nat.le_refl 1, nofun, fun _ => rfl, nofun⟩
  | revoke => cases h; exact ⟨_, _, 1, _, _, rfl, Nat.le_refl 1, nofun, fun _ => rfl, nofun⟩
  | modifyRange hd acting index flags geometry =>
    cases h
    cases geometry with
    | none => exact ⟨_, _, 0, _, _, rfl, Nat.zero_le 1, fun _ => rfl, fun _ => rfl, fun _ => ⟨_, fun _ => rfl⟩⟩
    | some g => exact ⟨_, _, 1, _, _, rfl, Nat.le_refl 1, nofun, fun _ => rfl, fun _ => ⟨_, fun _ => rfl⟩⟩
  | modifyRangeGeometry =>
    cases h; exact ⟨_, _, 1, _, _, rfl, Nat.le_refl 1, nofun, fun _ => rfl, fun _ => ⟨_, fun _ => rfl⟩⟩
  | deleteRange =>
    cases h; exact ⟨_, _, 1, _, _, rfl, Nat.le_refl 1, nofun, fun _ => rfl, fun _ => ⟨_, fun _ => rfl⟩⟩
  | lockRange => cases h; exact ⟨_, _, 0, _, _, rfl, Nat.zero_le 1, fun _ => rfl, fun _ => rfl, nofun⟩
  | unlockRange => cases h; exact ⟨_, _, 0, _, _, rfl, Nat.zero_le 1, fun _ => rfl, fun _ => rfl, nofun⟩
  | rekeyRange => cases h; exact ⟨_, _, 0, _, _, rfl, Nat.zero_le 1, fun _ => rfl, fun _ => rfl, nofun⟩
  | _ => cases h

/-- A defined range is named by its index, where the request may name it. -/
theorem State.named_val_self {s : State} {least : Nat} {r : RangeIx} (hd : s.defined r = true) (hl : least ≤ r.val) :
    s.named least r.val = some r := by
  simp [State.named, hd, hl]

theorem State.named_of_undefined {s : State} {least : Nat} {r : RangeIx} (hd : s.defined r = false) :
    s.named least r.val = none := by
  simp [State.named, hd]

/-- A least index of at most 1 permits a range where index 0 is permitted or not named. -/
theorem least_le_val {least : Nat} {r : RangeIx} (h1 : least ≤ 1) (h0 : r = 0 → least = 0) : least ≤ r.val := by
  by_cases h : r = 0
  · rw [h0 h]; exact Nat.zero_le _
  · exact h1.trans (Nat.one_le_iff_ne_zero.mpr fun k => h (Fin.ext k))

/-- An index not in use, and a concealed range, are BAD_ARG (R8, R24). -/
theorem judge_rangeChecks_badArg {s : State} {acting : Nat} {r : Option RangeIx} {rights : Bool}
    {rest : List (Bool × ResultCode)} (h : r = none ∨ s.showsTo acting r = false) :
    judge (s.rangeChecks acting r rights ++ rest) = some .badArg := by
  cases r with
  | none => rfl
  | some r =>
    have hidden : s.showsTo acting (some r) = false := h.resolve_left (by simp)
    simp [State.rangeChecks, judge_cons, hidden]

/-- A shown range and an authority not signed in or without the rights are DENIED (R8). -/
theorem judge_rangeChecks_denied {s : State} {acting : Nat} {r : RangeIx} {rights : Bool} {rest : List (Bool × ResultCode)}
    (hs : s.showsTo acting (some r) = true) (h : s.signedIn acting = false ∨ rights = false) :
    judge (s.rangeChecks acting (some r) rights ++ rest) = some .denied := by
  by_cases signed : s.signedIn acting = true
  · have : rights = false := h.resolve_left (by simp [signed])
    simp [State.rangeChecks, judge_cons, hs, signed, this]
  · simp [State.rangeChecks, judge_cons, hs, signed]

/-- With the rights the request's own checks decide (R8). -/
theorem judge_rangeChecks_own {s : State} {acting : Nat} {r : RangeIx} {rights : Bool} {rest : List (Bool × ResultCode)}
    (hs : s.showsTo acting (some r) = true) (signed : s.signedIn acting = true) (hr : rights = true) :
    judge (s.rangeChecks acting (some r) rights ++ rest) = judge rest := by
  simp [State.rangeChecks, judge_cons, hs, signed, hr]

theorem State.adminActs_iff {s : State} {acting : Nat} :
    s.adminActs acting = true ↔ namesAdmin acting = true ∧ s.signedIn acting = true := by
  simp [State.adminActs]

theorem State.rightsOf_admin {s : State} {c : Instr} {acting : Nat} {r : Option RangeIx} (h : namesAdmin acting = true) :
    s.rightsOf c acting r = true := by
  simp [State.rightsOf, State.mayLock, h]

theorem State.defined_of_concealed {s : State} {r : RangeIx} (h : s.concealed r = true) : s.defined r = true ∧ r ≠ 0 := by
  simp only [State.concealed, Bool.and_eq_true, decide_eq_true_eq] at h
  obtain ⟨⟨⟨nonzero, geometry⟩, -⟩, -⟩ := h
  exact ⟨by simp [State.defined, geometry], nonzero⟩

/-- Settles O43: the first two checks of R8, the same for every request that names a range. -/
theorem concealedRangeAnswersAsUndefined : Obligations.ConcealedRangeAnswersAsUndefined := by
  intro c s kind hd acting r hreq hname hs hidden
  obtain ⟨kind', hd', least, rest, act, hreq', least_le, -, run, -⟩ := exec_namedRange hname
  rw [hreq] at hreq'
  cases hreq'
  have fails (m : Lnk) : s.named least r.val = none ∨ (s.onLnk fun _ => m).showsTo acting (s.named least r.val) = false := by
    rcases hidden with undefined | ⟨concealed, noAdmin⟩
    · exact .inl (State.named_of_undefined undefined)
    · obtain ⟨defined, nonzero⟩ := State.defined_of_concealed concealed
      refine .inr ?_
      rw [State.named_val_self defined (least_le_val least_le fun k => absurd k nonzero)]
      have shows : s.showsTo acting (some r) = false := by simp [State.showsTo, noAdmin, concealed]
      exact shows
  rw [run]
  exact State.request_refused hs fun m => judge_rangeChecks_badArg (fails m)

/-! ## The requests of an admin (R10, R86, R88, R90) and of ADMIN alone (R114, R162, R163) -/

/-- A request that any signed-in admin may make judges sign-in and rights first, and a guarded one the guard next. -/
theorem exec_actingAdmin {c : Instr} {acting : Nat} (h : actingAdmin c = some acting) :
    ∃ (kind : Byte) (hd : Header) (rest : State → List (Bool × ResultCode)) (act : State → State), requestOf c = some (kind, hd) ∧
      (∀ s, exec c s = s.request c kind hd
        (fun s => (s.signedIn acting, .denied) :: (namesAdmin acting, .denied) :: rest s) act) ∧
      (isGuarded c = true → ∃ own : State → List (Bool × ResultCode),
        ∀ s, rest s = (s.guardPasses hd.strap, .guarded) :: own s) := by
  cases c with
  | defineRange => cases h; exact ⟨_, _, _, _, rfl, fun _ => rfl, fun _ => ⟨_, fun _ => rfl⟩⟩
  | setCredential => cases h; exact ⟨_, _, _, _, rfl, fun _ => rfl, nofun⟩
  | disableAuthority => cases h; exact ⟨_, _, _, _, rfl, fun _ => rfl, nofun⟩
  | setPairing => cases h; exact ⟨_, _, _, _, rfl, fun _ => rfl, fun _ => ⟨_, fun _ => rfl⟩⟩
  | _ => cases h

theorem State.adminItself_eq (s : State) (acting : Nat) : s.adminItself acting = (acting == 0 && s.signedIn acting) := rfl

/-- A request that ADMIN alone may make judges its authority first, its kind of capture aside, and a guarded one the guard next. -/
theorem exec_actingAdminItself {c : Instr} {acting : Nat} (h : actingAdminItself c = some acting) (hs : c.sized = true) :
    ∃ (kind : Byte) (hd : Header) (checks : State → List (Bool × ResultCode)) (act : State → State),
      requestOf c = some (kind, hd) ∧ (∀ s, exec c s = s.request c kind hd checks act) ∧
      (∀ s : State, s.adminItself acting = false → judge (checks s) = some .denied) ∧
      (isGuarded c = true → ∀ s : State, s.adminItself acting = true → s.guardPasses hd.strap = false →
        judge (checks s) = some .guarded) := by
  cases c with
  | configure =>
    cases h
    exact ⟨_, _, _, _, rfl, fun _ => rfl, fun s k => by simp [judge_cons, k],
      fun _ s k g => by simp [judge_cons, k, g]⟩
  | setGuard =>
    cases h
    exact ⟨_, _, _, _, rfl, fun _ => rfl, fun s k => by simp [judge_cons, k],
      fun _ s k g => by simp [judge_cons, k, g]⟩
  | clearCapture hd acting kind =>
    cases kind with
    | none => cases h
    | some k =>
      cases h
      have sized : hd.sized = true := hs
      exact ⟨_, _, _, _, rfl, fun _ => rfl, fun s k => by simp [judge_cons, sized, ← s.adminItself_eq acting, k], nofun⟩
  | _ => cases h

theorem Instr.strap_of {c : Instr} {kind : Byte} {hd : Header} (h : requestOf c = some (kind, hd)) : c.strap = hd.strap := by
  simp [Instr.strap, h]

/-- A guarded request over a range, of an authority not signed in or without the rights, or with the guard closed. -/
theorem State.refuses_namedRange {c : Instr} {s : State} {acting : Nat} {r : RangeIx} (hs : s.TakesUp c)
    (hn : namedRange c = some (acting, r.val)) (hd : s.defined r = true) (h0 : r = 0 → mayNameZero c = true)
    (shown : s.showsTo acting (some r) = true) :
    (s.signedIn acting = false ∨ s.rightsOf c acting (some r) = false → s.Refuses c .denied) ∧
      (isGuarded c = true → s.adminActs acting = true → s.guardPasses c.strap = false → s.Refuses c .guarded) := by
  obtain ⟨kind, hd', least, rest, act, hreq, least_le, zero, run, guarded⟩ := exec_namedRange hn
  have name : s.named least r.val = some r := State.named_val_self hd (least_le_val least_le fun k => zero (h0 k))
  have named (m : Lnk) : (s.onLnk fun _ => m).named least r.val = some r := name
  refine ⟨fun h => State.refuses hs hreq run fun m => ?_, fun hg admin closed => State.refuses hs hreq run fun m => ?_⟩
  · rw [named]
    exact judge_rangeChecks_denied shown h
  · obtain ⟨own, hown⟩ := guarded hg
    obtain ⟨names, signed⟩ := State.adminActs_iff.mp admin
    have shut : (s.onLnk fun _ => m).guardPasses hd'.strap = false := by rw [← Instr.strap_of hreq]; exact closed
    rw [named, judge_rangeChecks_own (s := s.onLnk fun _ => m) shown signed (State.rightsOf_admin names), hown, judge_cons, shut]
    rfl

theorem State.refuses_actingAdmin {c : Instr} {s : State} {acting : Nat} (hs : s.TakesUp c)
    (ha : actingAdmin c = some acting) :
    (s.adminActs acting = false → s.Refuses c .denied) ∧
      (isGuarded c = true → s.adminActs acting = true → s.guardPasses c.strap = false → s.Refuses c .guarded) := by
  obtain ⟨kind, hd, rest, act, hreq, run, guarded⟩ := exec_actingAdmin ha
  refine ⟨fun h => State.refuses hs hreq run fun m => ?_, fun hg admin closed => State.refuses hs hreq run fun m => ?_⟩
  · have h : (namesAdmin acting && (s.onLnk fun _ => m).signedIn acting) = false := h
    by_cases signed : (s.onLnk fun _ => m).signedIn acting = true
    · rw [signed, Bool.and_true] at h
      simp [judge_cons, signed, h]
    · simp [judge_cons, signed]
  · obtain ⟨own, hown⟩ := guarded hg
    obtain ⟨names, signed⟩ := State.adminActs_iff.mp admin
    have signed : (s.onLnk fun _ => m).signedIn acting = true := signed
    have shut : (s.onLnk fun _ => m).guardPasses hd.strap = false := by rw [← Instr.strap_of hreq]; exact closed
    simp [judge_cons, signed, names, hown, shut]

theorem State.refuses_actingAdminItself {c : Instr} {s : State} {acting : Nat} (hs : s.TakesUp c)
    (ha : actingAdminItself c = some acting) :
    (acting ≠ 0 ∨ s.signedIn acting = false → s.Refuses c .denied) ∧
      (isGuarded c = true → acting = 0 → s.signedIn acting = true → s.guardPasses c.strap = false →
        s.Refuses c .guarded) := by
  obtain ⟨kind, hd, checks, act, hreq, run, denied, guarded⟩ := exec_actingAdminItself ha hs.2.2
  refine ⟨fun h => State.refuses hs hreq run fun m => denied _ ?_,
    fun hg zero signed closed => State.refuses hs hreq run fun m => guarded hg _ ?_ ?_⟩
  · have : s.adminItself acting = false := by
      rcases h with h | h <;> simp [State.adminItself, h]
    exact this
  · have : s.adminItself acting = true := by rw [State.adminItself, signed, zero]; rfl
    exact this
  · rw [← Instr.strap_of hreq]
    exact closed

/-- Settles O44: the checks of each group of requests begin with the authority's, and the guard's come next. -/
theorem unauthorisedRequestsAreDenied : Obligations.UnauthorisedRequestsAreDenied := by
  refine fun c s hs => ⟨fun acting r hn hd h0 shown => ?_, fun acting ha => State.refuses_actingAdmin hs ha,
    fun acting ha => State.refuses_actingAdminItself hs ha⟩
  obtain ⟨denied, guarded⟩ := State.refuses_namedRange hs hn hd h0 shown
  refine ⟨fun h => denied (.inl h), fun user h => denied (.inr ?_), fun user h => denied (.inr ?_), guarded⟩
  · rw [State.rightsOf, if_pos user, h]
  · rw [State.rightsOf, if_neg (by simp [user]), h]

end Sys2Proof.Machine
end

section
/-! PROOFS. What the requests over ranges share: how one is taken up, the deferred reply with its marks, the opening of one range with its
eager load, and the increment of the map generation. -/

namespace Sys2Proof.Machine

/-! ## Taken up -/

theorem State.freeDeferred_taken {s : State} {m : Lnk} (h : s.lnk.Taken 1 m) :
    (s.onLnk fun _ => m).freeDeferred = s.freeDeferred := by
  rw [State.freeDeferred, State.freeDeferred, State.onLnk_lnk, h.deferred]

/-- A request taken up that passes its checks has its own effect, from the state with the request taken. -/
theorem State.accepted {kind : Byte} {h : Header} {c : Instr} {checks : State → List (Bool × ResultCode)}
    {act : State → State} {s : State} {P : State → Prop} (hs : s.TakesUp c)
    (hc : ∀ m, s.lnk.Taken 1 m → judge (checks (s.onLnk fun _ => m)) = none)
    (hp : ∀ m, s.lnk.Taken 1 m → P (act (s.onLnk fun _ => m)).settle) :
    ∃ t, s.request c kind h checks act = .next t ∧ P t := by
  obtain ⟨serves, level, -⟩ := hs
  obtain ⟨m, take, taken⟩ := State.take_of_serves serves (Nat.le_refl 1)
  refine ⟨_, ?_, hp m taken⟩
  simp only [State.request, State.requestOf, State.occur_of_powered (State.powered_of_active serves.1), take,
    State.onLnk_thm, level, if_false, hc m taken]

/-- An answer at once, where LNK is otherwise as the request found it, and the occurrence's end. -/
theorem State.replied_at_once {kind tag : Byte} {r : Reply} {s t : State} (hw : t.lnk.waiting = none)
    (ho : t.lnk.outbound = s.lnk.outbound) : s.Replied kind tag r (t.answer kind tag r).settle :=
  State.RepliedAll.settle (State.replied_answer hw ho)

/-- An answer at once with no effect. -/
theorem State.answered_only {kind tag : Byte} {r : Reply} {s : State} {m : Lnk} (h : s.lnk.Taken 1 m) :
    s.Replied kind tag r ((s.onLnk fun _ => m).answer kind tag r).settle ∧
      Unchanged Part.replies s ((s.onLnk fun _ => m).answer kind tag r).settle :=
  ⟨State.replied_at_once h.waiting h.outbound,
    (((State.taken_unchanged h).append (State.answer_unchanged _ _ _ _)).append (State.settle_unchanged _)).mono⟩

/-! ## Deferred replies -/

theorem State.KeepsWorking.of_deferred {s t : State} (h : t.lnk.deferred = s.lnk.deferred) : s.KeepsWorking t := by
  intro i d hd _
  rw [h, hd]
  rfl

/-- A step that leaves the WORKING entries leaves those of a state before it. -/
theorem State.KeepsWorking.step {e : List Part} {s t u : State} (h : s.KeepsWorking t) (k : Unchanged e t u)
    (he : Part.deferred ∉ e := by decide) : s.KeepsWorking u := by
  intro i d hd hr
  have stands := h i d hd hr
  have working : isReady (t.lnk.deferred.get i) = false := by
    rw [← isReady_plain, stands]
    exact (isReady_plain (some d)).trans hr
  rw [k .deferred he i working, stands]

/-- An entry taken in a free place leaves the others. -/
theorem State.KeepsWorking.defer {s t : State} {i : DeferIx} {kind tag : Byte} {b : Block} {range : Option RangeIx} {w : Work}
    (h : s.KeepsWorking t) (hi : s.lnk.deferred.get i = none) : s.KeepsWorking (t.defer i kind tag b range w) := by
  intro j d hd hr
  have ne : i ≠ j := by
    rintro rfl
    rw [hi] at hd
    cases hd
  rw [State.defer, State.onLnk_lnk, Table.get_set_ne _ _ ne]
  exact h j d hd hr

theorem State.get_freeDeferred {s : State} {i : DeferIx} (h : s.freeDeferred = some i) : s.lnk.deferred.get i = none := by
  simpa using (Table.lowest_some h).1

theorem State.keepsWorking_deferWrites {kind : Byte} {h : Header} {b : Block} {range : Option RangeIx} {rs : List RecordId}
    {lock : Option RangeIx} {done fault : Reply} {s t : State} (hd : t.lnk.deferred = s.lnk.deferred) :
    s.KeepsWorking (t.deferWrites kind h b range rs lock done fault) := by
  unfold State.deferWrites
  split
  · next i hi =>
    refine State.KeepsWorking.defer (.of_deferred hd) ?_
    rw [← hd]
    exact State.get_freeDeferred hi
  · exact .of_deferred hd

/-- From `s` by way of `u` to `t` the reply waits in the lowest free entry for the writes of `rs`, which are marked; no more than that
happens after `u`. -/
structure State.Defers (kind tag : Byte) (rs : List RecordId) (s u t : State) : Prop where
  deferring : s.Deferring kind tag .rmg t
  working : s.KeepsWorking t
  marked : ∀ r ∈ rs, t.Marked r
  frame : Unchanged [.deferred, .operation, .dirty] u t

/-- The end of a request over the range table that changes records: the deferred reply, the marks, the occurrence's end. -/
theorem State.defers {kind : Byte} {h : Header} {range : Option RangeIx} {r : RecordId} {rs : List RecordId} {done fault : Reply}
    {s u : State} (hw : u.lnk.waiting = none) (hd : u.lnk.deferred = s.lnk.deferred) (hf : s.freeDeferred.isSome) :
    s.Defers kind h.tag (r :: rs) u
      ((u.deferWrites kind h .rmg range (r :: rs) none done fault).markAll (r :: rs)).settle where
  deferring := ((State.deferring_deferWrites hw hd hf).step (State.markAll_unchanged _ _)).settle
  working := ((State.keepsWorking_deferWrites hd).step (State.markAll_unchanged _ _)).step (State.settle_unchanged _)
  marked q hq := (State.marked_markAll hq _).of_sto (State.settle_sto _)
  frame := (((u.deferWrites_unchanged _ _ _ _ _ _ _ _).append (State.markAll_unchanged _ _)).append
    (State.settle_unchanged _)).mono

section
variable {kind tag : Byte} {rs : List RecordId} {s u t : State} (h : s.Defers kind tag rs u t)
include h

/-! The marks and the deferred reply leave the range table, the keys, the slots and the draws. -/

theorem State.Defers.ranges : t.rmg.ranges = u.rmg.ranges := h.frame .ranges (by decide)
theorem State.Defers.rangeKeys : t.rmg.rangeKeys = u.rmg.rangeKeys := h.frame .rangeKeys (by decide)
theorem State.Defers.envelopes : t.rmg.envelopes = u.rmg.envelopes := h.frame .envelopes (by decide)
theorem State.Defers.mapGen : t.rmg.mapGen = u.rmg.mapGen := h.frame .mapGen (by decide)
theorem State.Defers.slots : t.kln.slots = u.kln.slots := h.frame .slots (by decide)
theorem State.Defers.draws : t.model.draws = u.model.draws := h.frame .draws (by decide)
theorem State.Defers.authorities : t.aut.auth = u.aut.auth := h.frame .authorities (by decide)

end

/-! ## The lane and the eager loads (R55, R58) -/

/-- The lane at the end of an occurrence, from its lane before. -/
theorem State.laneRuns_of_same {u t : State} (h : Part.same u t .lane) (hl : u.kln.lane = .idle) : t.LaneRuns u.kln.queue := by
  rcases h with ⟨lane, queue, -⟩ | ⟨-, f, g, queue, lane, op, slot⟩
  · exact .inl ⟨lane.trans hl, queue⟩
  · exact .inr ⟨f, g, queue, lane, op, slot⟩

theorem State.lane_of_same {u t : State} (h : Part.same u t .lane) (hl : u.kln.lane ≠ .idle) :
    t.kln.lane = u.kln.lane ∧ t.kln.queue = u.kln.queue := by
  rcases h with ⟨lane, queue, -⟩ | ⟨idle, -⟩
  · exact ⟨lane, queue⟩
  · exact absurd idle hl

/-- What a lane queue becomes, in the terms of the statements: started where the lane was IDLE, otherwise behind the frame under way. -/
theorem State.laneQueue_of_same {u t : State} (h : Part.same u t .lane) {lane : Lane} {q : List LaneFrame} (hl : u.kln.lane = lane)
    (hq : u.kln.queue = q) : (lane = .idle → t.LaneRuns q) ∧ (lane ≠ .idle → t.kln.lane = lane ∧ t.kln.queue = q) := by
  subst hl hq
  exact ⟨State.laneRuns_of_same h, State.lane_of_same h⟩

theorem Table.head_positions {α : Type} {n : Nat} (t : Table α n) (p : α → Bool) : (t.positions p).head? = t.lowest p :=
  List.head?_filter

/-- The eager load of one range with no slot, before the lane's next start. -/
theorem State.eagerLoad_loads {r : RangeIx} {s t : State} {e : List Part} (hs : (s.rmg.ranges.get r).slot = none)
    (h : Unchanged e (s.eagerLoad r) t)
    (he : Part.ranges ∉ e ∧ Part.slots ∉ e ∧ Part.lane ∉ e ∧ Part.uptime ∉ e := by decide) :
    t.Loads [r] s.kln.slots s.kln.queue s.kln.lane := by
  obtain ⟨ranges, slots, lane, uptime⟩ := he
  have ranges : t.rmg.ranges = (s.eagerLoad r).rmg.ranges := h .ranges ranges
  have slots : t.kln.slots = (s.eagerLoad r).kln.slots := h .slots slots
  have lane : Part.same (s.eagerLoad r) t .lane := h .lane lane
  have uptime : t.tmb.uptime = (s.eagerLoad r).tmb.uptime := h .uptime uptime
  have head := Table.head_positions s.kln.slots fun l => l.state == .empty
  unfold State.eagerLoad at ranges slots lane uptime
  rw [if_neg (by simp [hs])] at ranges slots lane uptime
  cases hfree : s.kln.slots.positions fun l => l.state == .empty with
  | nil =>
    rw [hfree, List.head?_nil] at head
    rw [State.emptySlot, ← head] at ranges slots lane uptime
    refine ⟨fun k q hq => ?_, fun w hw => ?_, fun i _ => by rw [slots], ?_⟩
    · rw [hfree, List.getElem?_nil, ranges]
      cases k with
      | zero => cases hq; exact hs
      | succ k => cases hq
    · rw [hfree] at hw
      cases hw
    · rw [hfree]
      exact State.laneQueue_of_same lane rfl (List.append_nil _).symm
  | cons i rest =>
    rw [hfree, List.head?_cons] at head
    rw [State.emptySlot, ← head] at ranges slots lane uptime
    have entry (q : RangeIx) : t.rmg.ranges.get q =
        if r = q then { s.rmg.ranges.get r with slot := some i } else s.rmg.ranges.get q := by
      rw [ranges]
      exact State.onRange_get r q (fun e => { e with slot := some i }) _
    have key : s.occupantOf r = { range := r, generation := (t.rmg.ranges.get r).generation } := by
      rw [entry, if_pos rfl]
      rfl
    have taken : t.kln.slots = s.kln.slots.set i
        { state := .loading, occupant := some (s.occupantOf r), next := none, pins := 0, lastUse := s.tmb.uptime } := slots
    refine ⟨fun k q hq => ?_, fun w hw => ?_, fun j hj => ?_, ?_⟩
    · cases k with
      | zero =>
        cases hq
        rw [hfree, entry, if_pos rfl]
        rfl
      | succ k => cases hq
    · rw [hfree] at hw
      obtain rfl : w = (r, i) := by simpa using hw
      rw [taken, Table.get_set_self, key, uptime]
      rfl
    · rw [hfree] at hj
      rw [taken, Table.get_set_ne]
      rintro rfl
      exact hj (by simp)
    · rw [hfree]
      exact State.laneQueue_of_same lane rfl
        (congrArg (fun o => s.kln.queue ++ [({ op := .load, slot := i, key := some o } : LaneFrame)]) key)

/-- No range to load: the slots and the lane queue stand. -/
theorem State.loads_nil {s t : State} {e : List Part} (h : Unchanged e s t)
    (he : Part.slots ∉ e ∧ Part.lane ∉ e := by decide) : t.Loads [] s.kln.slots s.kln.queue s.kln.lane := by
  obtain ⟨slots, lane⟩ := he
  have slots : t.kln.slots = s.kln.slots := h .slots slots
  refine ⟨fun k q hq => (by cases hq), fun w hw => (by cases hw), fun i _ => by rw [slots], ?_⟩
  exact State.laneQueue_of_same (h .lane lane) rfl (List.append_nil _).symm

/-- A fold that acts for one element of a list acts once. -/
theorem foldl_once {α β : Type} [DecidableEq α] (f : β → β) (a : α) {l : List α} (hn : l.Nodup) (b : β) :
    l.foldl (fun b x => if x = a then f b else b) b = if a ∈ l then f b else b := by
  induction l generalizing b with
  | nil => rfl
  | cons x l ih =>
    obtain ⟨hx, hn⟩ := List.nodup_cons.mp hn
    rw [List.foldl_cons, ih hn]
    by_cases h : x = a
    · subst h
      simp [hx]
    · simp [h, Ne.symm h]

theorem State.eagerLoads_single (r : RangeIx) (s : State) : s.eagerLoads [r] = s.eagerLoad r := by
  have h := foldl_once (fun t : State => t.eagerLoad r) r (List.nodup_finRange 16) s
  rw [if_pos (List.mem_finRange r)] at h
  rw [← h, State.eagerLoads]
  congr 1
  funext t q
  by_cases hq : q = r
  · subst hq; simp
  · simp [hq]

/-- The eager load of `r` leaves every entry but its slot field. -/
theorem State.eagerLoad_get (r q : RangeIx) (s : State) : (s.eagerLoad r).rmg.ranges.get q =
    if r = q then { s.rmg.ranges.get r with slot := ((s.eagerLoad r).rmg.ranges.get r).slot } else s.rmg.ranges.get q := by
  have own : ∀ u : State, u.rmg.ranges.get q = if r = q then { u.rmg.ranges.get r with slot := (u.rmg.ranges.get r).slot }
      else u.rmg.ranges.get q := by
    intro u
    split
    · next h => rw [h]
    · rfl
  unfold State.eagerLoad
  split
  · exact own s
  · split
    · next i _ =>
      have get (p : RangeIx) : (s.assignSlot i r).rmg.ranges.get p =
          if r = p then { s.rmg.ranges.get r with slot := some i } else s.rmg.ranges.get p :=
        State.onRange_get r p (fun e => { e with slot := some i }) _
      rw [get q, get r, if_pos rfl]
    · exact own s

/-! ## Opening one range from its device wrap (R16) -/

theorem State.openPlain_closed {from_ : LockState → Bool} {r : RangeIx} {s : State} (h : s.opensPlain from_ r = false) :
    s.openPlain from_ [r] = s := by
  simp [State.openPlain, openPlainStep, h]

theorem State.openPlain_opens {from_ : LockState → Bool} {r : RangeIx} {k : Key} {s : State}
    (h : s.opensPlain from_ r = true) (hk : unwrap (s.rmg.ranges.get r).deviceWrap (some .device) = some k) :
    s.openPlain from_ [r] = ((s.openWith r k .opened).eagerLoad r).bump := by
  simp [State.openPlain, openPlainStep, h, hk, State.eagerLoads_single]

theorem unwrap_wrapped (under k : Key) : unwrap (some (wrapped under k)) (some under) = some k := by
  simp [unwrap, wrapped]

theorem State.openWith_get (r q : RangeIx) (k : Key) (lock : LockState) (s : State) :
    (s.openWith r k lock).rmg.ranges.get q =
      if r = q then { s.rmg.ranges.get r with lock := lock } else s.rmg.ranges.get q :=
  State.onRange_get r q (fun e => { e with lock := lock }) _

theorem State.openWith_keys (r : RangeIx) (k : Key) (lock : LockState) (s : State) :
    (s.openWith r k lock).rmg.rangeKeys = s.rmg.rangeKeys.set r (some k) := rfl

/-! ## The map generation (R7) -/

theorem State.bump_of_bumped {s : State} (h : s.model.bumped = true) : s.bump = s := by
  rw [State.bump, if_pos h]

theorem State.bump_mapGen {s : State} (h : s.model.bumped = false) : s.bump.rmg.mapGen = nextMapGen s.rmg.mapGen := by
  rw [State.bump, if_neg (by simp [h])]
  rfl

theorem State.bump_bumped (s : State) : s.bump.model.bumped = true := by
  unfold State.bump
  split
  · assumption
  · rfl

end Sys2Proof.Machine
end

section
/-! PROOFS. GRANT and REVOKE (R22, R23). -/

namespace Sys2Proof.Machine

theorem userAt_val {u : AuthIx} (h : isUser u = true) : userAt u.val = some u := by
  simp [userAt, authorityAt, u.isLt, h]

theorem State.shows_of_adminActs {s : State} {acting : Nat} {r : Option RangeIx} (h : s.adminActs acting = true) :
    s.showsTo acting r = true := by
  simp [State.showsTo, h]

/-- The checks of a request over a range by a signed-in admin come to the request's own. -/
theorem judge_rangeChecks_admin {s : State} {acting : Nat} {r : RangeIx} {rest : List (Bool × ResultCode)}
    (h : s.adminActs acting = true) :
    judge (s.rangeChecks acting (some r) (namesAdmin acting) ++ rest) = judge rest := by
  obtain ⟨names, signed⟩ := State.adminActs_iff.mp h
  exact judge_rangeChecks_own (State.shows_of_adminActs h) signed names

theorem State.named_one {s : State} {r : RangeIx} (h0 : r ≠ 0) (hd : s.defined r = true) : s.named 1 r.val = some r :=
  State.named_val_self hd (least_le_val (Nat.le_refl 1) fun k => absurd k h0)

theorem State.named_zero {s : State} {r : RangeIx} (hd : s.defined r = true) : s.named 0 r.val = some r :=
  State.named_val_self hd (Nat.zero_le _)

/-- GRANT by a signed-in admin, of a keyed range to a signed-in user, taken up. -/
theorem execGrant_accepted {s : State} {hd : Header} {acting : Nat} {u : AuthIx} {r : RangeIx} {kek : Key} {P : State → Prop}
    (hs : s.TakesUp (.grant hd acting u.val r.val)) (ha : s.adminActs acting = true) (hu : isUser u = true) (h0 : r ≠ 0)
    (defined : s.defined r = true) (keyed : (s.rmg.ranges.get r).keyState = .keyed) (hk : s.rmg.keks.get u = some kek)
    (hp : ∀ m, s.lnk.Taken 1 m → P ((s.onLnk fun _ => m).grant hd u r kek).settle) :
    ∃ t, exec (.grant hd acting u.val r.val) s = .next t ∧ P t := by
  have named (m : Lnk) : (s.onLnk fun _ => m).named 1 r.val = some r := State.named_one h0 defined
  have sized : hd.sized = true := hs.2.2
  refine State.accepted hs (fun m _ => ?_) (fun m taken => ?_)
  · rw [named, judge_rangeChecks_admin (s := s.onLnk fun _ => m) ha]
    simp [judge, userAt_val hu, sized, keyed, hk]
  · simp only [named, userAt_val hu, State.onLnk_rmg, hk]
    exact hp m taken

theorem State.grant_places {s : State} {hd : Header} {u : AuthIx} {r : RangeIx} {kek key : Key} {p : EnvIx} {m : Lnk}
    (taken : s.lnk.Taken 1 m) (hn : s.envelopeAt u (.range r) = none) (hp : s.emptyPosition = some p)
    (hf : s.freeDeferred.isSome) (hk : s.keyOf r = some key) :
    let t := ((s.onLnk fun _ => m).grant hd u r kek).settle
    s.Deferring 0x15 hd.tag .rmg t ∧ s.KeepsWorking t ∧
      t.rmg.envelopes.get p = some { authority := u, target := .range r, wrapped := wrapped kek key } ∧
      (∀ q, q ≠ p → t.rmg.envelopes.get q = s.rmg.envelopes.get q) ∧ t.Marked (.envelope p) ∧
      Unchanged [.waiting, .deferred, .envelopes, .grants, .operation, .dirty] s t := by
  have free := State.freeDeferred_taken taken
  have at_ : (s.onLnk fun _ => m).envelopeAt u (.range r) = none := hn
  have position : (s.onLnk fun _ => m).emptyPosition = some p := hp
  have found : (s.onLnk fun _ => m).keyOf r = some key := hk
  simp only [State.grant, at_, position, found, free, Option.isNone_eq_false_iff.mpr hf, Option.isSome_none, if_false,
    Bool.false_eq_true]
  set u' := ((s.onLnk fun _ => m).putEnvelope p _).onRmg _ with hu'
  have defers := State.defers (kind := 0x15) (h := hd) (range := some r) (r := .envelope p) (rs := [])
    (done := { result := .ok, body := .position (some p) }) (fault := storeFault (.envelope p)) (s := s) (u := u')
    taken.waiting taken.deferred hf
  have granted : Unchanged [.grants] ((s.onLnk fun _ => m).putEnvelope p
      { authority := u, target := .range r, wrapped := wrapped kek key }) u' := by
    intro q hq; cases q <;> simp_all [Part.same]
  refine ⟨defers.deferring, defers.working, ?_, fun q hq => ?_, defers.marked _ (by simp), ?_⟩
  · exact (congrArg (Table.get · p) defers.envelopes).trans (Table.get_set_self _ _ _)
  · exact (congrArg (Table.get · q) defers.envelopes).trans (Table.get_set_ne _ _ (Ne.symm hq))
  · exact ((((State.taken_unchanged taken).append (State.putEnvelope_unchanged _ _ _)).append granted).append
      defers.frame).mono

/-- REVOKE by a signed-in admin of an envelope that exists, taken up. -/
theorem execRevoke_accepted {s : State} {hd : Header} {acting : Nat} {u : AuthIx} {r : RangeIx} {p : EnvIx} {P : State → Prop}
    (hs : s.TakesUp (.revoke hd acting u.val r.val)) (ha : s.adminActs acting = true) (hu : isUser u = true) (h0 : r ≠ 0)
    (defined : s.defined r = true) (hp : s.envelopeAt u (.range r) = some p) (hf : s.freeDeferred.isSome)
    (hP : ∀ m, s.lnk.Taken 1 m → P ((s.onLnk fun _ => m).revoke hd p r).settle) :
    ∃ t, exec (.revoke hd acting u.val r.val) s = .next t ∧ P t := by
  have named (m : Lnk) : (s.onLnk fun _ => m).named 1 r.val = some r := State.named_one h0 defined
  have revoked (m : Lnk) : (s.onLnk fun _ => m).revoked u.val (some r) = some p := by
    simp only [State.revoked, userAt_val hu]
    exact hp
  have sized : hd.sized = true := hs.2.2
  refine State.accepted hs (fun m taken => ?_) (fun m taken => ?_)
  · rw [named, revoked, judge_rangeChecks_admin (s := s.onLnk fun _ => m) ha, State.freeDeferred_taken taken]
    simp [judge, sized, hf]
  · simp only [named, revoked]
    exact hP m taken

theorem State.revoke_empties {s : State} {hd : Header} {r : RangeIx} {p : EnvIx} {m : Lnk} (taken : s.lnk.Taken 1 m)
    (hf : s.freeDeferred.isSome) :
    let t := ((s.onLnk fun _ => m).revoke hd p r).settle
    s.Deferring 0x16 hd.tag .rmg t ∧ s.KeepsWorking t ∧ t.rmg.envelopes.get p = none ∧
      (∀ q, q ≠ p → t.rmg.envelopes.get q = s.rmg.envelopes.get q) ∧ t.Marked (.envelope p) ∧
      Unchanged [.waiting, .deferred, .envelopes, .grants, .operation, .dirty] s t := by
  have defers := State.defers (kind := 0x16) (h := hd) (range := some r) (r := .envelope p) (rs := []) (done := .plain .ok)
    (fault := storeFault (.envelope p)) (s := s) (u := (s.onLnk fun _ => m).deleteEnvelopes [p]) taken.waiting
    taken.deferred hf
  have get (q : EnvIx) : ((s.onLnk fun _ => m).deleteEnvelopes [p]).rmg.envelopes.get q =
      if q = p then none else s.rmg.envelopes.get q := by simp [State.deleteEnvelopes]
  refine ⟨defers.deferring, defers.working, ?_, fun q hq => ?_, defers.marked _ (by simp), ?_⟩
  · exact (congrArg (Table.get · p) defers.envelopes).trans ((get p).trans (if_pos rfl))
  · exact (congrArg (Table.get · q) defers.envelopes).trans ((get q).trans (if_neg hq))
  · exact (((State.taken_unchanged taken).append (State.deleteEnvelopes_unchanged _ _)).append defers.frame).mono

/-- Settles O37: GRANT and REVOKE change one position of the envelopes; the marks and the deferred reply leave the rest. -/
theorem grantAndRevokeMoveOneEnvelope : Obligations.GrantAndRevokeMoveOneEnvelope := by
  intro s hd acting u r ha hu h0 defined
  refine ⟨fun kek key p hs keyed hk hn hp hf hkey => ?_, fun kek p hs keyed hk hp => ?_, fun p hs hp hf => ?_⟩
  · exact execGrant_accepted hs ha hu h0 defined keyed hk fun m taken => State.grant_places taken hn hp hf hkey
  · refine execGrant_accepted hs ha hu h0 defined keyed hk fun m taken => ?_
    have at_ : (s.onLnk fun _ => m).envelopeAt u (.range r) = some p := hp
    rw [State.grant, if_pos (by rw [at_]; rfl), at_]
    exact State.answered_only taken
  · exact execRevoke_accepted hs ha hu h0 defined hp hf fun m taken => State.revoke_empties taken hf

end Sys2Proof.Machine
end

section
/-! PROOFS. DEFINE_RANGE, MODIFY_RANGE and DELETE_RANGE (R10 to R13, R16). -/

namespace Sys2Proof.Machine

/-! ## One range opened (R15, R16) -/

/-- From `a` to `b` range `r` opens to `lock` with key `k`, and asks for an eager load if it has no slot; no other range changes. -/
structure State.Opened (r : RangeIx) (k : Key) (lock : LockState) (a b : State) : Prop where
  entry : b.rmg.ranges.get r = { a.rmg.ranges.get r with lock := lock, slot := (b.rmg.ranges.get r).slot }
  others : ∀ q, q ≠ r → b.rmg.ranges.get q = a.rmg.ranges.get q
  keys : b.rmg.rangeKeys = a.rmg.rangeKeys.set r (some k)
  link : b.lnk = a.lnk
  mapGen : b.rmg.mapGen = if a.model.bumped then a.rmg.mapGen else nextMapGen a.rmg.mapGen
  frame : Unchanged [.rangeKeys, .ranges, .slots, .lane, .mapGen] a b
  loads : (a.rmg.ranges.get r).slot = none → ∀ e t, Unchanged e b t →
    Part.ranges ∉ e ∧ Part.slots ∉ e ∧ Part.lane ∉ e ∧ Part.uptime ∉ e → t.Loads [r] a.kln.slots a.kln.queue a.kln.lane
  holds : (a.rmg.ranges.get r).slot.isSome → (b.rmg.ranges.get r).slot = (a.rmg.ranges.get r).slot ∧ b.kln = a.kln

theorem State.eagerLoad_keys (r : RangeIx) (s : State) : (s.eagerLoad r).rmg.rangeKeys = s.rmg.rangeKeys :=
  s.eagerLoad_unchanged r .rangeKeys (by decide)

theorem State.eagerLoad_mapGen (r : RangeIx) (s : State) : (s.eagerLoad r).rmg.mapGen = s.rmg.mapGen :=
  s.eagerLoad_unchanged r .mapGen (by decide)

theorem State.eagerLoad_model (r : RangeIx) (s : State) : (s.eagerLoad r).model = s.model := by
  unfold State.eagerLoad
  split
  · rfl
  · split <;> rfl

theorem State.eagerLoad_lnk (r : RangeIx) (s : State) : (s.eagerLoad r).lnk = s.lnk := by
  unfold State.eagerLoad
  split
  · rfl
  · split <;> rfl

theorem State.bump_lnk (s : State) : s.bump.lnk = s.lnk := by
  unfold State.bump
  split <;> rfl

theorem State.bump_keys (s : State) : s.bump.rmg.rangeKeys = s.rmg.rangeKeys := s.bump_unchanged .rangeKeys (by decide)

theorem State.bump_kln (s : State) : s.bump.kln = s.kln := by
  unfold State.bump
  split <;> rfl

theorem State.bump_mapGen_eq (s : State) :
    s.bump.rmg.mapGen = if s.model.bumped then s.rmg.mapGen else nextMapGen s.rmg.mapGen := by
  split
  · next h => rw [State.bump_of_bumped h]
  · next h => exact State.bump_mapGen (by simpa using h)

theorem State.opened (r : RangeIx) (k : Key) (lock : LockState) (a : State) :
    a.Opened r k lock ((a.openWith r k lock).eagerLoad r).bump := by
  have get (q : RangeIx) : ((a.openWith r k lock).eagerLoad r).bump.rmg.ranges.get q =
      ((a.openWith r k lock).eagerLoad r).rmg.ranges.get q := by rw [State.bump_ranges]
  have own : (a.openWith r k lock).rmg.ranges.get r = { a.rmg.ranges.get r with lock := lock } := by
    rw [State.openWith_get, if_pos rfl]
  have model : ((a.openWith r k lock).eagerLoad r).model = a.model := State.eagerLoad_model _ _
  refine ⟨?_, fun q hq => ?_, ?_, ?_, ?_, ?_, fun hs e t h he => ?_, fun hs => ?_⟩
  · rw [get]
    refine (State.eagerLoad_get r r _).trans ?_
    rw [if_pos rfl, own]
  · rw [get, State.eagerLoad_get, if_neg (Ne.symm hq), State.openWith_get, if_neg (Ne.symm hq)]
  · rw [State.bump_keys, State.eagerLoad_keys, State.openWith_keys]
  · rw [State.bump_lnk, State.eagerLoad_lnk]
    rfl
  · rw [State.bump_mapGen_eq, State.eagerLoad_mapGen, model]
    rfl
  · exact (((a.openWith_unchanged _ _ _).append (State.eagerLoad_unchanged _ _)).append (State.bump_unchanged _)).mono
  · obtain ⟨ranges, slots, lane, uptime⟩ := he
    refine State.eagerLoad_loads (s := a.openWith r k lock) (by rw [own]; exact hs) ((State.bump_unchanged _).append h) ?_
    simp [ranges, slots, lane, uptime]
  · have none_ : (a.openWith r k lock).eagerLoad r = a.openWith r k lock := by
      rw [State.eagerLoad, if_pos]
      rw [own]
      exact hs
    rw [none_, State.bump_ranges, State.bump_kln, own]
    exact ⟨rfl, rfl⟩

/-- What R16 makes of one range: opened, or as it was. -/
theorem State.openPlain_cases {from_ : LockState → Bool} {r : RangeIx} {k : Key} {a : State}
    (hk : a.opensPlain from_ r = true → (a.rmg.ranges.get r).deviceWrap = some (wrapped .device k)) :
    (a.opensPlain from_ r = true → a.Opened r k .opened (a.openPlain from_ [r])) ∧
      (a.opensPlain from_ r = false → a.openPlain from_ [r] = a) := by
  refine ⟨fun h => ?_, State.openPlain_closed⟩
  rw [State.openPlain_opens h (by rw [hk h]; exact unwrap_wrapped _ _)]
  exact a.opened r k .opened

/-! ## The deferred reply of several records -/

theorem State.defers_all {kind : Byte} {h : Header} {range : Option RangeIx} {rs : List RecordId} {done fault : Reply}
    {s u : State} (hw : u.lnk.waiting = none) (hd : u.lnk.deferred = s.lnk.deferred) (hf : s.freeDeferred.isSome)
    (hr : rs ≠ []) :
    s.Defers kind h.tag rs u ((u.deferWrites kind h .rmg range rs none done fault).markAll rs).settle := by
  obtain ⟨r, rest, rfl⟩ := List.exists_cons_of_ne_nil hr
  exact State.defers hw hd hf

/-! ## DEFINE_RANGE -/

/-- The state in which DEFINE_RANGE has entered its range, LOCKED with a fresh key, before R16. -/
def State.entered (r : RangeIx) (g : Geometry) (flags : RangeFlags) (domain : Key) (u : State) : State :=
  ((u.onRange r fun e => { e with geometry := some g, flags := flags, lock := .locked, slot := none }).freshKey domain r).bump

theorem State.defineRange_eq (hd : Header) (r : RangeIx) (g : Geometry) (flags : RangeFlags) (domain : Key) (u : State) :
    u.defineRange hd r g flags domain =
      ((((u.entered r g flags domain).openPlain LockState.isLocked [r]).deferWrites 0x20 hd .rmg (some r)
        [.rangeKey r, .range r] none
        { result := .ok
          body := .rangeDefined r
            (((u.entered r g flags domain).openPlain LockState.isLocked [r]).rmg.ranges.get r).generation }
        (storeFault (.range r))).markAll [.rangeKey r, .range r]) := rfl

theorem State.freshKey_get (domain : Key) (r q : RangeIx) (u : State) : (u.freshKey domain r).rmg.ranges.get q =
    if r = q then
      { u.rmg.ranges.get r with
        keyState := .keyed, generation := ((u.rmg.ranges.get r).generation + 1) % 65536
        domainWrap := some (wrapped domain (.drawn u.model.draws))
        deviceWrap := if (u.rmg.ranges.get r).flags.lockEnabled then none else some (wrapped .device (.drawn u.model.draws)) }
    else u.rmg.ranges.get q :=
  State.onRange_get r q
    (fun e =>
      { e with
        keyState := .keyed, generation := (e.generation + 1) % 65536
        domainWrap := some (wrapped domain (.drawn u.model.draws))
        deviceWrap := if e.flags.lockEnabled then none else some (wrapped .device (.drawn u.model.draws)) }) u.draw

/-- The entry of a range just entered over the unused entry `e`, its key the random value with number `n`. -/
def RangeEntry.enteredOver (e : RangeEntry) (g : Geometry) (flags : RangeFlags) (domain : Key) (n : Nat) : RangeEntry :=
  { geometry := some g, flags := flags, keyState := .keyed, generation := (e.generation + 1) % 65536
    domainWrap := some (wrapped domain (.drawn n))
    deviceWrap := if flags.lockEnabled then none else some (wrapped .device (.drawn n)), lock := .locked, slot := none }

theorem State.entered_get (r q : RangeIx) (g : Geometry) (flags : RangeFlags) (domain : Key) (u : State) :
    (u.entered r g flags domain).rmg.ranges.get q =
      if r = q then (u.rmg.ranges.get r).enteredOver g flags domain u.model.draws else u.rmg.ranges.get q := by
  rw [State.entered, State.bump_ranges, State.freshKey_get, State.onRange_get, State.onRange_get]
  by_cases h : r = q
  · rw [if_pos h, if_pos h, if_pos rfl]
    rfl
  · rw [if_neg h, if_neg h, if_neg h]

theorem State.entered_unchanged (r : RangeIx) (g : Geometry) (flags : RangeFlags) (domain : Key) (u : State) :
    Unchanged [.ranges, .draws, .mapGen] u (u.entered r g flags domain) :=
  (((State.onRange_unchanged _ _ _).append (State.freshKey_unchanged _ _ _)).append (State.bump_unchanged _)).mono

theorem State.bump_draws (s : State) : s.bump.model.draws = s.model.draws := s.bump_unchanged .draws (by decide)

theorem State.entered_draws (r : RangeIx) (g : Geometry) (flags : RangeFlags) (domain : Key) (u : State) :
    (u.entered r g flags domain).model.draws = u.model.draws + 1 := State.bump_draws _

theorem State.entered_bumped (r : RangeIx) (g : Geometry) (flags : RangeFlags) (domain : Key) (u : State) :
    (u.entered r g flags domain).model.bumped = true := State.bump_bumped _

theorem State.entered_mapGen {r : RangeIx} {g : Geometry} {flags : RangeFlags} {domain : Key} {u : State}
    (h : u.model.bumped = false) : (u.entered r g flags domain).rmg.mapGen = nextMapGen u.rmg.mapGen :=
  State.bump_mapGen h

theorem Level.opensPlain_iff (l : Level) : l.opensPlain = true ↔ l ≠ .alarm ∧ l ≠ .wiping := by
  cases l <;> simp [Level.opensPlain]

/-- A range just entered opens without sign-in where `lock_enabled` is false and the level permits. -/
theorem State.entered_opens (r : RangeIx) (g : Geometry) (flags : RangeFlags) (domain : Key) {u : State}
    (hw : u.thm.level ≠ .wiping) : (u.entered r g flags domain).opensPlain LockState.isLocked r =
      (decide (flags.lockEnabled = false ∧ u.thm.level ≠ .alarm)) := by
  have level : (u.entered r g flags domain).thm.level = u.thm.level :=
    u.entered_unchanged r g flags domain .level (by decide)
  have get := u.entered_get r r g flags domain
  rw [if_pos rfl] at get
  have defined : (u.entered r g flags domain).defined r = true := by simp [State.defined, get, RangeEntry.enteredOver]
  have permits : u.thm.level.opensPlain = decide (u.thm.level ≠ .alarm) := by
    rw [Bool.eq_iff_iff, Level.opensPlain_iff]
    simp [hw]
  rw [State.opensPlain, defined, get, level, permits]
  cases h : flags.lockEnabled <;> simp [LockState.isLocked, RangeEntry.enteredOver, h]

/-- DEFINE_RANGE by a signed-in admin, the guard passing, with a geometry that fits, taken up. -/
theorem execDefineRange_accepted {s : State} {hd : Header} {acting : Nat} {g : Geometry} {flags : RangeFlags} {r : RangeIx}
    {domain : Key} {P : State → Prop} (hs : s.TakesUp (.defineRange hd acting g flags)) (ha : s.adminActs acting = true)
    (hg : s.guardPasses hd.strap = true) (length : 1 ≤ g.length) (below : g.start + g.length ≤ s.sto.identity.capacity)
    (clear : s.clearOf g none = true) (hr : s.freeIndex = some r) (hk : s.rmg.domainKey = some domain)
    (hf : s.freeDeferred.isSome) (hp : ∀ m, s.lnk.Taken 1 m → P ((s.onLnk fun _ => m).defineRange hd r g flags domain).settle) :
    ∃ t, exec (.defineRange hd acting g flags) s = .next t ∧ P t := by
  have sized : hd.sized = true := hs.2.2
  have free (m : Lnk) : (s.onLnk fun _ => m).freeIndex = some r := hr
  obtain ⟨names, signed⟩ := State.adminActs_iff.mp ha
  have fits : g.below s.sto.identity.capacity = true := by simp [Geometry.below, Geometry.after, length, below]
  refine State.accepted hs (fun m taken => ?_) (fun m taken => ?_)
  · have signed : (s.onLnk fun _ => m).signedIn acting = true := signed
    have guard : (s.onLnk fun _ => m).guardPasses hd.strap = true := hg
    have clear : (s.onLnk fun _ => m).clearOf g none = true := clear
    simp [judge, names, signed, guard, clear, sized, fits, free, State.freeDeferred_taken taken, hf]
  · simp only [free, State.onLnk_rmg, hk]
    exact hp m taken

/-- What DEFINE_RANGE leaves. -/
theorem State.defineRange_spec {s t : State} {hd : Header} {g : Geometry} {flags : RangeFlags} {r : RangeIx} {domain : Key}
    {m : Lnk} (taken : s.lnk.Taken 1 m) (hw : s.thm.level ≠ .wiping) (hb : s.model.bumped = false)
    (hf : s.freeDeferred.isSome) (ht : t = ((s.onLnk fun _ => m).defineRange hd r g flags domain).settle) :
    ∃ lock, lock = (if flags.lockEnabled = false ∧ s.thm.level ≠ .alarm then LockState.opened else .locked) ∧
      t.rmg.ranges.get r =
        { geometry := some g, flags := flags, keyState := .keyed
          generation := ((s.rmg.ranges.get r).generation + 1) % 65536
          domainWrap := some (wrapped domain (.drawn s.model.draws))
          deviceWrap := if flags.lockEnabled then none else some (wrapped .device (.drawn s.model.draws))
          lock := lock, slot := (t.rmg.ranges.get r).slot } ∧
      (lock = .opened → t.rmg.rangeKeys.get r = some (.drawn s.model.draws) ∧
        t.Loads [r] s.kln.slots s.kln.queue s.kln.lane) ∧
      (lock = .locked → (t.rmg.ranges.get r).slot = none ∧ t.rmg.rangeKeys.get r = s.rmg.rangeKeys.get r ∧
        t.kln.slots = s.kln.slots) ∧
      (∀ q, q ≠ r → t.rmg.ranges.get q = s.rmg.ranges.get q ∧ t.rmg.rangeKeys.get q = s.rmg.rangeKeys.get q) ∧
      t.rmg.mapGen = nextMapGen s.rmg.mapGen ∧ s.Deferring 0x20 hd.tag .rmg t ∧ s.KeepsWorking t ∧
      t.Marked (.rangeKey r) ∧ t.Marked (.range r) ∧ t.model.draws = s.model.draws + 1 ∧
      Unchanged [.waiting, .deferred, .ranges, .rangeKeys, .mapGen, .slots, .lane, .operation, .dirty, .draws] s t := by
  obtain ⟨u, hu⟩ : ∃ u, u = s.onLnk fun _ => m := ⟨_, rfl⟩
  obtain ⟨a, ha⟩ : ∃ a, a = u.entered r g flags domain := ⟨_, rfl⟩
  obtain ⟨c, hc⟩ : ∃ c, c = a.openPlain LockState.isLocked [r] := ⟨_, rfl⟩
  have own : a.rmg.ranges.get r = (s.rmg.ranges.get r).enteredOver g flags domain s.model.draws :=
    ha ▸ hu ▸ ((s.onLnk fun _ => m).entered_get r r g flags domain).trans (if_pos rfl)
  have other {q : RangeIx} (h : q ≠ r) : a.rmg.ranges.get q = s.rmg.ranges.get q :=
    ha ▸ hu ▸ ((s.onLnk fun _ => m).entered_get r q g flags domain).trans (if_neg (Ne.symm h))
  have entered : Unchanged [.waiting, .ranges, .draws, .mapGen] s a :=
    ha ▸ hu ▸ ((State.taken_unchanged taken).append (State.entered_unchanged r g flags domain _)).mono
  have keys : a.rmg.rangeKeys = s.rmg.rangeKeys := entered .rangeKeys (by decide)
  have mapGen : a.rmg.mapGen = nextMapGen s.rmg.mapGen := ha ▸ hu ▸ State.entered_mapGen (u := s.onLnk fun _ => m) hb
  have bumped : a.model.bumped = true := ha ▸ u.entered_bumped r g flags domain
  have draws : a.model.draws = s.model.draws + 1 := ha ▸ hu ▸ State.entered_draws r g flags domain _
  have kln : a.kln = s.kln := ha ▸ hu ▸ State.bump_kln _
  have link : a.lnk = m := ha ▸ hu ▸ State.bump_lnk _
  have opens : a.opensPlain LockState.isLocked r = decide (flags.lockEnabled = false ∧ s.thm.level ≠ .alarm) :=
    ha ▸ hu ▸ State.entered_opens (u := s.onLnk fun _ => m) r g flags domain hw
  obtain ⟨open_, shut⟩ := State.openPlain_cases (from_ := LockState.isLocked) (r := r) (k := .drawn s.model.draws) (a := a)
    fun h => by
      rw [opens, decide_eq_true_eq] at h
      rw [own, RangeEntry.enteredOver, h.1]
      rfl
  rw [← hc] at open_ shut
  have tail (hl : c.lnk = a.lnk) : s.Defers 0x20 hd.tag [.rangeKey r, .range r] c t := by
    rw [ht, ← hu, State.defineRange_eq, ← ha, ← hc]
    exact State.defers (by rw [hl, link]; exact taken.waiting) (by rw [hl, link]; exact taken.deferred) hf
  clear ht hc ha hu
  by_cases h : flags.lockEnabled = false ∧ s.thm.level ≠ .alarm
  · have o := open_ (by rw [opens]; exact decide_eq_true h)
    have d := tail o.link
    have early : c.model.draws = a.model.draws := o.frame .draws (by decide)
    rw [d.ranges, d.rangeKeys, o.keys, keys, d.mapGen, o.mapGen, if_pos bumped, mapGen, d.draws, early, draws]
    refine ⟨.opened, (if_pos h).symm, o.entry.trans ?_, fun _ => ⟨Table.get_set_self _ _ _, ?_⟩, nofun,
      fun q hq => ⟨(o.others q hq).trans (other hq), Table.get_set_ne _ _ (Ne.symm hq)⟩, rfl, d.deferring, d.working,
      d.marked _ (by simp), d.marked _ (by simp), rfl, ((entered.append o.frame).append d.frame).mono⟩
    · rw [own]
      rfl
    · rw [← kln]
      exact o.loads (by rw [own]; rfl) _ _ d.frame (by decide)
  · have same := shut (by rw [opens]; exact decide_eq_false h)
    subst same
    have d := tail rfl
    rw [d.ranges, d.rangeKeys, keys, d.mapGen, mapGen, d.draws, draws, d.slots, kln]
    refine ⟨.locked, (if_neg h).symm, ?_, nofun, fun _ => ⟨by rw [own]; rfl, rfl, rfl⟩, fun q hq => ⟨other hq, rfl⟩, rfl,
      d.deferring, d.working, d.marked _ (by simp), d.marked _ (by simp), rfl, (entered.append d.frame).mono⟩
    rw [own]
    rfl

/-! ## DELETE_RANGE -/

/-- The state in which DELETE_RANGE has emptied the envelopes, the start-up sets and the entry, before its marks. -/
def State.withoutRange (r : RangeIx) (u : State) : State :=
  ((((u.deleteEnvelopes (u.envelopesWhere fun e => e.target == .range r)).onAut fun a =>
    { a with
      auth := a.auth.imap fun _ e =>
        { e with kept := { e.kept with startup := e.kept.startup.filter fun q => !(q == r) } } }).onRange r
    RangeEntry.deleted).bump)

theorem State.deleteRange_eq (hd : Header) (r : RangeIx) (u : State) (records : List RecordId)
    (h : records = (u.envelopesWhere fun e => e.target == .range r).map RecordId.envelope ++
      (u.listing r).map RecordId.authority ++ [.rangeKey r, .range r]) :
    u.deleteRange hd r = ((u.withoutRange r).deferWrites 0x22 hd .rmg (some r) records none (.plain .ok)
      (storeFault (.range r))).markAll records := by
  subst h
  rfl

theorem State.mem_envelopesWhere {s : State} {q : Envelope → Bool} {p : EnvIx} :
    p ∈ s.envelopesWhere q ↔ ∃ e, s.rmg.envelopes.get p = some e ∧ q e = true := by
  simp [State.envelopesWhere, Table.positions, Option.any_eq_true]

theorem State.mem_listing {s : State} {r : RangeIx} {a : AuthIx} :
    a ∈ s.listing r ↔ r ∈ (s.aut.auth.get a).kept.startup := by
  simp [State.listing, Table.positions]

theorem State.withoutRange_get (r q : RangeIx) (u : State) : (u.withoutRange r).rmg.ranges.get q =
    if r = q then (u.rmg.ranges.get r).deleted else u.rmg.ranges.get q := by
  rw [State.withoutRange, State.bump_ranges, State.onRange_get]
  rfl

theorem State.bump_envelopes (s : State) : s.bump.rmg.envelopes = s.rmg.envelopes := s.bump_unchanged .envelopes (by decide)

theorem State.bump_auth (s : State) : s.bump.aut.auth = s.aut.auth := s.bump_unchanged .authorities (by decide)

theorem State.deleteEnvelopes_get (ps : List EnvIx) (p : EnvIx) (s : State) :
    (s.deleteEnvelopes ps).rmg.envelopes.get p = if p ∈ ps then none else s.rmg.envelopes.get p := by
  simp [State.deleteEnvelopes]

theorem State.withoutRange_envelope (r : RangeIx) (p : EnvIx) (u : State) : (u.withoutRange r).rmg.envelopes.get p =
    if p ∈ u.envelopesWhere (fun e => e.target == .range r) then none else u.rmg.envelopes.get p := by
  rw [State.withoutRange, State.bump_envelopes]
  exact State.deleteEnvelopes_get _ _ _

theorem State.withoutRange_auth (r : RangeIx) (a : AuthIx) (u : State) : (u.withoutRange r).aut.auth.get a =
    { u.aut.auth.get a with
      kept := { (u.aut.auth.get a).kept with startup := (u.aut.auth.get a).kept.startup.filter fun q => !(q == r) } } := by
  rw [State.withoutRange, State.bump_auth]
  exact Table.get_imap _ _ _

theorem State.dropStartup_unchanged (r : RangeIx) (s : State) : Unchanged [.authorities] s (s.onAut fun a =>
    { a with
      auth := a.auth.imap fun _ e =>
        { e with kept := { e.kept with startup := e.kept.startup.filter fun q => !(q == r) } } }) := by
  intro p hp; cases p <;> simp_all [Part.same]

theorem State.withoutRange_unchanged (r : RangeIx) (u : State) :
    Unchanged [.ranges, .envelopes, .grants, .authorities, .mapGen] u (u.withoutRange r) :=
  ((((State.deleteEnvelopes_unchanged _ _).append (State.dropStartup_unchanged r _)).append
    (State.onRange_unchanged _ _ _)).append (State.bump_unchanged _)).mono

/-- DELETE_RANGE of a LOCKED range by a signed-in admin, the guard passing, taken up. -/
theorem execDeleteRange_accepted {s : State} {hd : Header} {acting : Nat} {r : RangeIx} {P : State → Prop}
    (hs : s.TakesUp (.deleteRange hd acting r.val)) (ha : s.adminActs acting = true) (hg : s.guardPasses hd.strap = true)
    (h0 : r ≠ 0) (defined : s.defined r = true) (locked : (s.rmg.ranges.get r).lock = .locked) (hf : s.freeDeferred.isSome)
    (hp : ∀ m, s.lnk.Taken 1 m → P ((s.onLnk fun _ => m).deleteRange hd r).settle) :
    ∃ t, exec (.deleteRange hd acting r.val) s = .next t ∧ P t := by
  have named (m : Lnk) : (s.onLnk fun _ => m).named 1 r.val = some r := State.named_one h0 defined
  have sized : hd.sized = true := hs.2.2
  refine State.accepted hs (fun m taken => ?_) (fun m taken => ?_)
  · have guard : (s.onLnk fun _ => m).guardPasses hd.strap = true := hg
    rw [named, judge_rangeChecks_admin (s := s.onLnk fun _ => m) ha, State.freeDeferred_taken taken]
    simp [judge, guard, sized, locked, hf]
  · simp only [named]
    exact hp m taken

/-- What DELETE_RANGE leaves. -/
theorem State.deleteRange_spec {s t : State} {hd : Header} {r : RangeIx} {m : Lnk} (taken : s.lnk.Taken 1 m)
    (hb : s.model.bumped = false) (hf : s.freeDeferred.isSome)
    (ht : t = ((s.onLnk fun _ => m).deleteRange hd r).settle) :
    t.rmg.ranges.get r = { RangeEntry.bare with generation := (s.rmg.ranges.get r).generation } ∧
      (∀ q, q ≠ r → t.rmg.ranges.get q = s.rmg.ranges.get q) ∧
      (∀ p e, s.rmg.envelopes.get p = some e → e.target = .range r →
        t.rmg.envelopes.get p = none ∧ t.Marked (.envelope p)) ∧
      (∀ p, (∀ e, s.rmg.envelopes.get p = some e → e.target ≠ .range r) →
        t.rmg.envelopes.get p = s.rmg.envelopes.get p) ∧
      (∀ a, (t.aut.auth.get a).signedIn = (s.aut.auth.get a).signedIn ∧
        (t.aut.auth.get a).kept = { (s.aut.auth.get a).kept with
          startup := (s.aut.auth.get a).kept.startup.filter fun q => !(q == r) } ∧
        (r ∈ (s.aut.auth.get a).kept.startup → t.Marked (.authority a))) ∧
      t.rmg.mapGen = nextMapGen s.rmg.mapGen ∧ s.Deferring 0x22 hd.tag .rmg t ∧ s.KeepsWorking t ∧
      t.Marked (.rangeKey r) ∧ t.Marked (.range r) ∧
      Unchanged [.waiting, .deferred, .ranges, .envelopes, .grants, .authorities, .mapGen, .operation, .dirty] s t := by
  obtain ⟨u, hu⟩ : ∃ u, u = s.onLnk fun _ => m := ⟨_, rfl⟩
  obtain ⟨a, ha⟩ : ∃ a, a = u.withoutRange r := ⟨_, rfl⟩
  obtain ⟨records, hrec⟩ : ∃ records, records = (u.envelopesWhere fun e => e.target == .range r).map RecordId.envelope ++
    (u.listing r).map RecordId.authority ++ [.rangeKey r, .range r] := ⟨_, rfl⟩
  have gone {p : EnvIx} : p ∈ u.envelopesWhere (fun e => e.target == .range r) ↔
      ∃ e, s.rmg.envelopes.get p = some e ∧ e.target = .range r := by
    rw [hu, State.mem_envelopesWhere]
    simp
  have listed {b : AuthIx} : b ∈ u.listing r ↔ r ∈ (s.aut.auth.get b).kept.startup := by
    rw [hu, State.mem_listing]
    rfl
  have get (q : RangeIx) : a.rmg.ranges.get q = if r = q then (s.rmg.ranges.get r).deleted else s.rmg.ranges.get q :=
    ha ▸ hu ▸ State.withoutRange_get r q _
  have envelope (p : EnvIx) : a.rmg.envelopes.get p =
      if p ∈ u.envelopesWhere (fun e => e.target == .range r) then none else s.rmg.envelopes.get p :=
    ha ▸ hu ▸ State.withoutRange_envelope r p _
  have auth (b : AuthIx) : a.aut.auth.get b = { s.aut.auth.get b with
      kept := { (s.aut.auth.get b).kept with startup := (s.aut.auth.get b).kept.startup.filter fun q => !(q == r) } } :=
    ha ▸ hu ▸ State.withoutRange_auth r b _
  have mapGen : a.rmg.mapGen = nextMapGen s.rmg.mapGen := ha ▸ hu ▸ State.bump_mapGen hb
  have link : a.lnk = m := ha ▸ hu ▸ State.bump_lnk _
  have frame : Unchanged [.waiting, .ranges, .envelopes, .grants, .authorities, .mapGen] s a :=
    ha ▸ hu ▸ ((State.taken_unchanged taken).append (State.withoutRange_unchanged r _)).mono
  have d : s.Defers 0x22 hd.tag records a t := by
    rw [ht, ← hu, State.deleteRange_eq hd r u records hrec, ← ha]
    exact State.defers_all (by rw [link]; exact taken.waiting) (by rw [link]; exact taken.deferred) hf (by simp [hrec])
  clear ht ha
  rw [d.ranges, d.envelopes, d.mapGen, mapGen, d.authorities]
  refine ⟨(get r).trans (if_pos rfl), fun q hq => (get q).trans (if_neg (Ne.symm hq)), fun p e he target => ?_,
    fun p other => ?_, fun b => ?_, rfl, d.deferring, d.working, d.marked _ (by simp [hrec]), d.marked _ (by simp [hrec]),
    (frame.append d.frame).mono⟩
  · have mem := gone.mpr ⟨e, he, target⟩
    exact ⟨(envelope p).trans (if_pos mem), d.marked _ (by simp [hrec, mem])⟩
  · refine (envelope p).trans (if_neg fun mem => ?_)
    obtain ⟨e, he, target⟩ := gone.mp mem
    exact other e he target
  · rw [auth]
    exact ⟨rfl, rfl, fun h => d.marked _ (by simp [hrec, listed.mpr h])⟩

/-- Settles O38: the entry made or unmade first, then R16 for a range just entered, then the deferred reply and the marks. -/
theorem defineAndDeleteRanges : Obligations.DefineAndDeleteRanges := by
  refine ⟨fun s hd acting g flags r domain hs hb ha hg length below clear hr hk hf => ?_,
    fun s hd acting r hs hb ha hg h0 defined locked hf => ?_⟩
  · obtain ⟨t, run, m, taken, ht⟩ := execDefineRange_accepted (P := fun t => ∃ m, s.lnk.Taken 1 m ∧
        t = ((s.onLnk fun _ => m).defineRange hd r g flags domain).settle) hs ha hg length below clear hr hk hf
      fun m taken => ⟨m, taken, rfl⟩
    obtain ⟨lock, spec⟩ := State.defineRange_spec taken hs.2.1 hb hf ht
    exact ⟨t, lock, run, spec⟩
  · exact execDeleteRange_accepted hs ha hg h0 defined locked hf fun m taken => State.deleteRange_spec taken hb hf rfl

end Sys2Proof.Machine
end

section
/-! PROOFS. MODIFY_RANGE and MODIFY_RANGE_GEOMETRY (R11, R12). -/

namespace Sys2Proof.Machine

/-- An entry as MODIFY_RANGE leaves it before R16, `key` the key of the device wrap made. -/
def RangeEntry.modified (e : RangeEntry) (flags : Option RangeFlags) (geometry : Option Geometry) (key : Option Key) :
    RangeEntry :=
  { e with
    flags := flags.getD e.flags
    geometry := geometry.or e.geometry
    deviceWrap := if locksPlain e flags then none else (key.map (wrapped .device)).or e.deviceWrap }

/-- The state in which MODIFY_RANGE has changed its entry, before R16. -/
def State.remade (r : RangeIx) (flags : Option RangeFlags) (geometry : Option Geometry) (key : Option Key) (u : State) : State :=
  (u.onRange r fun e => e.modified flags geometry key).bump

/-- The records MODIFY_RANGE marks (R11, R12). -/
def modifiedRecords (r : RangeIx) (e : RangeEntry) (flags : Option RangeFlags) (key : Option Key) : List RecordId :=
  (if locksPlain e flags || key.isSome then [RecordId.rangeKey r] else []) ++ [.range r]

theorem State.modifyRange_eq (hd : Header) (r : RangeIx) (flags : Option RangeFlags) (geometry : Option Geometry)
    (key : Option Key) {u c : State}
    (hc : c = if unlocksPlain (u.rmg.ranges.get r) flags then
      (u.remade r flags geometry key).openPlain LockState.lockedOrReadOnly [r] else u.remade r flags geometry key) :
    u.modifyRange hd r flags geometry key =
      (c.deferWrites 0x21 hd .rmg (some r) (modifiedRecords r (u.rmg.ranges.get r) flags key) none (.plain .ok)
        (storeFault (.range r))).markAll (modifiedRecords r (u.rmg.ranges.get r) flags key) := by
  subst hc
  cases geometry <;> cases key <;> rfl

theorem State.remade_get (r q : RangeIx) (flags : Option RangeFlags) (geometry : Option Geometry) (key : Option Key) (u : State) :
    (u.remade r flags geometry key).rmg.ranges.get q =
      if r = q then (u.rmg.ranges.get r).modified flags geometry key else u.rmg.ranges.get q := by
  rw [State.remade, State.bump_ranges]
  exact State.onRange_get _ _ _ _

/-- MODIFY_RANGE opens its range: the flags let it, it is KEYED, and its lock state and the level permit (R11). -/
def State.modifyOpens (s : State) (r : RangeIx) (flags : Option RangeFlags) : Prop :=
  unlocksPlain (s.rmg.ranges.get r) flags = true ∧ (s.rmg.ranges.get r).keyState = .keyed ∧
    ((s.rmg.ranges.get r).lock = .locked ∨ (s.rmg.ranges.get r).lock = .readOnly) ∧ s.thm.level ≠ .alarm

theorem LockState.lockedOrReadOnly_iff (l : LockState) : l.lockedOrReadOnly = true ↔ l = .locked ∨ l = .readOnly := by
  simp [LockState.lockedOrReadOnly]

theorem unlocksPlain_iff {e : RangeEntry} {flags : Option RangeFlags} :
    unlocksPlain e flags = true ↔ ∃ f, flags = some f ∧ e.flags.lockEnabled = true ∧ f.lockEnabled = false := by
  cases flags <;> simp [unlocksPlain]

theorem locksPlain_of_unlocksPlain {e : RangeEntry} {flags : Option RangeFlags} (h : unlocksPlain e flags = true) :
    locksPlain e flags = false := by
  obtain ⟨f, rfl, enabled, -⟩ := unlocksPlain_iff.mp h
  simp [locksPlain, enabled]

/-- A flags change that lets a range open makes its device wrap, where there is a key to wrap. -/
theorem RangeEntry.modified_wrap {e : RangeEntry} {flags : Option RangeFlags} {k : Key} (geometry : Option Geometry)
    (h : unlocksPlain e flags = true) : (e.modified flags geometry (some k)).deviceWrap = some (wrapped .device k) := by
  simp [RangeEntry.modified, locksPlain_of_unlocksPlain h]

/-- What comes before R16 in MODIFY_RANGE, and what R16 makes of the range. -/
theorem State.remade_opens {r : RangeIx} {flags : Option RangeFlags} {geometry : Option Geometry} {k : Key} {u : State}
    (defined : u.defined r = true) (hw : u.thm.level ≠ .wiping) (h : u.modifyOpens r flags) :
    (u.remade r flags geometry (some k)).opensPlain LockState.lockedOrReadOnly r = true := by
  obtain ⟨unlocks, keyed, lock, level⟩ := h
  obtain ⟨f, rfl, -, plain⟩ := unlocksPlain_iff.mp unlocks
  have get := u.remade_get r r (some f) geometry (some k)
  rw [if_pos rfl] at get
  have wrap := RangeEntry.modified_wrap (k := k) geometry unlocks
  have defined' : (u.remade r (some f) geometry (some k)).defined r = true := by
    rw [State.defined, get]
    simp only [State.defined, Bool.or_eq_true] at defined ⊢
    exact defined.imp_right fun h => by simp [RangeEntry.modified, h]
  have level' : (u.remade r (some f) geometry (some k)).thm.level.opensPlain = true := by
    have same : (u.remade r (some f) geometry (some k)).thm.level = u.thm.level :=
      ((u.onRange_unchanged r _).append (State.bump_unchanged _)) .level (by decide)
    rw [same, Level.opensPlain_iff]
    exact ⟨level, hw⟩
  rw [State.opensPlain, defined', level', get, wrap]
  have lock' : ((u.rmg.ranges.get r).modified (some f) geometry (some k)).lock.lockedOrReadOnly = true :=
    (LockState.lockedOrReadOnly_iff _).mpr lock
  rw [lock']
  simp [RangeEntry.modified, plain, keyed]

theorem State.remade_shut {r : RangeIx} {flags : Option RangeFlags} {geometry : Option Geometry} {key : Option Key} {u : State}
    (unlocks : unlocksPlain (u.rmg.ranges.get r) flags = true) (h : ¬ u.modifyOpens r flags) :
    (u.remade r flags geometry key).opensPlain LockState.lockedOrReadOnly r = false := by
  have get := u.remade_get r r flags geometry key
  rw [if_pos rfl] at get
  have level : (u.remade r flags geometry key).thm.level = u.thm.level :=
    ((u.onRange_unchanged r _).append (State.bump_unchanged _)) .level (by decide)
  rw [Bool.eq_false_iff]
  intro opens
  simp only [State.opensPlain, Bool.and_eq_true, get, level, beq_iff_eq] at opens
  obtain ⟨⟨⟨⟨-, keyed⟩, -⟩, permits⟩, lock⟩ := opens
  exact h ⟨unlocks, keyed, (LockState.lockedOrReadOnly_iff _).mp lock, ((Level.opensPlain_iff _).mp permits).1⟩

section
variable {s t : State} {hd : Header} {r : RangeIx} {flags : Option RangeFlags} {geometry : Option Geometry} {key : Option Key}
  {m : Lnk}

/-- What MODIFY_RANGE leaves in every case. -/
structure State.Modifies (hd : Header) (r : RangeIx) (flags : Option RangeFlags) (geometry : Option Geometry) (key : Option Key)
    (s t : State) : Prop where
  others : ∀ q, q ≠ r → t.rmg.ranges.get q = s.rmg.ranges.get q ∧ t.rmg.rangeKeys.get q = s.rmg.rangeKeys.get q
  mapGen : t.rmg.mapGen = nextMapGen s.rmg.mapGen
  deferring : s.Deferring 0x21 hd.tag .rmg t
  working : s.KeepsWorking t
  marked : ∀ q ∈ modifiedRecords r (s.rmg.ranges.get r) flags key, t.Marked q

/-- MODIFY_RANGE that opens nothing. -/
theorem State.modifyRange_shut (taken : s.lnk.Taken 1 m) (hb : s.model.bumped = false) (hf : s.freeDeferred.isSome)
    (h : ¬ s.modifyOpens r flags) (ht : t = ((s.onLnk fun _ => m).modifyRange hd r flags geometry key).settle) :
    s.Modifies hd r flags geometry key t ∧ t.rmg.ranges.get r = (s.rmg.ranges.get r).modified flags geometry key ∧
      t.rmg.rangeKeys = s.rmg.rangeKeys ∧
      Unchanged [.waiting, .deferred, .ranges, .mapGen, .operation, .dirty] s t := by
  obtain ⟨u, hu⟩ : ∃ u, u = s.onLnk fun _ => m := ⟨_, rfl⟩
  obtain ⟨a, ha⟩ : ∃ a, a = u.remade r flags geometry key := ⟨_, rfl⟩
  have get (q : RangeIx) : a.rmg.ranges.get q =
      if r = q then (s.rmg.ranges.get r).modified flags geometry key else s.rmg.ranges.get q :=
    ha ▸ hu ▸ State.remade_get r q flags geometry key _
  have frame : Unchanged [.waiting, .ranges, .mapGen] s a :=
    ha ▸ hu ▸ ((State.taken_unchanged taken).append ((State.onRange_unchanged _ _ _).append (State.bump_unchanged _))).mono
  have keys : a.rmg.rangeKeys = s.rmg.rangeKeys := frame .rangeKeys (by decide)
  have mapGen : a.rmg.mapGen = nextMapGen s.rmg.mapGen := ha ▸ hu ▸ State.bump_mapGen hb
  have link : a.lnk = m := ha ▸ hu ▸ State.bump_lnk _
  have same : a = if unlocksPlain (u.rmg.ranges.get r) flags then
      (u.remade r flags geometry key).openPlain LockState.lockedOrReadOnly [r] else u.remade r flags geometry key := by
    split
    · next unlocks =>
      rw [State.openPlain_closed (State.remade_shut unlocks (hu ▸ h)), ha]
    · exact ha
  have d : s.Defers 0x21 hd.tag (modifiedRecords r (s.rmg.ranges.get r) flags key) a t := by
    rw [ht, ← hu, State.modifyRange_eq hd r flags geometry key same, hu]
    exact State.defers_all (by rw [link]; exact taken.waiting) (by rw [link]; exact taken.deferred) hf
      (by simp [modifiedRecords])
  clear ht same ha
  refine ⟨⟨fun q hq => ?_, d.mapGen.trans mapGen, d.deferring, d.working, d.marked⟩, ?_, d.rangeKeys.trans keys,
    (frame.append d.frame).mono⟩
  · rw [d.ranges, d.rangeKeys, keys, get, if_neg (Ne.symm hq)]
    exact ⟨rfl, rfl⟩
  · rw [d.ranges, get, if_pos rfl]

/-- MODIFY_RANGE that opens its range. -/
theorem State.modifyRange_opens {k : Key} (taken : s.lnk.Taken 1 m) (hb : s.model.bumped = false) (hf : s.freeDeferred.isSome)
    (defined : s.defined r = true) (hw : s.thm.level ≠ .wiping) (h : s.modifyOpens r flags)
    (ht : t = ((s.onLnk fun _ => m).modifyRange hd r flags geometry (some k)).settle) :
    s.Modifies hd r flags geometry (some k) t ∧
      t.rmg.ranges.get r = { (s.rmg.ranges.get r).modified flags geometry (some k) with
        lock := .opened, slot := (t.rmg.ranges.get r).slot } ∧
      t.rmg.rangeKeys.get r = some k ∧
      ((s.rmg.ranges.get r).slot = none → t.Loads [r] s.kln.slots s.kln.queue s.kln.lane) ∧
      ((s.rmg.ranges.get r).slot.isSome → (t.rmg.ranges.get r).slot = (s.rmg.ranges.get r).slot ∧
        t.Loads [] s.kln.slots s.kln.queue s.kln.lane) ∧
      Unchanged [.waiting, .deferred, .ranges, .rangeKeys, .mapGen, .slots, .lane, .operation, .dirty] s t := by
  obtain ⟨u, hu⟩ : ∃ u, u = s.onLnk fun _ => m := ⟨_, rfl⟩
  obtain ⟨a, ha⟩ : ∃ a, a = u.remade r flags geometry (some k) := ⟨_, rfl⟩
  obtain ⟨c, hc⟩ : ∃ c, c = a.openPlain LockState.lockedOrReadOnly [r] := ⟨_, rfl⟩
  have get (q : RangeIx) : a.rmg.ranges.get q =
      if r = q then (s.rmg.ranges.get r).modified flags geometry (some k) else s.rmg.ranges.get q :=
    ha ▸ hu ▸ State.remade_get r q flags geometry (some k) _
  have frame : Unchanged [.waiting, .ranges, .mapGen] s a :=
    ha ▸ hu ▸ ((State.taken_unchanged taken).append ((State.onRange_unchanged _ _ _).append (State.bump_unchanged _))).mono
  have keys : a.rmg.rangeKeys = s.rmg.rangeKeys := frame .rangeKeys (by decide)
  have mapGen : a.rmg.mapGen = nextMapGen s.rmg.mapGen := ha ▸ hu ▸ State.bump_mapGen hb
  have bumped : a.model.bumped = true := ha ▸ State.bump_bumped _
  have kln : a.kln = s.kln := ha ▸ hu ▸ State.bump_kln _
  have link : a.lnk = m := ha ▸ hu ▸ State.bump_lnk _
  have opens : a.opensPlain LockState.lockedOrReadOnly r = true :=
    ha ▸ hu ▸ State.remade_opens (u := s.onLnk fun _ => m) defined hw h
  have own : a.rmg.ranges.get r = (s.rmg.ranges.get r).modified flags geometry (some k) := (get r).trans (if_pos rfl)
  have o : a.Opened r k .opened c := hc ▸ (State.openPlain_cases fun _ => by
    rw [own]
    exact RangeEntry.modified_wrap geometry h.1).1 opens
  have d : s.Defers 0x21 hd.tag (modifiedRecords r (s.rmg.ranges.get r) flags (some k)) c t := by
    have chosen : c = if unlocksPlain (u.rmg.ranges.get r) flags then
        (u.remade r flags geometry (some k)).openPlain LockState.lockedOrReadOnly [r]
        else u.remade r flags geometry (some k) := by
      rw [if_pos (hu ▸ h.1), ← ha, hc]
    rw [ht, ← hu, State.modifyRange_eq hd r flags geometry (some k) chosen, hu]
    exact State.defers_all (by rw [o.link, link]; exact taken.waiting) (by rw [o.link, link]; exact taken.deferred) hf
      (by simp [modifiedRecords])
  clear ht ha hc
  have slot : (a.rmg.ranges.get r).slot = (s.rmg.ranges.get r).slot := by
    rw [own]
    rfl
  refine ⟨⟨fun q hq => ?_, ?_, d.deferring, d.working, d.marked⟩, ?_, ?_, fun none_ => ?_, fun some_ => ?_,
    ((frame.append o.frame).append d.frame).mono⟩
  · rw [d.ranges, d.rangeKeys, o.keys, keys, o.others q hq, get, if_neg (Ne.symm hq), Table.get_set_ne _ _ (Ne.symm hq)]
    exact ⟨rfl, rfl⟩
  · rw [d.mapGen, o.mapGen, if_pos bumped, mapGen]
  · rw [d.ranges]
    refine o.entry.trans ?_
    rw [own]
  · rw [d.rangeKeys, o.keys, Table.get_set_self]
  · rw [← kln]
    exact o.loads (slot.trans none_) _ _ d.frame (by decide)
  · obtain ⟨held, kln'⟩ := o.holds (by rw [slot]; exact some_)
    refine ⟨by rw [d.ranges, held, slot], ?_⟩
    rw [← kln, ← kln']
    exact State.loads_nil d.frame
end

/-! ## Taken up -/

/-- The checks of MODIFY_RANGE pass for a signed-in admin, the guard open, with flags and geometry that fit. -/
theorem State.modifyChecks_pass {s : State} {hd : Header} {acting : Nat} {r : RangeIx} {flags : Option RangeFlags}
    {geometry : Option Geometry} {m : Lnk} (taken : s.lnk.Taken 1 m) (ha : s.adminActs acting = true)
    (hg : s.guardPasses hd.strap = true) (sized : hd.sized = true) (fits : flags.all (flagsFit (some r)) = true)
    (geometryFits : ∀ g, geometry = some g → (s.rmg.ranges.get r).lock = .locked ∧ 1 ≤ g.length ∧
      g.start + g.length ≤ s.sto.identity.capacity ∧ s.clearOf g (some r) = true)
    (hf : s.freeDeferred.isSome) :
    judge ((s.onLnk fun _ => m).modifyChecks hd acting (some r) flags geometry) = none := by
  have guard : (s.onLnk fun _ => m).guardPasses hd.strap = true := hg
  rw [State.modifyChecks, judge_rangeChecks_admin (s := s.onLnk fun _ => m) ha, State.freeDeferred_taken taken]
  cases geometry with
  | none => simp [judge, guard, sized, fits, hf]
  | some g =>
    obtain ⟨locked, length, below, clear⟩ := geometryFits g rfl
    have clear : (s.onLnk fun _ => m).clearOf g (some r) = true := clear
    simp [judge, guard, sized, fits, hf, locked, clear, Geometry.below, Geometry.after, length, below]

theorem flagsFit_some {r : RangeIx} {f : RangeFlags} (h : r = 0 → f.conceal = false ∧ f.concealOnWary = false) :
    flagsFit (some r) f = true := by
  by_cases h0 : r = 0
  · simp [flagsFit, h h0]
  · simp [flagsFit, h0]

theorem execModifyRange_accepted {s : State} {hd : Header} {acting : Nat} {r : RangeIx} {flags : RangeFlags}
    {geometry : Option Geometry} {P : State → Prop} (hs : s.TakesUp (.modifyRange hd acting r.val flags geometry))
    (ha : s.adminActs acting = true) (hg : s.guardPasses hd.strap = true) (defined : s.defined r = true)
    (fits : r = 0 → flags.conceal = false ∧ flags.concealOnWary = false)
    (geometryFits : ∀ g, geometry = some g → r ≠ 0 ∧ (s.rmg.ranges.get r).lock = .locked ∧ 1 ≤ g.length ∧
      g.start + g.length ≤ s.sto.identity.capacity ∧ s.clearOf g (some r) = true)
    (hf : s.freeDeferred.isSome)
    (hp : ∀ m, s.lnk.Taken 1 m → P ((s.onLnk fun _ => m).modify hd r (some flags) geometry).settle) :
    ∃ t, exec (.modifyRange hd acting r.val flags geometry) s = .next t ∧ P t := by
  have named (m : Lnk) : (s.onLnk fun _ => m).named (if geometry.isSome then 1 else 0) r.val = some r := by
    cases geometry with
    | none => exact State.named_zero (s := s) defined
    | some g => exact State.named_one (s := s) (geometryFits g rfl).1 defined
  refine State.accepted hs (fun m taken => ?_) (fun m taken => ?_)
  · rw [named]
    exact State.modifyChecks_pass taken ha hg hs.2.2 (flagsFit_some fits) (fun g h => (geometryFits g h).2) hf
  · simp only [named]
    exact hp m taken

theorem execModifyRangeGeometry_accepted {s : State} {hd : Header} {acting : Nat} {r : RangeIx} {g : Geometry}
    {P : State → Prop} (hs : s.TakesUp (.modifyRangeGeometry hd acting r.val g)) (ha : s.adminActs acting = true)
    (hg : s.guardPasses hd.strap = true) (h0 : r ≠ 0) (defined : s.defined r = true)
    (locked : (s.rmg.ranges.get r).lock = .locked) (length : 1 ≤ g.length)
    (below : g.start + g.length ≤ s.sto.identity.capacity) (clear : s.clearOf g (some r) = true)
    (hf : s.freeDeferred.isSome)
    (hp : ∀ m, s.lnk.Taken 1 m → P ((s.onLnk fun _ => m).modify hd r none (some g)).settle) :
    ∃ t, exec (.modifyRangeGeometry hd acting r.val g) s = .next t ∧ P t := by
  have named (m : Lnk) : (s.onLnk fun _ => m).named 1 r.val = some r := State.named_one h0 defined
  refine State.accepted hs (fun m taken => ?_) (fun m taken => ?_)
  · rw [named]
    refine State.modifyChecks_pass taken ha hg hs.2.2 rfl (fun k hk => ?_) hf
    cases hk
    exact ⟨locked, length, below, clear⟩
  · simp only [named]
    exact hp m taken

/-- MODIFY_RANGE takes the range's key where it has a device wrap to make, and none otherwise. -/
theorem State.modify_eq {s : State} {hd : Header} {r : RangeIx} {flags : Option RangeFlags} {geometry : Option Geometry} {m : Lnk} :
    (∀ k, unlocksPlain (s.rmg.ranges.get r) flags = true → (s.rmg.ranges.get r).keyState = .keyed → s.keyOf r = some k →
      (s.onLnk fun _ => m).modify hd r flags geometry = (s.onLnk fun _ => m).modifyRange hd r flags geometry (some k)) ∧
    (unlocksPlain (s.rmg.ranges.get r) flags = false ∨ (s.rmg.ranges.get r).keyState ≠ .keyed →
      (s.onLnk fun _ => m).modify hd r flags geometry = (s.onLnk fun _ => m).modifyRange hd r flags geometry none) := by
  refine ⟨fun k unlocks keyed hk => ?_, fun h => ?_⟩
  · have key : (s.onLnk fun _ => m).keyOf r = some k := hk
    rw [State.modify]
    simp [unlocks, keyed, key]
  · rw [State.modify]
    rcases h with h | h <;> simp [h]

/-- What a flags change sets in every case, whatever R16 then makes of the lock and the slot. -/
theorem RangeEntry.modified_fields {e new : RangeEntry} {f : RangeFlags} {geometry : Option Geometry} {key : Option Key}
    {lock : LockState} {slot : Option SlotIx}
    (h : new = { e.modified (some f) geometry key with lock := lock, slot := slot }) :
    new.flags = f ∧ (geometry = none → new.geometry = e.geometry) ∧ (∀ g, geometry = some g → new.geometry = some g) ∧
      new.keyState = e.keyState ∧ new.generation = e.generation ∧ new.domainWrap = e.domainWrap := by
  subst h
  refine ⟨rfl, fun none_ => ?_, fun g some_ => ?_, rfl, rfl, rfl⟩
  · subst none_; rfl
  · subst some_; rfl

/-- The device wrap where the flags leave `lock_enabled`, and where they set it. -/
theorem RangeEntry.modified_noKey (e : RangeEntry) (f : RangeFlags) (geometry : Option Geometry) :
    (e.flags.lockEnabled = f.lockEnabled → (e.modified (some f) geometry none).deviceWrap = e.deviceWrap) ∧
    (e.flags.lockEnabled = false → f.lockEnabled = true → (e.modified (some f) geometry none).deviceWrap = none) := by
  refine ⟨fun same => ?_, fun off on => ?_⟩
  · simp [RangeEntry.modified, locksPlain, same]
  · simp [RangeEntry.modified, locksPlain, off, on]

/-- Settles O39: the key taken for the device wrap decides whether R16 has anything to open, then the deferred reply and the marks. -/
theorem modifyRangeSetsFlagsAndGeometry : Obligations.ModifyRangeSetsFlagsAndGeometry := by
  refine ⟨fun s hd acting r old f geometry hs hb ha hg defined hold fits geometryFits hk hf => ?_,
    fun s hd acting r g hs hb ha hg h0 defined locked length below clear hf => ?_⟩
  · subst hold
    obtain ⟨t, run, m, taken, ht⟩ := execModifyRange_accepted (P := fun t => ∃ m, s.lnk.Taken 1 m ∧
        t = ((s.onLnk fun _ => m).modify hd r (some f) geometry).settle) hs ha hg defined fits geometryFits hf
      fun m taken => ⟨m, taken, rfl⟩
    refine ⟨t, _, run, rfl, ?_⟩
    by_cases wraps : unlocksPlain (s.rmg.ranges.get r) (some f) = true ∧ (s.rmg.ranges.get r).keyState = .keyed
    · obtain ⟨unlocks, keyed⟩ := wraps
      obtain ⟨g, hg', on, off⟩ := unlocksPlain_iff.mp unlocks
      cases hg'
      obtain ⟨k, hk⟩ := Option.isSome_iff_exists.mp (hk on off keyed)
      rw [State.modify_eq.1 k unlocks keyed hk] at ht
      have differ : ¬ (s.rmg.ranges.get r).flags.lockEnabled = f.lockEnabled := by simp [on, off]
      have marked {q : RecordId} (h : q = .rangeKey r ∨ q = .range r) :
          q ∈ modifiedRecords r (s.rmg.ranges.get r) (some f) (some k) := by
        simpa [modifiedRecords] using h
      by_cases permits : ((s.rmg.ranges.get r).lock = .locked ∨ (s.rmg.ranges.get r).lock = .readOnly) ∧ s.thm.level ≠ .alarm
      · obtain ⟨spec, entry, key, empty, held, frame⟩ :=
          State.modifyRange_opens taken hb hf defined hs.2.1 ⟨unlocks, keyed, permits⟩ ht
        obtain ⟨flags, geo, geo', state, generation, domain⟩ := RangeEntry.modified_fields entry
        refine ⟨flags, geo, geo', state, generation, domain, fun same => absurd same differ,
          fun off' => by simp [on] at off', fun k' _ _ _ hk' => ?_, spec.others, spec.mapGen, spec.deferring, spec.working,
          spec.marked _ (marked (.inr rfl)), frame⟩
        obtain rfl : k = k' := Option.some.inj (hk.symm.trans hk')
        rw [if_pos permits]
        refine ⟨?_, spec.marked _ (marked (.inl rfl)), by rw [entry], key, empty, held⟩
        rw [entry]
        exact RangeEntry.modified_wrap geometry unlocks
      · obtain ⟨spec, entry, -, frame⟩ := State.modifyRange_shut taken hb hf (fun h => permits h.2.2) ht
        obtain ⟨flags, geo, geo', state, generation, domain⟩ := RangeEntry.modified_fields entry
        refine ⟨flags, geo, geo', state, generation, domain, fun same => absurd same differ,
          fun off' => by simp [on] at off', fun k' _ _ _ hk' => ?_, spec.others, spec.mapGen, spec.deferring, spec.working,
          spec.marked _ (marked (.inr rfl)), frame.mono⟩
        obtain rfl : k = k' := Option.some.inj (hk.symm.trans hk')
        rw [if_neg permits]
        refine ⟨?_, spec.marked _ (marked (.inl rfl)), by rw [entry]; rfl⟩
        rw [entry]
        exact RangeEntry.modified_wrap geometry unlocks
    · have noKey : unlocksPlain (s.rmg.ranges.get r) (some f) = false ∨ (s.rmg.ranges.get r).keyState ≠ .keyed := by
        rw [← Bool.not_eq_true]
        exact not_and_or.mp wraps
      rw [State.modify_eq.2 noKey] at ht
      obtain ⟨spec, entry, keys, frame⟩ := State.modifyRange_shut taken hb hf (fun h => wraps ⟨h.1, h.2.1⟩) ht
      obtain ⟨flags, geo, geo', state, generation, domain⟩ := RangeEntry.modified_fields entry
      obtain ⟨wrap, wrapGone⟩ := RangeEntry.modified_noKey (s.rmg.ranges.get r) f geometry
      rw [← entry] at wrap wrapGone
      refine ⟨flags, geo, geo', state, generation, domain, fun same => ⟨by rw [entry]; rfl, wrap same, keys⟩,
        fun off on => ⟨by rw [entry]; rfl, wrapGone off on, spec.marked _ ?_⟩,
        fun k on off keyed _ => absurd ⟨unlocksPlain_iff.mpr ⟨f, rfl, on, off⟩, keyed⟩ wraps, spec.others, spec.mapGen,
        spec.deferring, spec.working, spec.marked _ (by simp [modifiedRecords]), frame.mono⟩
      simp [modifiedRecords, locksPlain, off, on]
  · refine execModifyRangeGeometry_accepted hs ha hg h0 defined locked length below clear hf fun m taken => ?_
    rw [State.modify_eq.2 (.inl rfl)]
    obtain ⟨spec, entry, -, frame⟩ := State.modifyRange_shut (flags := none) (key := none) (geometry := some g) (hd := hd)
      taken hb hf nofun rfl
    exact ⟨entry, fun q hq => (spec.others q hq).1, spec.mapGen, spec.deferring, spec.working,
      spec.marked _ (by simp [modifiedRecords]), frame⟩

end Sys2Proof.Machine
end

section
/-! PROOFS. UNLOCK_RANGE (R15). -/

namespace Sys2Proof.Machine

/-- A request over `r` by an authority with the rights, on a range whose `lock_enabled` is true, taken up as UNLOCK_RANGE. -/
theorem execUnlockRange_accepted {s : State} {hd : Header} {acting : Nat} {r : RangeIx} {mode : UnlockMode} {P : State → Prop}
    (hs : s.TakesUp (.unlockRange hd acting r.val (some mode))) (defined : s.defined r = true)
    (shows : s.showsTo acting (some r) = true) (signed : s.signedIn acting = true) (may : s.mayLock acting (some r) = true)
    (enabled : (s.rmg.ranges.get r).flags.lockEnabled = true) (keyed : (s.rmg.ranges.get r).keyState = .keyed)
    (hp : ∀ m, s.lnk.Taken 1 m → P ((s.onLnk fun _ => m).unlockRange hd acting r mode).settle) :
    ∃ t, exec (.unlockRange hd acting r.val (some mode)) s = .next t ∧ P t := by
  have named (m : Lnk) : (s.onLnk fun _ => m).named 0 r.val = some r := State.named_zero (s := s) defined
  have sized : hd.sized = true := hs.2.2
  refine State.accepted hs (fun m _ => ?_) (fun m taken => ?_)
  · have may : (s.onLnk fun _ => m).mayLock acting (some r) = true := may
    rw [named, judge_rangeChecks_own (s := s.onLnk fun _ => m) shows signed may]
    simp [judge, sized, enabled, keyed]
  · simp only [named]
    exact hp m taken

/-- An answer from a state with the request taken and LNK otherwise as it was, and the occurrence's end. -/
theorem State.replied_taken {kind tag : Byte} {r : Reply} {s b t : State} {m : Lnk} (taken : s.lnk.Taken 1 m) (hb : b.lnk = m)
    (ht : t = (b.answer kind tag r).settle) : s.Replied kind tag r t ∧ Unchanged [.waiting, .outbound] b t := by
  subst ht
  refine ⟨State.replied_at_once ?_ ?_, ((State.answer_unchanged _ _ _ _).append (State.settle_unchanged _)).mono⟩
  · rw [hb, taken.waiting]
  · rw [hb, taken.outbound]

/-- A range's entry set, one increment of the map generation and an answer at once, from the request taken. -/
theorem State.relocked_at_once {kind tag : Byte} {r : Reply} {q : RangeIx} {f : RangeEntry → RangeEntry} {s t : State} {m : Lnk}
    (taken : s.lnk.Taken 1 m) (hb : s.model.bumped = false)
    (ht : t = ((((s.onLnk fun _ => m).onRange q f).bump).answer kind tag r).settle) :
    t.rmg.ranges = s.rmg.ranges.set q (f (s.rmg.ranges.get q)) ∧ t.rmg.mapGen = nextMapGen s.rmg.mapGen ∧
      s.Replied kind tag r t ∧ Unchanged [.waiting, .outbound, .ranges, .mapGen] s t := by
  obtain ⟨b, hb'⟩ : ∃ b, b = ((s.onLnk fun _ => m).onRange q f).bump := ⟨_, rfl⟩
  have link : b.lnk = m := hb' ▸ State.bump_lnk _
  have ranges : b.rmg.ranges = s.rmg.ranges.set q (f (s.rmg.ranges.get q)) := hb' ▸ State.bump_ranges _
  have mapGen : b.rmg.mapGen = nextMapGen s.rmg.mapGen := hb' ▸ State.bump_mapGen (s := (s.onLnk fun _ => m).onRange q f) hb
  have frame : Unchanged [.waiting, .ranges, .mapGen] s b :=
    hb' ▸ ((State.taken_unchanged taken).append ((State.onRange_unchanged _ _ _).append (State.bump_unchanged _))).mono
  obtain ⟨replied, rest⟩ := State.replied_taken taken link (hb' ▸ ht)
  have ranges' : t.rmg.ranges = b.rmg.ranges := rest .ranges (by decide)
  have mapGen' : t.rmg.mapGen = b.rmg.mapGen := rest .mapGen (by decide)
  exact ⟨ranges'.trans ranges, mapGen'.trans mapGen, replied, (frame.append rest).mono⟩

/-- UNLOCK_RANGE of a LOCKED range whose key unwraps. -/
theorem State.unlockTo_opens {s t : State} {hd : Header} {acting : Nat} {r : RangeIx} {k : Key} {lock : LockState} {m : Lnk}
    (taken : s.lnk.Taken 1 m) (hb : s.model.bumped = false) (hk : s.unlockKey acting r = some k)
    (ht : t = ((s.onLnk fun _ => m).unlockTo hd acting r lock).settle) :
    t.rmg.ranges.get r = { s.rmg.ranges.get r with lock := lock, slot := (t.rmg.ranges.get r).slot } ∧
      (∀ q, q ≠ r → t.rmg.ranges.get q = s.rmg.ranges.get q) ∧
      t.rmg.rangeKeys = s.rmg.rangeKeys.set r (some k) ∧ t.rmg.mapGen = nextMapGen s.rmg.mapGen ∧
      ((s.rmg.ranges.get r).slot = none → t.Loads [r] s.kln.slots s.kln.queue s.kln.lane) ∧
      ((s.rmg.ranges.get r).slot.isSome → (t.rmg.ranges.get r).slot = (s.rmg.ranges.get r).slot ∧
        t.kln.slots = s.kln.slots ∧ Part.same s t .lane) ∧
      s.Replied 0x25 hd.tag (okWith (.lockState lock)) t ∧
      Unchanged [.waiting, .outbound, .ranges, .rangeKeys, .mapGen, .slots, .lane] s t := by
  obtain ⟨a, ha⟩ : ∃ a, a = s.onLnk fun _ => m := ⟨_, rfl⟩
  obtain ⟨b, hb'⟩ : ∃ b, b = ((a.openWith r k lock).eagerLoad r).bump := ⟨_, rfl⟩
  have o : a.Opened r k lock b := hb' ▸ a.opened r k lock
  have ranges : a.rmg.ranges = s.rmg.ranges := ha ▸ rfl
  have keys : a.rmg.rangeKeys = s.rmg.rangeKeys := ha ▸ rfl
  have kln : a.kln = s.kln := ha ▸ rfl
  have mapGen : b.rmg.mapGen = nextMapGen s.rmg.mapGen := by
    have fresh : a.model.bumped = false := ha ▸ hb
    have same : a.rmg.mapGen = s.rmg.mapGen := ha ▸ rfl
    rw [o.mapGen, fresh, same]
    rfl
  have answered : t = (b.answer 0x25 hd.tag (okWith (.lockState lock))).settle := by
    have found : a.unlockKey acting r = some k := ha ▸ hk
    rw [ht, ← ha, State.unlockTo, found, hb', ← State.eagerLoads_single]
    rfl
  obtain ⟨replied, rest⟩ := State.replied_taken taken (o.link.trans (ha ▸ rfl)) answered
  have frame : Unchanged [.waiting] s a := ha ▸ State.taken_unchanged taken
  clear ha hb' ht answered
  have tRanges : t.rmg.ranges = b.rmg.ranges := rest .ranges (by decide)
  have tKeys : t.rmg.rangeKeys = b.rmg.rangeKeys := rest .rangeKeys (by decide)
  have tMapGen : t.rmg.mapGen = b.rmg.mapGen := rest .mapGen (by decide)
  have tSlots : t.kln.slots = b.kln.slots := rest .slots (by decide)
  have tLane : Part.same b t .lane := rest .lane (by decide)
  rw [tRanges, tKeys, tMapGen, ← ranges, ← keys, ← kln, tSlots]
  refine ⟨o.entry, o.others, o.keys, mapGen, fun empty => o.loads empty _ _ rest (by decide), fun held => ?_, replied,
    ((frame.append o.frame).append rest).mono⟩
  obtain ⟨slot, same⟩ := o.holds held
  refine ⟨slot, by rw [same], ?_⟩
  simpa only [Part.same, same, kln] using tLane

/-- UNLOCK_RANGE of a LOCKED range whose key does not unwrap. -/
theorem State.unlockTo_fails {s : State} {hd : Header} {acting : Nat} {r : RangeIx} {lock : LockState} {m : Lnk}
    (hk : s.unlockKey acting r = none) :
    (s.onLnk fun _ => m).unlockTo hd acting r lock = (s.onLnk fun _ => m).answer 0x25 hd.tag (storeFault (.range r)) := by
  have missing : (s.onLnk fun _ => m).unlockKey acting r = none := hk
  rw [State.unlockTo, missing]

/-- Settles O41, by the lock state the range is found in and the mode asked for. -/
theorem unlockRangeNeverNarrowsAccess : Obligations.UnlockRangeNeverNarrowsAccess := by
  intro s hd acting r old mode hs hb defined shows signed may hold enabled keyed
  subst hold
  have accepted (P : State → Prop) (hp : ∀ m, s.lnk.Taken 1 m → P ((s.onLnk fun _ => m).unlockRange hd acting r mode).settle) :=
    execUnlockRange_accepted hs defined shows signed may enabled keyed hp
  have lockOf (m : Lnk) : ((s.onLnk fun _ => m).rmg.ranges.get r).lock = (s.rmg.ranges.get r).lock := rfl
  refine ⟨fun k lock locked hk opens => ?_, fun locked hk mode_ => ?_, fun refused => ?_, fun readOnly mode_ => ?_,
    fun stands => ?_⟩
  · refine accepted _ fun m taken => State.unlockTo_opens taken hb hk ?_
    rcases opens with ⟨rfl, rfl⟩ | ⟨rfl, rfl⟩ <;> simp only [State.unlockRange, lockOf, locked]
  · refine accepted _ fun m taken => ?_
    have fails : (s.onLnk fun _ => m).unlockRange hd acting r mode =
        (s.onLnk fun _ => m).answer 0x25 hd.tag (storeFault (.range r)) := by
      cases mode with
      | write => exact absurd rfl mode_
      | read | both => simp only [State.unlockRange, lockOf, locked, State.unlockTo_fails hk]
    rw [fails]
    exact State.answered_only taken
  · refine accepted _ fun m taken => ?_
    have wrong : (s.onLnk fun _ => m).unlockRange hd acting r mode =
        (s.onLnk fun _ => m).answer 0x25 hd.tag (.plain .wrongState) := by
      rcases refused with ⟨locked, rfl⟩ | locking
      · simp only [State.unlockRange, lockOf, locked]
      · simp only [State.unlockRange, lockOf, locking]
    rw [wrong]
    exact State.answered_only taken
  · refine accepted _ fun m taken => State.relocked_at_once (f := fun e => { e with lock := .opened }) taken hb ?_
    cases mode with
    | read => exact absurd rfl mode_
    | write | both => simp only [State.unlockRange, lockOf, readOnly]; rfl
  · refine accepted _ fun m taken => ?_
    have ok : (s.onLnk fun _ => m).unlockRange hd acting r mode =
        (s.onLnk fun _ => m).answer 0x25 hd.tag (okWith (.lockState (s.rmg.ranges.get r).lock)) := by
      rcases stands with ⟨readOnly, rfl⟩ | opened
      · simp only [State.unlockRange, lockOf, readOnly]; rfl
      · simp only [State.unlockRange, lockOf, opened]; rfl
    rw [ok]
    exact State.answered_only taken

end Sys2Proof.Machine
end

section
/-! PROOFS. What has been answered or announced stays so, and the clear of a range's slot (R54, R178 to R180). -/

namespace Sys2Proof.Machine

/-! ## What has been told stays told -/

/-- What LNK holds for the host in `l`, a reply READY or queued and a notice queued or pending, it holds in `m`. -/
structure Lnk.KeepsTold (l m : Lnk) : Prop where
  reply : ∀ i (e : Deferred) r, l.deferred.get i = some { e with state := .ready r } ∨
      OutFrame.reply (e.kind + 0x80) e.tag r ∈ l.outbound →
    m.deferred.get i = some { e with state := .ready r } ∨ OutFrame.reply (e.kind + 0x80) e.tag r ∈ m.outbound
  notice : ∀ n, OutFrame.notice n ∈ l.outbound ∨ n ∈ l.pendingSet → OutFrame.notice n ∈ m.outbound ∨ n ∈ m.pendingSet

theorem Lnk.KeepsTold.refl (l : Lnk) : l.KeepsTold l := ⟨fun _ _ _ => id, fun _ => id⟩

theorem Lnk.KeepsTold.trans {l m n : Lnk} (h : l.KeepsTold m) (k : m.KeepsTold n) : l.KeepsTold n :=
  ⟨fun i e r => k.reply i e r ∘ h.reply i e r, fun n => k.notice n ∘ h.notice n⟩

theorem Lnk.keepsTold_of_same {l m : Lnk} (hd : m.deferred = l.deferred) (ho : m.outbound = l.outbound)
    (hp : m.pendingSet = l.pendingSet) : l.KeepsTold m := by
  constructor
  · intro i e r
    rw [hd, ho]
    exact id
  · intro n
    rw [ho, hp]
    exact id

theorem Lnk.grantReply_keepsTold {l m : Lnk} (h : l.grantReply = some m) : l.KeepsTold m := by
  unfold Lnk.grantReply at h
  split at h
  · next i rest _ =>
    split at h
    · next kind tag owner range r hd =>
      cases h
      refine ⟨fun j e r' told => ?_, fun n told => told.imp_left (List.mem_append_left _)⟩
      rcases told with ready | queued
      · by_cases same : i = j
        · subst same
          rw [hd] at ready
          cases ready
          exact .inr (List.mem_append_right _ (List.mem_singleton_self _))
        · exact .inl ((Table.get_set_ne _ _ same).trans ready)
      · exact .inr (List.mem_append_left _ queued)
    · cases h
      exact Lnk.keepsTold_of_same rfl rfl rfl
  · split at h
    · split at h
      · cases h
        exact Lnk.keepsTold_of_same rfl rfl rfl
      · cases h
    · cases h

theorem Lnk.grantOne_keepsTold {l m : Lnk} (h : l.grantOne = some m) : l.KeepsTold m := by
  unfold Lnk.grantOne at h
  split at h
  · cases h
  · split at h
    · next n rest pending =>
      split at h
      · cases h
        refine ⟨fun j e r told => told.imp_right (List.mem_append_left _), fun k told => ?_⟩
        rcases told with queued | waits
        · exact .inl (List.mem_append_left _ queued)
        · rw [pending] at waits
          rcases List.mem_cons.mp waits with rfl | later
          · exact .inl (List.mem_append_right _ (List.mem_singleton_self _))
          · exact .inr later
      · exact Lnk.grantReply_keepsTold h
    · exact Lnk.grantReply_keepsTold h

theorem Lnk.grantAll_keepsTold (n : Nat) (l : Lnk) : l.KeepsTold (l.grantAll n) := by
  induction n generalizing l with
  | zero => exact .refl l
  | succ n ih =>
    unfold Lnk.grantAll
    split
    · next m h => exact (Lnk.grantOne_keepsTold h).trans (ih m)
    · exact .refl l

theorem State.settle_keepsTold (s : State) : s.lnk.KeepsTold s.settle.lnk := by
  rw [State.settle_lnk, State.grantLink]
  split
  · exact Lnk.KeepsTold.trans (m := s.lnk.collectReady) (Lnk.keepsTold_of_same rfl rfl rfl) (Lnk.grantAll_keepsTold 16 _)
  · exact .refl _

theorem State.Finishes.step {i : DeferIx} {d : Deferred} {r : Reply} {s t : State} (h : s.Finishes i d r)
    (k : s.lnk.KeepsTold t.lnk) : t.Finishes i d r := k.reply i d r h

theorem State.Notified.step {n : Notice} {s t : State} (h : s.Notified n) (k : s.lnk.KeepsTold t.lnk) : t.Notified n :=
  k.notice n h

/-! ## The clear of a range's slot (R54) -/

/-- Slot `i` is CLEARING, its CLEAR at the tail of the lane queue. -/
def State.sendClear (i : SlotIx) (s : State) : State :=
  (s.onSlot i fun l => { l with state := .clearing }).onKln fun k =>
    { k with queue := k.queue ++ [{ op := .clear, slot := i, key := none }] }

/-- The LOAD queued for slot `i` is taken away, and the slot changed. -/
def State.unload (i : SlotIx) (f : Slot → Slot) (s : State) : State :=
  (s.onKln fun k => { k with queue := unqueue .load i k.queue }).onSlot i f

section
variable {s : State} {r : RangeIx} {i : SlotIx} (hs : (s.rmg.ranges.get r).slot = some i)
include hs

/-- A LOADED slot, or a LOADING one whose LOAD is in flight, is cleared by a CLEAR of its own. -/
theorem State.clearRequest_sends (h : (s.kln.slots.get i).state = .loaded ∨
    ((s.kln.slots.get i).state = .loading ∧ queued .load i s.kln.queue = false)) : s.clearRequest r = s.sendClear i := by
  unfold State.clearRequest
  simp only [hs]
  rcases h with loaded | ⟨loading, sent⟩
  · simp only [loaded]
    rfl
  · simp only [loading, sent]
    rfl

/-- A LOADING slot whose LOAD is still queued is cleared by that LOAD's removal. -/
theorem State.clearRequest_unqueues (h : (s.kln.slots.get i).state = .loading) (hq : queued .load i s.kln.queue = true) :
    s.clearRequest r = (s.unload i Slot.emptied).clearComplete i := by
  unfold State.clearRequest
  simp only [hs, h, hq, if_true]
  rfl

/-- In a CLEARING slot the LOAD that waits for the range is taken away, and nothing else. -/
theorem State.clearRequest_clearing (h : (s.kln.slots.get i).state = .clearing) : s.clearRequest r =
    if (s.kln.slots.get i).next.any (fun o => o.range = r) then s.unload i fun l => { l with next := none } else s := by
  unfold State.clearRequest
  simp only [hs, h]
  rfl

end

theorem State.sendClear_unchanged (i : SlotIx) (s : State) : Unchanged [.slots, .lane] s (s.sendClear i) :=
  (s.onSlot_unchanged _ _).append (State.onLane_unchanged (· ++ _) _)

theorem State.unload_unchanged (i : SlotIx) (f : Slot → Slot) (s : State) : Unchanged [.lane, .slots] s (s.unload i f) :=
  (s.onLane_unchanged (unqueue .load i)).append (State.onSlot_unchanged _ _ _)

/-- The clear of the slot of a LOCKING range completes its lock (R19). -/
theorem State.clearComplete_locking {s : State} {r : RangeIx} {i : SlotIx} (hs : (s.rmg.ranges.get r).slot = some i)
    (distinct : ∀ q, (s.rmg.ranges.get q).slot = some i → q = r) (locking : (s.rmg.ranges.get r).lock = .locking) :
    s.clearComplete i = (s.finishLock r).bump.openPlain LockState.isLocked [r] := by
  have found : (List.finRange 16).find? (fun q => (s.rmg.ranges.get q).slot == some i) = some r := by
    have some_ : ((List.finRange 16).find? fun q => (s.rmg.ranges.get q).slot == some i).isSome :=
      List.find?_isSome.mpr ⟨r, List.mem_finRange r, by simp [hs]⟩
    obtain ⟨q, hq⟩ := Option.isSome_iff_exists.mp some_
    have names := List.find?_some hq
    rw [hq, distinct q (by simpa using names)]
  unfold State.clearComplete
  rw [found]
  simp only [locking, if_true]

/-! ## The completion of a lock (R19) -/

theorem lockDone_other {r : RangeIx} {w : Work} (h : w.awaits ≠ some r) : lockDone r w = .working w := by
  cases w with
  | lock q => exact if_neg fun e => h (by rw [Work.awaits, e])
  | writes ws lock done fault => exact if_neg h
  | engine => rfl

/-- An entry that does not wait on the lock of `r` stands as it completes. -/
theorem State.finishLock_deferred_other {s : State} {r : RangeIx} {i : DeferIx} (h : s.awaited i ≠ some r) :
    (s.finishLock r).lnk.deferred.get i = s.lnk.deferred.get i := by
  have get : (s.finishLock r).lnk.deferred.get i = _ := Table.get_imap _ _ _
  rw [get]
  show Option.map _ (s.lnk.deferred.get i) = _
  cases hd : s.lnk.deferred.get i with
  | none => rfl
  | some d =>
    obtain ⟨kind, tag, owner, range, state⟩ := d
    cases state with
    | ready => rfl
    | working w =>
      have other : w.awaits ≠ some r := fun e => h (by simp [State.awaited, hd, e])
      simp [lockDone_other other]

/-- The LOCK_RANGE that waits on the lock of `r` has its reply as it completes. -/
theorem State.finishLock_deferred_lock {s : State} {r : RangeIx} {i : DeferIx} {d : Deferred}
    (hd : s.lnk.deferred.get i = some d) (h : d.state = .working (.lock r)) :
    (s.finishLock r).lnk.deferred.get i = some { d with state := .ready lockedReply } := by
  have get : (s.finishLock r).lnk.deferred.get i = _ := Table.get_imap _ _ _
  rw [get]
  show Option.map _ (s.lnk.deferred.get i) = _
  rw [hd]
  obtain ⟨kind, tag, owner, range, state⟩ := d
  subst h
  simp [lockDone]

end Sys2Proof.Machine
end

section
/-! PROOFS. LOCK_RANGE (R17 to R19, R54). -/

namespace Sys2Proof.Machine

theorem execLockRange_accepted {s : State} {hd : Header} {acting : Nat} {r : RangeIx} {mode : LockMode} {P : State → Prop}
    (hs : s.TakesUp (.lockRange hd acting r.val (some mode))) (defined : s.defined r = true)
    (shows : s.showsTo acting (some r) = true) (signed : s.signedIn acting = true) (may : s.mayLock acting (some r) = true)
    (enabled : (s.rmg.ranges.get r).flags.lockEnabled = true)
    (hp : ∀ m, s.lnk.Taken 1 m → P ((s.onLnk fun _ => m).lockRange hd r mode).settle) :
    ∃ t, exec (.lockRange hd acting r.val (some mode)) s = .next t ∧ P t := by
  have named (m : Lnk) : (s.onLnk fun _ => m).named 0 r.val = some r := State.named_zero (s := s) defined
  have sized : hd.sized = true := hs.2.2
  refine State.accepted hs (fun m _ => ?_) (fun m taken => ?_)
  · have may : (s.onLnk fun _ => m).mayLock acting (some r) = true := may
    rw [named, judge_rangeChecks_own (s := s.onLnk fun _ => m) shows signed may]
    simp [judge, sized, enabled]
  · simp only [named]
    exact hp m taken

/-- ALL on a range without a slot: LOCKED at once, its key gone. -/
theorem State.lockAll_at_once {s t : State} {hd : Header} {r : RangeIx} {m : Lnk} (taken : s.lnk.Taken 1 m)
    (hb : s.model.bumped = false) (slot : (s.rmg.ranges.get r).slot = none)
    (ht : t = ((s.onLnk fun _ => m).lockAll hd r).settle) :
    t.rmg.ranges = s.rmg.ranges.set r { s.rmg.ranges.get r with lock := .locked } ∧
      t.rmg.rangeKeys = s.rmg.rangeKeys.set r none ∧ t.rmg.mapGen = nextMapGen s.rmg.mapGen ∧
      s.Replied 0x24 hd.tag (okWith (.lockState .locked)) t ∧
      Unchanged [.waiting, .outbound, .ranges, .rangeKeys, .mapGen] s t := by
  obtain ⟨a, ha⟩ : ∃ a, a = ((s.onLnk fun _ => m).cacheKey r none).onRange r fun e => { e with lock := .locked } := ⟨_, rfl⟩
  have ranges : a.rmg.ranges = s.rmg.ranges.set r { s.rmg.ranges.get r with lock := .locked } := ha ▸ rfl
  have keys : a.rmg.rangeKeys = s.rmg.rangeKeys.set r none := ha ▸ rfl
  have mapGen : a.bump.rmg.mapGen = nextMapGen s.rmg.mapGen := by
    have fresh : a.model.bumped = false := ha ▸ hb
    rw [State.bump_mapGen fresh, ha]
    rfl
  have link : a.bump.lnk = m := (State.bump_lnk _).trans (ha ▸ rfl)
  have frame : Unchanged [.waiting, .rangeKeys, .ranges, .mapGen] s a.bump :=
    (State.taken_unchanged taken).append ((ha ▸ (State.cacheKey_unchanged _ _ _).append (State.onRange_unchanged _ _ _)).append
      (State.bump_unchanged a)) |>.mono
  have answered : t = (a.bump.answer 0x24 hd.tag (okWith (.lockState .locked))).settle := by
    have slot : ((s.onLnk fun _ => m).rmg.ranges.get r).slot = none := slot
    rw [ht, ha, State.lockAll, State.normalLock, slot]
    rfl
  obtain ⟨replied, rest⟩ := State.replied_taken taken link answered
  have tRanges : t.rmg.ranges = a.bump.rmg.ranges := rest .ranges (by decide)
  have tKeys : t.rmg.rangeKeys = a.bump.rmg.rangeKeys := rest .rangeKeys (by decide)
  have tMapGen : t.rmg.mapGen = a.bump.rmg.mapGen := rest .mapGen (by decide)
  exact ⟨tRanges.trans ((State.bump_ranges _).trans ranges), tKeys.trans ((State.bump_keys _).trans keys),
    tMapGen.trans mapGen, replied, (frame.append rest).mono⟩

/-! ## ALL on a range with a slot -/

/-- The deferred reply of LOCK_RANGE taken in entry `j`, its range LOCKING. -/
def State.lockAsked (hd : Header) (r : RangeIx) (j : DeferIx) (s : State) : State :=
  (s.defer j 0x24 hd.tag .rmg (some r) (.lock r)).onRange r fun e => { e with lock := .locking }

/-- What `a` is once LOCK_RANGE has taken its entry in `s` and made its range LOCKING. -/
structure State.LockAsked (hd : Header) (r : RangeIx) (j : DeferIx) (s a : State) : Prop where
  ranges : a.rmg.ranges = s.rmg.ranges.set r { s.rmg.ranges.get r with lock := .locking }
  mapGen : a.rmg.mapGen = s.rmg.mapGen
  keys : a.rmg.rangeKeys = s.rmg.rangeKeys
  kln : a.kln = s.kln
  fresh : a.model.bumped = false
  free : s.lnk.deferred.get j = none
  entries : a.lnk.deferred = s.lnk.deferred.set j
    (some { kind := 0x24, tag := hd.tag, owner := .rmg, range := some r, state := .working (.lock r) })
  deferring : s.Deferring 0x24 hd.tag .rmg a
  working : s.KeepsWorking a
  frame : Unchanged [.waiting, .deferred, .ranges] s a

/-- A request that takes the lowest free entry waits there. -/
theorem State.deferring_defer {kind tag : Byte} {b : Block} {range : Option RangeIx} {w : Work} {i : DeferIx} {s t : State}
    (hw : t.lnk.waiting = none) (hi : s.freeDeferred = some i) : s.Deferring kind tag b (t.defer i kind tag b range w) := by
  obtain ⟨free, below⟩ := Table.lowest_some (show s.lnk.deferred.lowest Option.isNone = some i from hi)
  refine ⟨hw, i, { kind := kind, tag := tag, owner := b, range := range, state := .working w }, by simpa using free,
    fun j hj => ?_, Table.get_set_self _ _ _, rfl, rfl, rfl, rfl⟩
  have := below j hj
  cases h : s.lnk.deferred.get j <;> simp_all

theorem State.lockAsked_spec {s : State} {hd : Header} {r : RangeIx} {j : DeferIx} {m : Lnk} (taken : s.lnk.Taken 1 m)
    (hb : s.model.bumped = false) (hj : s.freeDeferred = some j) :
    State.LockAsked hd r j s ((s.onLnk fun _ => m).lockAsked hd r j) where
  ranges := rfl
  mapGen := rfl
  keys := rfl
  kln := rfl
  fresh := hb
  free := State.get_freeDeferred hj
  entries := by
    rw [← taken.deferred]
    rfl
  deferring := (State.deferring_defer (t := s.onLnk fun _ => m) taken.waiting hj).step (State.onRange_unchanged _ _ _)
  working := ((State.KeepsWorking.of_deferred (t := s.onLnk fun _ => m) taken.deferred).defer (State.get_freeDeferred hj)).step
    (State.onRange_unchanged _ _ _)
  frame := ((State.taken_unchanged taken).append ((State.defer_unchanged _ _ _ _ _ _ _).append
    (State.onRange_unchanged _ _ _))).mono

theorem State.lockAll_defers {u : State} {hd : Header} {r : RangeIx} {i : SlotIx} {j : DeferIx}
    (hs : (u.rmg.ranges.get r).slot = some i) (hj : u.freeDeferred = some j) :
    u.lockAll hd r = (if (u.kln.slots.get i).pins = 0 then (u.lockAsked hd r j).clearRequest r else u.lockAsked hd r j).bump := by
  have slot : ((u.defer j 0x24 hd.tag .rmg (some r) (.lock r)).rmg.ranges.get r).slot = some i := hs
  rw [State.lockAll, if_neg (by simp [hs]), hj]
  simp only [State.normalLock, slot]
  rfl

section
variable {hd : Header} {r : RangeIx} {i : SlotIx} {j : DeferIx} {s a c t : State} (ha : State.LockAsked hd r j s a)
include ha

theorem State.LockAsked.get (q : RangeIx) : a.rmg.ranges.get q =
    if r = q then { s.rmg.ranges.get r with lock := .locking } else s.rmg.ranges.get q := by
  rw [ha.ranges]
  exact Table.get_set _ _ _ _

theorem State.LockAsked.slot (q : RangeIx) : (a.rmg.ranges.get q).slot = (s.rmg.ranges.get q).slot := by
  rw [ha.get]
  split
  · next h => rw [h]
  · rfl

/-- The reply waits: only slots and the lane queue change before the map generation does. -/
theorem State.LockAsked.waits {e : List Part} (k : Unchanged e a c) (he : e ⊆ [.slots, .lane]) (hm : c.model = a.model)
    (ht : t = c.bump.settle) :
    t.rmg.ranges = s.rmg.ranges.set r { s.rmg.ranges.get r with lock := .locking } ∧
      t.rmg.mapGen = nextMapGen s.rmg.mapGen ∧ s.Deferring 0x24 hd.tag .rmg t ∧ s.KeepsWorking t ∧
      t.kln.slots = c.kln.slots ∧ Part.same c t .lane ∧
      Unchanged ([.waiting, .deferred, .ranges] ++ e ++ [.mapGen]) s t := by
  have out {p : Part} (hp : p ∉ [Part.slots, Part.lane]) : p ∉ e := fun h => hp (he h)
  have ranges : c.rmg.ranges = a.rmg.ranges := k .ranges (out (by decide))
  have mapGen : c.rmg.mapGen = a.rmg.mapGen := k .mapGen (out (by decide))
  have fresh : c.model.bumped = false := by rw [hm, ha.fresh]
  have tail : Unchanged [.mapGen] c t := ht ▸ ((State.bump_unchanged c).append (State.settle_unchanged _)).mono
  have all : Unchanged (e ++ [.mapGen]) a t := k.append tail
  have tRanges : t.rmg.ranges = c.rmg.ranges := tail .ranges (by decide)
  have tMapGen : t.rmg.mapGen = c.bump.rmg.mapGen := by rw [ht, State.settle_rmg]
  refine ⟨by rw [tRanges, ranges, ha.ranges], by rw [tMapGen, State.bump_mapGen fresh, mapGen, ha.mapGen],
    ha.deferring.step all ?_ ?_, ha.working.step all ?_, tail .slots (by decide), tail .lane (by decide), ?_⟩
  · simp [out]
  · simp [out]
  · simp [out]
  · rw [List.append_assoc]
    exact ha.frame.append all

/-- The clear of the slot completes the lock at once: the reply is the completed lock's. -/
theorem State.LockAsked.completes (hs : (s.rmg.ranges.get r).slot = some i) (enabled : (s.rmg.ranges.get r).flags.lockEnabled = true)
    (open_ : (s.rmg.ranges.get r).lock ≠ .locking) (distinct : s.SlotsDistinct) (awaited : s.LocksAwaited)
    (ht : t = ((a.unload i Slot.emptied).clearComplete i).bump.settle) :
    t.rmg.ranges = s.rmg.ranges.set r { s.rmg.ranges.get r with lock := .locked, slot := none } ∧
      t.rmg.rangeKeys = s.rmg.rangeKeys.set r none ∧ t.rmg.mapGen = nextMapGen s.rmg.mapGen ∧
      t.kln.slots = s.kln.slots.set i (s.kln.slots.get i).emptied ∧
      ((s.kln.lane = .idle → t.LaneRuns (unqueue .load i s.kln.queue)) ∧
        (s.kln.lane ≠ .idle → t.kln.lane = s.kln.lane ∧ t.kln.queue = unqueue .load i s.kln.queue)) ∧
      (∃ d, d.kind = 0x24 ∧ d.tag = hd.tag ∧ t.Finishes j d lockedReply) ∧ s.KeepsWorking t ∧
      Unchanged [.waiting, .outbound, .deferred, .ranges, .rangeKeys, .mapGen, .slots, .lane] s t := by
  obtain ⟨b, hb⟩ : ∃ b, b = a.unload i Slot.emptied := ⟨_, rfl⟩
  have bRmg : b.rmg = a.rmg := hb ▸ rfl
  have bLnk : b.lnk = a.lnk := hb ▸ rfl
  have bSlots : b.kln.slots = s.kln.slots.set i (s.kln.slots.get i).emptied := by rw [hb, ← ha.kln]; rfl
  have bQueue : b.kln.queue = unqueue .load i s.kln.queue := by rw [hb, ← ha.kln]; rfl
  have bLane : b.kln.lane = s.kln.lane := by rw [hb, ← ha.kln]; rfl
  have bFresh : b.model.bumped = false := hb ▸ ha.fresh
  have bFrame : Unchanged [.lane, .slots] a b := hb ▸ State.unload_unchanged i _ a
  have own : b.rmg.ranges.get r = { s.rmg.ranges.get r with lock := .locking } := by rw [bRmg, ha.get, if_pos rfl]
  obtain ⟨c, hc⟩ : ∃ c, c = (b.finishLock r).bump := ⟨_, rfl⟩
  have cRanges : c.rmg.ranges = s.rmg.ranges.set r { s.rmg.ranges.get r with lock := .locked, slot := none } := by
    rw [hc, State.bump_ranges]
    refine Table.ext_get fun q => ?_
    rw [State.finishLock_get, own, bRmg, ha.get, Table.get_set]
    split <;> rfl
  have closed : c.opensPlain LockState.isLocked r = false := by
    simp [State.opensPlain, cRanges, enabled]
  have bumped : c.bump = c := State.bump_of_bumped (hc ▸ State.bump_bumped _)
  have done : b.clearComplete i = c := by
    rw [State.clearComplete_locking (r := r) (by rw [own]; exact hs) (fun q hq => ?_) (by rw [own]), ← hc,
      State.openPlain_closed closed]
    rw [bRmg, ha.slot] at hq
    exact distinct q r i hq hs
  rw [← hb, done, bumped] at ht
  have cKeys : c.rmg.rangeKeys = s.rmg.rangeKeys.set r none := by
    rw [hc, State.bump_keys, ← ha.keys, ← bRmg]
    rfl
  have cMapGen : c.rmg.mapGen = nextMapGen s.rmg.mapGen := by
    rw [hc, State.bump_mapGen (s := b.finishLock r) bFresh, ← ha.mapGen, ← bRmg]
    rfl
  have cKln : c.kln = b.kln := by rw [hc, State.bump_kln]; rfl
  have cLnk : c.lnk = (b.finishLock r).lnk := by rw [hc, State.bump_lnk]
  have cFrame : Unchanged [.rangeKeys, .ranges, .deferred, .mapGen] b c :=
    hc ▸ ((State.finishLock_unchanged r b).append (State.bump_unchanged _)).mono
  clear hc hb closed bumped done
  have tail : Unchanged [] c t := ht ▸ State.settle_unchanged c
  have rmg : t.rmg = c.rmg := by rw [ht, State.settle_rmg]
  have tSlots : t.kln.slots = c.kln.slots := tail .slots (by decide)
  have entry : b.lnk.deferred.get j =
      some { kind := 0x24, tag := hd.tag, owner := .rmg, range := some r, state := .working (.lock r) } := by
    rw [bLnk, ha.entries, Table.get_set_self]
  have others (p : DeferIx) (hp : j ≠ p) : c.lnk.deferred.get p = s.lnk.deferred.get p := by
    have same : b.lnk.deferred.get p = s.lnk.deferred.get p := by rw [bLnk, ha.entries, Table.get_set_ne _ _ hp]
    rw [cLnk, State.finishLock_deferred_other, same]
    intro waits
    rw [State.awaited, same] at waits
    exact open_ ((State.locksAwaited_iff s).mp awaited p r waits)
  have working : s.KeepsWorking c := by
    intro p d hd _
    have : j ≠ p := by
      rintro rfl
      rw [ha.free] at hd
      cases hd
    rw [others p this, hd]
    rfl
  refine ⟨by rw [rmg, cRanges], by rw [rmg, cKeys], by rw [rmg, cMapGen], by rw [tSlots, cKln, bSlots],
    State.laneQueue_of_same (tail .lane (by decide)) (by rw [cKln, bLane]) (by rw [cKln, bQueue]),
    ⟨{ kind := 0x24, tag := hd.tag, owner := .rmg, range := some r, state := .working (.lock r) }, rfl, rfl, ?_⟩,
    working.step tail, (((ha.frame.append bFrame).append cFrame).append tail).mono⟩
  · refine State.Finishes.step (.inl ?_) (ht ▸ State.settle_keepsTold c)
    rw [cLnk]
    exact State.finishLock_deferred_lock entry rfl

end

theorem queued_iff {op : LaneOp} {i : SlotIx} {q : List LaneFrame} :
    queued op i q = true ↔ ∃ f ∈ q, f.op = op ∧ f.slot = i := by
  simp [queued, List.any_eq_true]

/-- Settles O40, by the mode, the lock state the range is found in and, for ALL on a range with a slot, what the clear of that slot
comes to. -/
theorem lockRangeNarrowsAccess : Obligations.LockRangeNarrowsAccess := by
  intro s hd acting r old mode hs hb defined shows signed may hold enabled
  subst hold
  have accepted (P : State → Prop) (hp : ∀ m, s.lnk.Taken 1 m → P ((s.onLnk fun _ => m).lockRange hd r mode).settle) :=
    execLockRange_accepted hs defined shows signed may enabled hp
  have lockOf (m : Lnk) : ((s.onLnk fun _ => m).rmg.ranges.get r).lock = (s.rmg.ranges.get r).lock := rfl
  have all (h : mode = .all) (l : (s.rmg.ranges.get r).lock = .opened ∨ (s.rmg.ranges.get r).lock = .readOnly) (m : Lnk) :
      (s.onLnk fun _ => m).lockRange hd r mode = (s.onLnk fun _ => m).lockAll hd r := by
    subst h
    rcases l with l | l <;> simp only [State.lockRange, lockOf, l]
  have open_ (l : (s.rmg.ranges.get r).lock = .opened ∨ (s.rmg.ranges.get r).lock = .readOnly) :
      (s.rmg.ranges.get r).lock ≠ .locking := by
    rcases l with l | l <;> simp [l]
  have asks (i : SlotIx) (j : DeferIx) (allMode : mode = .all)
      (lock : (s.rmg.ranges.get r).lock = .opened ∨ (s.rmg.ranges.get r).lock = .readOnly)
      (hslot : (s.rmg.ranges.get r).slot = some i) (hj : s.freeDeferred = some j) :
      ∃ t, exec (.lockRange hd acting r.val (some mode)) s = .next t ∧ ∃ a, State.LockAsked hd r j s a ∧
        t = (if (s.kln.slots.get i).pins = 0 then a.clearRequest r else a).bump.settle := by
    refine accepted _ fun m taken => ⟨_, State.lockAsked_spec taken hb hj, ?_⟩
    rw [all allMode lock, State.lockAll_defers (u := s.onLnk fun _ => m) hslot
      ((State.freeDeferred_taken taken).trans hj)]
    rfl
  refine ⟨fun write opened => ?_, fun stands => ?_, fun allMode lock slot => ?_,
    fun i slot clear allMode lock hslot hdef hclear hf => ?_, fun i allMode lock hslot => ?_, fun allMode locking => ?_⟩
  · subst write
    refine accepted _ fun m taken => State.relocked_at_once (f := fun e => { e with lock := .readOnly }) taken hb ?_
    simp only [State.lockRange, lockOf, opened]
    rfl
  · refine accepted _ fun m taken => ?_
    have ok : (s.onLnk fun _ => m).lockRange hd r mode =
        (s.onLnk fun _ => m).answer 0x24 hd.tag (okWith (.lockState (s.rmg.ranges.get r).lock)) := by
      rcases stands with ⟨rfl, notOpen⟩ | ⟨rfl, locked⟩
      · cases l : (s.rmg.ranges.get r).lock with
        | opened => exact absurd l notOpen
        | readOnly | locking | locked => simp only [State.lockRange, lockOf, l]; rfl
      · simp only [State.lockRange, lockOf, locked]
        rfl
    rw [ok]
    exact State.answered_only taken
  · exact accepted _ fun m taken => State.lockAll_at_once taken hb slot (by rw [all allMode lock])
  · obtain ⟨j, hj⟩ := Option.isSome_iff_exists.mp hf
    subst hdef hclear
    obtain ⟨t, done, a, ha, ht⟩ := asks i j allMode lock hslot hj
    refine ⟨fun clears => ⟨t, done, ?_⟩, fun unpinned loading hq distinct awaited => ?_⟩
    · by_cases pins : (s.kln.slots.get i).pins = 0
      · have sent : a.clearRequest r = a.sendClear i := by
          refine State.clearRequest_sends ((ha.slot r).trans hslot) ?_
          rw [ha.kln]
          refine clears.resolve_left (by omega) |>.imp_right fun ⟨loading, sent⟩ => ⟨loading, ?_⟩
          rw [← Bool.not_eq_true, queued_iff]
          rintro ⟨f, hf, op⟩
          exact sent f hf op
        rw [if_pos pins, sent] at ht
        obtain ⟨ranges, mapGen, deferring, working, slots, lane, frame⟩ :=
          ha.waits (State.sendClear_unchanged i a) (by decide) rfl ht
        refine ⟨ranges, mapGen, deferring, working, fun h => by omega, fun _ => ⟨?_, ?_⟩, frame.mono⟩
        · rw [slots, ← ha.kln]
          rfl
        · exact State.laneQueue_of_same lane (by rw [← ha.kln]; rfl) (by rw [← ha.kln]; rfl)
      · rw [if_neg pins] at ht
        obtain ⟨ranges, mapGen, deferring, working, slots, lane, frame⟩ := ha.waits (.refl [] a) (by decide) rfl ht
        refine ⟨ranges, mapGen, deferring, working, fun _ => ⟨slots.trans (by rw [ha.kln]), ?_⟩, fun h => absurd h pins,
          frame.mono⟩
        simpa only [Part.same, ha.kln] using lane
    · have unqueues : a.clearRequest r = (a.unload i Slot.emptied).clearComplete i :=
        State.clearRequest_unqueues ((ha.slot r).trans hslot) (by rw [ha.kln, loading])
          (by rw [ha.kln]; exact queued_iff.mpr hq)
      rw [if_pos unpinned, unqueues] at ht
      obtain ⟨ranges, keys, mapGen, slots, lane, ⟨d, kind, tag, finishes⟩, working, frame⟩ :=
        ha.completes hslot enabled (open_ lock) distinct awaited ht
      refine ⟨t, j, d, done, ranges, keys, mapGen, slots, ?_, State.get_freeDeferred hj, kind, tag, finishes, working, frame⟩
      rintro queue rfl
      exact lane
  · refine ⟨fun full => ?_, fun slot hdef unpinned clearing hf => ?_⟩
    · refine accepted _ fun m taken => ?_
      have busy : (s.onLnk fun _ => m).lockAll hd r = (s.onLnk fun _ => m).answer 0x24 hd.tag (.plain .busy) := by
        rw [State.lockAll, if_neg (by simp [hslot]), State.freeDeferred_taken taken, full]
      rw [all allMode lock, busy]
      exact State.answered_only taken
    · obtain ⟨j, hj⟩ := Option.isSome_iff_exists.mp hf
      subst hdef
      obtain ⟨t, done, a, ha, ht⟩ := asks i j allMode lock hslot hj
      have asked := State.clearRequest_clearing ((ha.slot r).trans hslot) (by rw [ha.kln, clearing])
      rw [ha.kln] at asked
      rw [if_pos unpinned, asked] at ht
      refine ⟨t, done, ?_⟩
      by_cases own : (s.kln.slots.get i).next.any (fun o => o.range = r) = true
      · rw [if_pos own] at ht
        obtain ⟨ranges, mapGen, deferring, working, slots, lane, frame⟩ :=
          ha.waits (State.unload_unchanged i (fun l => { l with next := none }) a) (by decide) rfl ht
        refine ⟨ranges, mapGen, deferring, working, fun o queue _ _ hqueue => ⟨?_, ?_⟩, fun other => ?_, frame.mono⟩
        · rw [slots, ← ha.kln]
          rfl
        · subst hqueue
          exact State.laneQueue_of_same lane (by rw [← ha.kln]; rfl) (by rw [← ha.kln]; rfl)
        · obtain ⟨o, ho, names⟩ := (Option.any_eq_true _ _).mp own
          exact absurd (of_decide_eq_true names) (other o ho)
      · rw [if_neg own] at ht
        obtain ⟨ranges, mapGen, deferring, working, slots, lane, frame⟩ := ha.waits (.refl [] a) (by decide) rfl ht
        refine ⟨ranges, mapGen, deferring, working, fun o queue next names _ => ?_, fun _ => frame.mono, frame.mono⟩
        exact absurd (by simp [next, names]) own
  · subst allMode
    refine accepted _ fun m taken => ?_
    have wrong : (s.onLnk fun _ => m).lockRange hd r .all = (s.onLnk fun _ => m).answer 0x24 hd.tag (.plain .wrongState) := by
      simp only [State.lockRange, lockOf, locking]
    rw [wrong]
    exact State.answered_only taken

end Sys2Proof.Machine
end

section
/-! PROOFS. What locking and opening ranges leaves of an entry, and the purge (R16, R19, R54, R64). -/

namespace Sys2Proof.Machine

/-- An entry but for its lock state and its slot: what no lock, clear, purge or opening changes. -/
def RangeEntry.material (e : RangeEntry) : RangeEntry := { e with lock := .locked, slot := none }

/-- An entry that waits for writes waits for the same ones in `t`, whichever lock it waits on beside them. -/
def State.KeepsWrites (s t : State) : Prop :=
  ∀ j d ws lock done fault, s.lnk.deferred.get j = some d → d.state = .working (.writes ws lock done fault) → ws ≠ [] →
    ∃ lock', t.lnk.deferred.get j = some { d with state := .working (.writes ws lock' done fault) }

/-- The map generation that held `g` as the occurrence began has been incremented if, and only if, the occurrence has done so. -/
def State.Counted (g : Nat) (s : State) : Prop := s.rmg.mapGen = if s.model.bumped then nextMapGen g else g

/-- What the locks, the clears, the purge and the openings of one occurrence have in common. -/
structure State.LockStep (s t : State) : Prop where
  material : ∀ q, (t.rmg.ranges.get q).material = (s.rmg.ranges.get q).material
  writes : s.KeepsWrites t
  counted : ∀ g, s.Counted g → t.Counted g
  bumped : s.model.bumped = true → t.model.bumped = true

theorem State.KeepsWrites.of_deferred {s t : State} (h : t.lnk.deferred = s.lnk.deferred) : s.KeepsWrites t := by
  intro j d ws lock done fault hd hs _
  exact ⟨lock, by rw [h, hd, ← hs]⟩

theorem State.KeepsWrites.trans {s t u : State} (h : s.KeepsWrites t) (k : t.KeepsWrites u) : s.KeepsWrites u := by
  intro j d ws lock done fault hd hs hw
  obtain ⟨lock', ht⟩ := h j d ws lock done fault hd hs hw
  exact k j { d with state := .working (.writes ws lock' done fault) } ws lock' done fault ht rfl hw

theorem State.LockStep.trans {s t u : State} (h : s.LockStep t) (k : t.LockStep u) : s.LockStep u :=
  ⟨fun q => (k.material q).trans (h.material q), h.writes.trans k.writes, fun g => k.counted g ∘ h.counted g,
    k.bumped ∘ h.bumped⟩

/-- A step over the entries alone, as far as the lock work sees it. -/
theorem State.LockStep.of_ranges {s t : State} (hr : ∀ q, (t.rmg.ranges.get q).material = (s.rmg.ranges.get q).material)
    (hd : t.lnk.deferred = s.lnk.deferred) (hg : t.rmg.mapGen = s.rmg.mapGen) (hm : t.model = s.model) : s.LockStep t :=
  ⟨hr, .of_deferred hd, fun g h => by rw [State.Counted, hg, hm]; exact h, fun h => by rw [hm]; exact h⟩

theorem State.LockStep.of_same {s t : State} (hr : t.rmg = s.rmg) (hd : t.lnk.deferred = s.lnk.deferred)
    (hm : t.model = s.model) : s.LockStep t := .of_ranges (fun q => by rw [hr]) hd (by rw [hr]) hm

theorem State.LockStep.refl (s : State) : s.LockStep s := .of_same rfl rfl rfl

theorem State.LockStep.foldl {α : Type} (f : State → α → State) (h : ∀ (s : State) a, s.LockStep (f s a)) (l : List α)
    (s : State) : s.LockStep (l.foldl f s) := by
  induction l generalizing s with
  | nil => exact .refl s
  | cons a l ih => exact (h s a).trans (ih _)

/-! ## The operations -/

theorem State.onRange_lockStep {r : RangeIx} {f : RangeEntry → RangeEntry} {s : State}
    (hf : ∀ e, (f e).material = e.material := by intro; rfl) : s.LockStep (s.onRange r f) := by
  refine .of_ranges (fun q => ?_) rfl rfl rfl
  rw [State.onRange_get]
  split
  · next h => rw [hf, h]
  · rfl

theorem State.bump_lockStep (s : State) : s.LockStep s.bump := by
  refine ⟨fun q => by rw [State.bump_ranges], .of_deferred (by rw [State.bump_lnk]), fun g h => ?_, fun _ => s.bump_bumped⟩
  rw [State.Counted, State.bump_bumped, State.bump_mapGen_eq, h]
  cases s.model.bumped <;> rfl

theorem State.openWith_lockStep (r : RangeIx) (k : Key) (lock : LockState) (s : State) : s.LockStep (s.openWith r k lock) :=
  State.LockStep.trans (t := s.cacheKey r (some k)) (.of_ranges (fun _ => rfl) rfl rfl rfl) State.onRange_lockStep

theorem State.eagerLoad_lockStep (r : RangeIx) (s : State) : s.LockStep (s.eagerLoad r) := by
  refine .of_ranges (fun q => ?_) (by rw [State.eagerLoad_lnk]) (State.eagerLoad_mapGen r s) (State.eagerLoad_model r s)
  rw [State.eagerLoad_get]
  split
  · next h => rw [h]; rfl
  · rfl

theorem State.eagerLoads_lockStep (opened : List RangeIx) (s : State) : s.LockStep (s.eagerLoads opened) :=
  .foldl _ (fun s r => by
    split
    · exact s.eagerLoad_lockStep r
    · exact .refl s) _ _

theorem State.addFaulty_lockStep (r : RecordId) (s : State) : s.LockStep (s.addFaulty r) := by
  unfold State.addFaulty
  split
  · exact .refl s
  · exact .of_same rfl rfl rfl

theorem openPlainStep_lockStep (from_ : LockState → Bool) (acc : State × List RangeIx) (r : RangeIx) :
    acc.1.LockStep (openPlainStep from_ acc r).1 := by
  unfold openPlainStep
  split
  · split
    · exact State.openWith_lockStep _ _ _ _
    · exact State.addFaulty_lockStep _ _
  · exact .refl _

theorem openPlainSteps_lockStep (from_ : LockState → Bool) (rs : List RangeIx) (acc : State × List RangeIx) :
    acc.1.LockStep (rs.foldl (openPlainStep from_) acc).1 := by
  induction rs generalizing acc with
  | nil => exact .refl _
  | cons r rs ih => exact (openPlainStep_lockStep from_ acc r).trans (ih _)

theorem State.openPlain_lockStep (from_ : LockState → Bool) (rs : List RangeIx) (s : State) :
    s.LockStep (s.openPlain from_ rs) := by
  have opened := openPlainSteps_lockStep from_ rs (s, [])
  unfold State.openPlain
  simp only
  split
  · exact opened
  · exact (opened.trans (State.eagerLoads_lockStep _ _)).trans (State.bump_lockStep _)

theorem State.finishLock_keepsWrites (r : RangeIx) (s : State) : s.KeepsWrites (s.finishLock r) := by
  intro j d ws lock done fault hd hs hw
  by_cases h : s.awaited j = some r
  · have get : (s.finishLock r).lnk.deferred.get j = _ := Table.get_imap _ _ _
    refine ⟨none, get.trans ?_⟩
    have awaits : lock = some r := by simpa [State.awaited, hd, hs, Work.awaits] using h
    show Option.map _ (s.lnk.deferred.get j) = _
    rw [hd]
    simp [hs, lockDone, awaits, writesState, hw]
  · exact ⟨lock, by rw [State.finishLock_deferred_other h, hd, ← hs]⟩

theorem State.finishLock_lockStep (r : RangeIx) (s : State) : s.LockStep (s.finishLock r) := by
  refine ⟨fun q => ?_, s.finishLock_keepsWrites r, fun _ => id, id⟩
  rw [State.finishLock_get]
  split
  · next h => rw [h]; rfl
  · rfl

theorem State.removeSlotField_lockStep (r : RangeIx) (i : SlotIx) (s : State) : s.LockStep (s.removeSlotField r i) :=
  State.onRange_lockStep fun e => by split <;> rfl

theorem State.clearComplete_lockStep (i : SlotIx) (s : State) : s.LockStep (s.clearComplete i) := by
  unfold State.clearComplete
  split
  · split
    · exact ((s.finishLock_lockStep _).trans (State.bump_lockStep _)).trans (State.openPlain_lockStep _ _ _)
    · exact s.removeSlotField_lockStep _ _
  · exact .refl s

theorem State.clearRequest_lockStep (r : RangeIx) (s : State) : s.LockStep (s.clearRequest r) := by
  unfold State.clearRequest
  split
  · exact .refl s
  · split
    · exact .of_same rfl rfl rfl
    · split
      · refine State.LockStep.trans ?_ (State.clearComplete_lockStep _ _)
        exact .of_same rfl rfl rfl
      · exact .of_same rfl rfl rfl
    · split
      · exact .of_same rfl rfl rfl
      · exact .refl s
    · exact .refl s
    · exact .refl s

/-! ## The purge (R64) -/

/-- The state in which a purge without a fault has emptied the lane, the slots, the slot fields and the verdict table, no lock yet
completed. -/
def State.swept (s : State) : State :=
  (((s.onKln fun k =>
      { k with
        slots := k.slots.imap fun _ l => l.emptied
        queue := [], lane := .idle, badRun := 0, purgePulse := true }).cancelAll Purpose.purged).onSrv fun v =>
    { v with verdicts := [] }).onRmg fun m => { m with ranges := m.ranges.imap fun _ e => { e with slot := none } }

/-- The LOCKING ranges, in ascending order. -/
def State.lockingRanges (s : State) : List RangeIx := (List.finRange 16).filter fun r => (s.rmg.ranges.get r).lock == .locking

/-- The locks of these ranges completed, in order. -/
def State.finishLocks (rs : List RangeIx) (s : State) : State := rs.foldl (fun s r => s.finishLock r) s

theorem State.purgeEffects_eq (s : State) : s.purgeEffects false =
    (s.swept.finishLocks s.lockingRanges).openPlain LockState.isLocked s.lockingRanges := rfl

theorem State.purge_eq (cause : VoidCause) (s : State) : s.purge cause false =
    (s.purgeEffects false).bump.notify (.void (s.purgeEffects false).bump.rmg.mapGen cause) := rfl

theorem State.swept_lockStep (s : State) : s.LockStep s.swept :=
  .of_ranges (fun q => by rw [State.swept, State.onRmg_rmg, Table.get_imap]; rfl) rfl rfl rfl

theorem Lnk.raise_deferred (n : Notice) (l : Lnk) : (l.raise n).deferred = l.deferred := (Lnk.raise_frame n l).2.2.1

theorem State.notify_lockStep (n : Notice) (s : State) : s.LockStep (s.notify n) := by
  unfold State.notify
  split
  · exact .of_same rfl (Lnk.raise_deferred n _) rfl
  · exact .refl s

theorem State.purge_lockStep (cause : VoidCause) (s : State) : s.LockStep (s.purge cause false) := by
  rw [State.purge_eq, State.purgeEffects_eq]
  refine State.LockStep.trans ?_ (State.notify_lockStep _ _)
  refine State.LockStep.trans ?_ (State.bump_lockStep _)
  refine State.LockStep.trans ?_ (State.openPlain_lockStep _ _ _)
  exact s.swept_lockStep.trans (.foldl _ (fun s r => s.finishLock_lockStep r) _ _)

end Sys2Proof.Machine
end

section
/-! PROOFS. A range locked afresh and opened again by R16, the purge's locks, and what the marks leave of LNK and the lane. -/

namespace Sys2Proof.Machine

/-! ## What the marks leave -/

theorem Lnk.onWork_keepsTold (f : Work → DeferState) (l : Lnk) : l.KeepsTold (Lnk.onWork f l) := by
  refine ⟨fun i e r told => told.imp_left fun ready => ?_, fun _ => id⟩
  have get : (Lnk.onWork f l).deferred.get i = _ := Table.get_imap _ _ _
  rw [get, ready]
  rfl

theorem State.beginOp_keepsTold (s : State) : s.lnk.KeepsTold s.beginOp.lnk := by
  unfold State.beginOp
  split
  · split
    · exact .refl _
    · exact Lnk.onWork_keepsTold _ _
    · split
      · exact .refl _
      · exact Lnk.onWork_keepsTold _ _
  · exact .refl _

theorem State.beginOp_kln (s : State) : s.beginOp.kln = s.kln := by
  unfold State.beginOp
  split
  · split
    · rfl
    · rfl
    · split <;> rfl
  · rfl

theorem State.mark_keepsTold (r : RecordId) (s : State) : s.lnk.KeepsTold (s.mark r).lnk :=
  State.beginOp_keepsTold ((s.onSto _).onModel _)

theorem State.markAll_keepsTold (rs : List RecordId) (s : State) : s.lnk.KeepsTold (s.markAll rs).lnk := by
  induction rs generalizing s with
  | nil => exact .refl _
  | cons r rs ih => exact (s.mark_keepsTold r).trans (ih _)

theorem State.markAll_kln (rs : List RecordId) (s : State) : (s.markAll rs).kln = s.kln := by
  induction rs generalizing s with
  | nil => rfl
  | cons r rs ih => exact (ih _).trans (State.beginOp_kln _)

/-- A pulse of PURGE keeps the lane from its next frame (R67). -/
theorem State.settle_kln_of_pulse {s : State} (h : s.kln.purgePulse = true) : s.settle.kln = s.kln := by
  have grant : s.grantLink.kln = s.kln := by
    unfold State.grantLink
    split <;> rfl
  have start : s.grantLink.laneStart = s.grantLink := by
    rw [State.laneStart, if_neg]
    simp [grant, h]
  have sync (u : State) : u.syncAbsence.kln = u.kln := by
    unfold State.syncAbsence
    split
    · split <;> rfl
    · rfl
  rw [State.settle, start]
  exact (sync _).trans grant

/-! ## A notice raised -/

theorem mem_insertNotice (n : Notice) (l : List Notice) : n ∈ insertNotice n l := by
  induction l with
  | nil => exact List.mem_singleton_self n
  | cons m l ih =>
    unfold insertNotice
    split
    · exact List.mem_cons_self
    · exact List.mem_cons_of_mem _ ih

theorem State.notified_notify {n : Notice} {s : State} (h : s.linkOpen = true) : (s.notify n).Notified n := by
  rw [State.notify, if_pos h]
  show OutFrame.notice n ∈ (s.lnk.raise n).outbound ∨ n ∈ (s.lnk.raise n).pendingSet
  unfold Lnk.raise
  split
  · next queued =>
    obtain ⟨f, hf, kind⟩ := List.any_eq_true.mp queued
    exact .inl (List.mem_map.mpr ⟨f, hf, if_pos kind⟩)
  · split
    · next pending =>
      obtain ⟨k, hk, rank⟩ := List.any_eq_true.mp pending
      exact .inr (List.mem_map.mpr ⟨k, hk, if_pos (of_decide_eq_true rank)⟩)
    · split
      · exact .inl (List.mem_append_right _ (List.mem_singleton_self _))
      · exact .inr (mem_insertNotice n _)

/-! ## Several ranges at once -/

theorem State.finishLocks_get (rs : List RangeIx) (s : State) (q : RangeIx) : (s.finishLocks rs).rmg.ranges.get q =
    if q ∈ rs then { s.rmg.ranges.get q with lock := .locked, slot := none } else s.rmg.ranges.get q := by
  induction rs generalizing s with
  | nil => rfl
  | cons r rs ih =>
    rw [State.finishLocks, List.foldl_cons]
    refine (ih _).trans ?_
    rw [State.finishLock_get]
    by_cases h : q ∈ rs
    · by_cases e : r = q
      · simp [h, e]
      · simp [h, e]
    · by_cases e : r = q
      · simp [e]
      · simp [h, e, Ne.symm e]

theorem State.finishLocks_key (rs : List RangeIx) (s : State) (q : RangeIx) : (s.finishLocks rs).rmg.rangeKeys.get q =
    if q ∈ rs then none else s.rmg.rangeKeys.get q := by
  induction rs generalizing s with
  | nil => rfl
  | cons r rs ih =>
    rw [State.finishLocks, List.foldl_cons]
    refine (ih _).trans ?_
    have key : (s.finishLock r).rmg.rangeKeys.get q = if r = q then none else s.rmg.rangeKeys.get q := Table.get_set _ _ _ _
    rw [key]
    by_cases h : q ∈ rs
    · simp [h]
    · by_cases e : r = q
      · simp [e]
      · simp [h, e, Ne.symm e]

theorem State.finishLocks_kln (rs : List RangeIx) (s : State) : (s.finishLocks rs).kln = s.kln := by
  induction rs generalizing s with
  | nil => rfl
  | cons r rs ih => exact (ih _).trans rfl

theorem State.finishLocks_unchanged (rs : List RangeIx) (s : State) :
    Unchanged [.rangeKeys, .ranges, .deferred] s (s.finishLocks rs) :=
  Unchanged.foldl _ (fun s r => s.finishLock_unchanged r) _ _

theorem State.opensPlain_congr {from_ : LockState → Bool} {q : RangeIx} {s t : State}
    (hr : t.rmg.ranges.get q = s.rmg.ranges.get q) (hl : t.thm = s.thm) : t.opensPlain from_ q = s.opensPlain from_ q := by
  simp only [State.opensPlain, State.defined, hr, hl]

/-- R16 for one range changes nothing that lets another open. -/
theorem openPlainStep_opensPlain_other {from_ : LockState → Bool} {acc : State × List RangeIx} {q r : RangeIx} (h : q ≠ r) :
    (openPlainStep from_ acc r).1.opensPlain from_ q = acc.1.opensPlain from_ q := by
  unfold openPlainStep
  split
  · split
    · exact State.opensPlain_congr ((State.openWith_get _ _ _ _ _).trans (if_neg (Ne.symm h))) rfl
    · unfold State.addFaulty
      split <;> rfl
  · rfl

theorem openPlainSteps_closed {from_ : LockState → Bool} {rs : List RangeIx} {acc : State × List RangeIx}
    (h : ∀ q ∈ rs, acc.1.opensPlain from_ q = false) : rs.foldl (openPlainStep from_) acc = acc := by
  induction rs with
  | nil => rfl
  | cons r rs ih =>
    have here : openPlainStep from_ acc r = acc := by
      rw [openPlainStep, if_neg (by simp [h r List.mem_cons_self])]
    rw [List.foldl_cons, here]
    exact ih fun q hq => h q (List.mem_cons_of_mem _ hq)

/-- Of several ranges of which R16 lets at most `r` open, R16 for `r` alone comes to the same. -/
theorem State.openPlain_only {from_ : LockState → Bool} {rs : List RangeIx} {r : RangeIx} {s : State} (hr : r ∈ rs)
    (hn : rs.Nodup) (h : ∀ q ∈ rs, q ≠ r → s.opensPlain from_ q = false) : s.openPlain from_ rs = s.openPlain from_ [r] := by
  obtain ⟨before, after, rfl⟩ := List.append_of_mem hr
  obtain ⟨-, tail, apart⟩ := List.nodup_append.mp hn
  have first : before.foldl (openPlainStep from_) (s, []) = (s, []) := by
    refine openPlainSteps_closed fun q hq => h q (List.mem_append_left _ hq) ?_
    exact apart q hq r List.mem_cons_self
  have last (acc : State × List RangeIx) (hacc : acc = openPlainStep from_ (s, []) r) :
      after.foldl (openPlainStep from_) acc = acc := by
    subst hacc
    refine openPlainSteps_closed fun q hq => ?_
    have ne : q ≠ r := by
      rintro rfl
      exact (List.nodup_cons.mp tail).1 hq
    rw [openPlainStep_opensPlain_other ne]
    exact h q (List.mem_append_right _ (List.mem_cons_of_mem _ hq)) ne
  have same : (before ++ r :: after).foldl (openPlainStep from_) (s, []) = [r].foldl (openPlainStep from_) (s, []) := by
    rw [List.foldl_append, first, List.foldl_cons, last _ rfl]
    rfl
  rw [State.openPlain, same]
  rfl

/-! ## A range locked afresh (R16, R20) -/

/-- In `p` range `r` has just been LOCKED, without a slot or a cached key; R16 lets it open, with key `k`, unless it stays shut. -/
structure State.LockedAfresh (r : RangeIx) (k : Key) (shut : Bool) (p : State) : Prop where
  lock : (p.rmg.ranges.get r).lock = .locked
  slot : (p.rmg.ranges.get r).slot = none
  key : p.rmg.rangeKeys.get r = none
  opens : p.opensPlain LockState.isLocked r = !shut
  wrap : shut = false → (p.rmg.ranges.get r).deviceWrap = some (wrapped .device k)

/-- Range `r` has been locked afresh in `p`, and in `t` R16 has opened it where it does not stay shut. -/
structure State.Relocks (r : RangeIx) (k : Key) (shut : Bool) (p t : State) : Prop where
  stays : shut = true → (t.rmg.ranges.get r).lock = .locked ∧ t.rmg.rangeKeys.get r = none ∧
    (t.rmg.ranges.get r).slot = none ∧ t.Loads [] p.kln.slots p.kln.queue p.kln.lane
  opens : shut = false → (t.rmg.ranges.get r).lock = .opened ∧ t.rmg.rangeKeys.get r = some k ∧
    t.Loads [r] p.kln.slots p.kln.queue p.kln.lane
  others : ∀ q, q ≠ r → t.rmg.ranges.get q = p.rmg.ranges.get q ∧ t.rmg.rangeKeys.get q = p.rmg.rangeKeys.get q

section
variable {r : RangeIx} {k : Key} {shut : Bool} {p : State} (h : State.LockedAfresh r k shut p)
include h

theorem State.LockedAfresh.stays_shut (hs : shut = true) : p.openPlain LockState.isLocked [r] = p := by
  refine State.openPlain_closed ?_
  rw [h.opens, hs]
  rfl

theorem State.LockedAfresh.opened (hs : shut = false) : p.Opened r k .opened (p.openPlain LockState.isLocked [r]) :=
  (State.openPlain_cases fun _ => h.wrap hs).1 (by rw [h.opens, hs]; rfl)

/-- R16 has nothing more to open in the range. -/
theorem State.LockedAfresh.closed : (p.openPlain LockState.isLocked [r]).opensPlain LockState.isLocked r = false := by
  cases hs : shut with
  | true =>
    rw [h.stays_shut hs, h.opens, hs]
    rfl
  | false =>
    rw [State.opensPlain, (h.opened hs).entry]
    simp [LockState.isLocked]

theorem State.LockedAfresh.settled :
    (p.openPlain LockState.isLocked [r]).openPlain LockState.isLocked [r] = p.openPlain LockState.isLocked [r] :=
  State.openPlain_closed h.closed

theorem State.LockedAfresh.relocks {e : List Part} {t : State} (frame : Unchanged e (p.openPlain LockState.isLocked [r]) t)
    (he : Part.rangeKeys ∉ e ∧ Part.ranges ∉ e ∧ Part.slots ∉ e ∧ Part.lane ∉ e ∧ Part.uptime ∉ e := by decide) :
    State.Relocks r k shut p t := by
  obtain ⟨noKeys, noRanges, noSlots, noLane, noUptime⟩ := he
  have keys : t.rmg.rangeKeys = _ := frame .rangeKeys noKeys
  have ranges : t.rmg.ranges = _ := frame .ranges noRanges
  cases hs : shut with
  | true =>
    rw [h.stays_shut hs] at keys ranges frame
    refine ⟨fun _ => ⟨?_, ?_, ?_, State.loads_nil frame ⟨noSlots, noLane⟩⟩, nofun,
      fun q _ => ⟨by rw [ranges], by rw [keys]⟩⟩
    · rw [ranges, h.lock]
    · rw [keys, h.key]
    · rw [ranges, h.slot]
  | false =>
    have o := h.opened hs
    refine ⟨nofun, fun _ => ⟨?_, ?_, o.loads h.slot e t frame ⟨noRanges, noSlots, noLane, noUptime⟩⟩, fun q hq => ?_⟩
    · rw [ranges, o.entry]
    · rw [keys, o.keys, Table.get_set_self]
    · rw [ranges, keys, o.others q hq, o.keys, Table.get_set_ne _ _ (Ne.symm hq)]
      exact ⟨rfl, rfl⟩

/-- R16 leaves the lane where it stands. -/
theorem State.LockedAfresh.lane : (p.openPlain LockState.isLocked [r]).kln.lane = p.kln.lane := by
  cases hs : shut with
  | true => rw [h.stays_shut hs]
  | false =>
    have opens : p.opensPlain LockState.isLocked r = true := by rw [h.opens, hs]; rfl
    rw [State.openPlain_opens opens (by rw [h.wrap hs]; exact unwrap_wrapped _ _), State.bump_kln]
    unfold State.eagerLoad
    split
    · rfl
    · split <;> rfl

end

/-- No opening of a range that is not LOCKED. -/
theorem State.opensPlain_not_locked {r : RangeIx} {s : State} (h : (s.rmg.ranges.get r).lock ≠ .locked) :
    s.opensPlain LockState.isLocked r = false := by
  simp [State.opensPlain, LockState.isLocked, h]

end Sys2Proof.Machine
end

section
/-! PROOFS. REKEY_RANGE (R20, R21, R48, R54). -/

namespace Sys2Proof.Machine

/-- The entry `e` with the fresh key that is the random value with number `n`. -/
def RangeEntry.rekeyed (e : RangeEntry) (domain : Key) (n : Nat) : RangeEntry :=
  { e with
    keyState := .keyed, generation := (e.generation + 1) % 65536, domainWrap := some (wrapped domain (.drawn n))
    deviceWrap := if e.flags.lockEnabled then none else some (wrapped .device (.drawn n)) }

/-- The envelopes of a range's users, which its new key leaves without use. -/
def State.envelopesOf (r : RangeIx) (s : State) : List EnvIx := s.envelopesWhere fun e => e.target == .range r

/-- The records REKEY_RANGE marks. -/
def State.rekeyRecords (r : RangeIx) (s : State) : List RecordId := (s.envelopesOf r).map RecordId.envelope ++ [.rangeKey r]

/-- The state in which REKEY_RANGE has made the new key and taken its deferred-reply entry, before the forced lock. -/
def State.rekeyAsked (hd : Header) (r : RangeIx) (domain : Key) (u : State) : State :=
  let s1 := (u.deleteEnvelopes (u.envelopesOf r)).freshKey domain r
  s1.deferWrites 0x26 hd .rmg (some r) (u.rekeyRecords r) (if s1.pinsOf r = some 0 then some r else none)
    { result := .ok, body := .rekeyed (s1.rmg.ranges.get r).generation } (storeFault (.range r))

/-- The forced lock, and R16 for the range after it. -/
def State.rekeyDone (r : RangeIx) (a : State) : State := ((a.rekeyLock r).bump).openPlain LockState.isLocked [r]

theorem State.rekey_eq (hd : Header) (r : RangeIx) (domain : Key) (u : State) :
    u.rekey hd r domain = (((u.rekeyAsked hd r domain).rekeyDone r).markAll (u.rekeyRecords r)) := rfl

/-- What `a` is once REKEY_RANGE has made the new key in `s` and taken its entry. -/
structure State.RekeyAsked (hd : Header) (r : RangeIx) (domain : Key) (s a : State) : Prop where
  get : ∀ q, a.rmg.ranges.get q = if r = q then (s.rmg.ranges.get r).rekeyed domain s.model.draws else s.rmg.ranges.get q
  keys : a.rmg.rangeKeys = s.rmg.rangeKeys
  kln : a.kln = s.kln
  thm : a.thm = s.thm
  tmb : a.tmb = s.tmb
  counted : a.Counted s.rmg.mapGen
  draws : a.model.draws = s.model.draws + 1
  envelopes : ∀ p, a.rmg.envelopes.get p = if p ∈ s.envelopesOf r then none else s.rmg.envelopes.get p
  waiting : a.lnk.waiting = none
  entry : ∃ j ws lock done fault, s.lnk.deferred.get j = none ∧ (∀ i, i < j → (s.lnk.deferred.get i).isSome) ∧ ws ≠ [] ∧
    a.lnk.deferred.get j = some
      { kind := 0x26, tag := hd.tag, owner := .rmg, range := some r, state := .working (.writes ws lock done fault) }
  frame : Unchanged [.waiting, .deferred, .envelopes, .grants, .ranges, .draws] s a

theorem State.renewed_get (r q : RangeIx) (domain : Key) (u : State) :
    ((u.deleteEnvelopes (u.envelopesOf r)).freshKey domain r).rmg.ranges.get q =
      if r = q then (u.rmg.ranges.get r).rekeyed domain u.model.draws else u.rmg.ranges.get q :=
  State.freshKey_get domain r q (u.deleteEnvelopes (u.envelopesOf r))

theorem State.renewed_envelope (r : RangeIx) (p : EnvIx) (domain : Key) (u : State) :
    ((u.deleteEnvelopes (u.envelopesOf r)).freshKey domain r).rmg.envelopes.get p =
      if p ∈ u.envelopesOf r then none else u.rmg.envelopes.get p :=
  State.deleteEnvelopes_get _ _ _

theorem State.rekeyAsked_spec {s : State} {hd : Header} {r : RangeIx} {domain : Key} {m : Lnk} (taken : s.lnk.Taken 1 m)
    (hb : s.model.bumped = false) (hf : s.freeDeferred.isSome) :
    State.RekeyAsked hd r domain s ((s.onLnk fun _ => m).rekeyAsked hd r domain) := by
  obtain ⟨j, hj⟩ := Option.isSome_iff_exists.mp hf
  obtain ⟨b, hb'⟩ : ∃ b, b = ((s.onLnk fun _ => m).deleteEnvelopes ((s.onLnk fun _ => m).envelopesOf r)).freshKey domain r :=
    ⟨_, rfl⟩
  obtain ⟨free, below⟩ := Table.lowest_some (show s.lnk.deferred.lowest Option.isNone = some j from hj)
  have link : b.lnk = m := hb' ▸ rfl
  have place : b.freeDeferred = some j := by
    rw [State.freeDeferred, link, taken.deferred]
    exact hj
  have asked : (s.onLnk fun _ => m).rekeyAsked hd r domain =
      b.defer j 0x26 hd.tag .rmg (some r) (.writes (waitsFor (s.rekeyRecords r)) (if b.pinsOf r = some 0 then some r else none)
        { result := .ok, body := .rekeyed (b.rmg.ranges.get r).generation } (storeFault (.range r))) := by
    rw [State.rekeyAsked, ← hb', State.deferWrites, place]
    rfl
  have frame : Unchanged [.waiting, .envelopes, .grants, .ranges, .draws] s b :=
    hb' ▸ ((State.taken_unchanged taken).append ((State.deleteEnvelopes_unchanged _ _).append
      (State.freshKey_unchanged _ _ _))).mono
  rw [asked]
  refine ⟨fun q => ?_, frame .rangeKeys (by decide), hb' ▸ rfl, hb' ▸ rfl, hb' ▸ rfl, ?_, hb' ▸ rfl, fun p => ?_, ?_,
    ⟨j, _, _, _, _, by simpa using free, fun i hi => ?_, ?_, Table.get_set_self _ _ _⟩,
    (frame.append (State.defer_unchanged _ _ _ _ _ _ _)).mono⟩
  · exact hb' ▸ State.renewed_get r q domain (s.onLnk fun _ => m)
  · have bumped : b.model.bumped = false := hb' ▸ hb
    have mapGen : b.rmg.mapGen = s.rmg.mapGen := hb' ▸ rfl
    show b.rmg.mapGen = if b.model.bumped then _ else _
    rw [bumped, mapGen]
    rfl
  · exact hb' ▸ State.renewed_envelope r p domain (s.onLnk fun _ => m)
  · show b.lnk.waiting = none
    rw [link, taken.waiting]
  · have := below i hi
    cases h : s.lnk.deferred.get i <;> simp_all
  · simp [waitsFor, State.rekeyRecords]

/-! ## The forced lock, by the range's slot -/

theorem State.rekeyLock_lockStep (r : RangeIx) (a : State) : a.LockStep (a.rekeyLock r) := by
  unfold State.rekeyLock
  split
  · exact a.finishLock_lockStep r
  · exact State.LockStep.trans State.onRange_lockStep (State.clearRequest_lockStep _ _)
  · exact State.LockStep.trans State.onRange_lockStep (State.purge_lockStep _ _)

theorem State.rekeyDone_lockStep (r : RangeIx) (a : State) : a.LockStep (a.rekeyDone r) :=
  ((a.rekeyLock_lockStep r).trans (State.bump_lockStep _)).trans (State.openPlain_lockStep _ _ _)

theorem State.rekeyDone_bumped (r : RangeIx) (a : State) : (a.rekeyDone r).model.bumped = true :=
  (State.openPlain_lockStep _ _ _).bumped (State.bump_bumped _)

theorem State.rekeyLock_unchanged (r : RangeIx) (a : State) :
    Unchanged (Part.notices ++ Part.purges) a (a.rekeyLock r) := by
  unfold State.rekeyLock
  split
  · exact (a.finishLock_unchanged r).mono
  · exact ((a.onRange_unchanged r _).append (State.clearRequest_unchanged _ _)).mono
  · exact ((a.onRange_unchanged r _).append (State.purge_unchanged _ _ _)).mono

theorem State.rekeyDone_unchanged (r : RangeIx) (a : State) : Unchanged (Part.notices ++ Part.purges) a (a.rekeyDone r) :=
  (((a.rekeyLock_unchanged r).append (State.bump_unchanged _)).append (State.openPlain_unchanged _ _ _)).mono

theorem State.pinsOf_some {r : RangeIx} {i : SlotIx} {a : State} (hs : (a.rmg.ranges.get r).slot = some i) :
    a.pinsOf r = some (a.kln.slots.get i).pins := by
  rw [State.pinsOf, hs]
  rfl

/-- The range LOCKING, before its slot is cleared or the purge. -/
def State.shutting (r : RangeIx) (a : State) : State := a.onRange r fun e => { e with lock := .locking }

section
variable {r : RangeIx} {i : SlotIx} {a : State}

theorem State.rekeyLock_unslotted (hs : (a.rmg.ranges.get r).slot = none) : a.rekeyLock r = a.finishLock r := by
  have pins : a.pinsOf r = none := by rw [State.pinsOf, hs]; rfl
  rw [State.rekeyLock, pins]

theorem State.rekeyLock_unpinned (hs : (a.rmg.ranges.get r).slot = some i) (hp : (a.kln.slots.get i).pins = 0) :
    a.rekeyLock r = (a.shutting r).clearRequest r := by
  rw [State.rekeyLock, State.pinsOf_some hs, hp]
  rfl

theorem State.rekeyLock_pinned (hs : (a.rmg.ranges.get r).slot = some i) (hp : 1 ≤ (a.kln.slots.get i).pins) :
    a.rekeyLock r = (a.shutting r).purge .rekey false := by
  obtain ⟨n, hn⟩ : ∃ n, (a.kln.slots.get i).pins = n + 1 := ⟨_, (Nat.sub_add_cancel hp).symm⟩
  rw [State.rekeyLock, State.pinsOf_some hs, hn]
  rfl

/-- Without a purge the forced lock concerns no more than the clear of a slot does. -/
theorem State.rekeyDone_unchanged_unpinned (h : ∀ i, (a.rmg.ranges.get r).slot = some i → (a.kln.slots.get i).pins = 0) :
    Unchanged Part.clears a (a.rekeyDone r) := by
  have locked : Unchanged Part.clears a (a.rekeyLock r) := by
    cases hs : (a.rmg.ranges.get r).slot with
    | none =>
      rw [State.rekeyLock_unslotted hs]
      exact (a.finishLock_unchanged r).mono
    | some i =>
      rw [State.rekeyLock_unpinned hs (h i hs)]
      exact ((a.onRange_unchanged r _).append (State.clearRequest_unchanged _ _)).mono
  exact ((locked.append (State.bump_unchanged _)).append (State.openPlain_unchanged _ _ _)).mono

end

/-- The range of the new key, LOCKED without a slot, its old key gone. -/
theorem State.lockedAfresh_rekeyed {r : RangeIx} {domain : Key} {s p : State} (defined : s.defined r = true) (hw : s.thm.level ≠ .wiping)
    (entry : p.rmg.ranges.get r = ((s.rmg.ranges.get r).rekeyed domain s.model.draws).material)
    (key : p.rmg.rangeKeys.get r = none) (thm : p.thm.level = s.thm.level) :
    State.LockedAfresh r (.drawn s.model.draws)
      ((s.rmg.ranges.get r).flags.lockEnabled || s.thm.level == .alarm) p := by
  have opensLevel : s.thm.level.opensPlain = !(s.thm.level == .alarm) := by
    cases h : s.thm.level <;> simp_all [Level.opensPlain]
  refine ⟨by rw [entry]; rfl, by rw [entry]; rfl, key, ?_, fun h => ?_⟩
  · have defined' : p.defined r = true := by
      rw [State.defined, entry]
      exact defined
    rw [State.opensPlain, defined', thm, opensLevel, entry]
    cases enabled : (s.rmg.ranges.get r).flags.lockEnabled <;>
      simp [RangeEntry.material, RangeEntry.rekeyed, enabled, LockState.isLocked]
  · obtain ⟨plain, -⟩ := Bool.or_eq_false_iff.mp h
    rw [entry]
    simp [RangeEntry.material, RangeEntry.rekeyed, plain]

/-! ## What holds whichever way the range is locked -/

/-- From `s` to `t` range `r` becomes LOCKING and keeps slot `i`; slots and lane queue are those of `x`, and no key and no other range
changes. -/
structure State.StaysLocking (r : RangeIx) (i : SlotIx) (s x t : State) : Prop where
  lock : (t.rmg.ranges.get r).lock = .locking
  slot : (t.rmg.ranges.get r).slot = some i
  keys : t.rmg.rangeKeys = s.rmg.rangeKeys
  others : ∀ q, q ≠ r → t.rmg.ranges.get q = s.rmg.ranges.get q
  slots : t.kln.slots = x.kln.slots
  lane : Part.same x t .lane

section
variable {hd : Header} {r : RangeIx} {domain : Key} {s a t : State} (ha : State.RekeyAsked hd r domain s a)
include ha

theorem State.RekeyAsked.slot (q : RangeIx) : (a.rmg.ranges.get q).slot = (s.rmg.ranges.get q).slot := by
  rw [ha.get]
  split
  · next h => rw [← h]; rfl
  · rfl

theorem State.RekeyAsked.shutting_get (q : RangeIx) : (a.shutting r).rmg.ranges.get q =
    if r = q then { (s.rmg.ranges.get r).rekeyed domain s.model.draws with lock := .locking } else s.rmg.ranges.get q := by
  rw [State.shutting, State.onRange_get, ha.get, ha.get, if_pos rfl]
  split <;> rfl

theorem State.RekeyAsked.deferring {e : List Part} {c : State} (step : a.LockStep c) (k : Unchanged e a c)
    (he : Part.waiting ∉ e := by decide) : s.Deferring 0x26 hd.tag .rmg c := by
  obtain ⟨j, ws, lock, done, fault, free, below, some_, entry⟩ := ha.entry
  obtain ⟨lock', entry'⟩ := step.writes j _ ws lock done fault entry rfl some_
  have waiting : c.lnk.waiting = a.lnk.waiting := k .waiting he
  exact ⟨waiting.trans ha.waiting, j, _, free, below, entry', rfl, rfl, rfl, rfl⟩

/-- The key, the envelopes, the map generation, the deferred reply and the marks. -/
theorem State.RekeyAsked.common (ht : t = ((a.rekeyDone r).markAll (s.rekeyRecords r)).settle) :
    (t.rmg.ranges.get r).material = ((s.rmg.ranges.get r).rekeyed domain s.model.draws).material ∧
      (∀ p, t.rmg.envelopes.get p = if p ∈ s.envelopesOf r then none else s.rmg.envelopes.get p) ∧
      t.rmg.mapGen = nextMapGen s.rmg.mapGen ∧ s.Deferring 0x26 hd.tag .rmg t ∧
      (∀ q ∈ s.rekeyRecords r, t.Marked q) ∧ t.model.draws = s.model.draws + 1 := by
  have step := a.rekeyDone_lockStep r
  have bumped := a.rekeyDone_bumped r
  have done := a.rekeyDone_unchanged r
  obtain ⟨c, hc⟩ : ∃ c, c = a.rekeyDone r := ⟨_, rfl⟩
  rw [← hc] at step bumped done ht
  have tail : Unchanged Part.marks c t := ht ▸ ((State.markAll_unchanged _ c).append (State.settle_unchanged _)).mono
  have ranges : t.rmg.ranges = c.rmg.ranges := tail .ranges (by decide)
  have mapGen : t.rmg.mapGen = c.rmg.mapGen := tail .mapGen (by decide)
  have envelopes : t.rmg.envelopes = a.rmg.envelopes := (done.append tail) .envelopes (by decide)
  have draws : t.model.draws = a.model.draws := (done.append tail) .draws (by decide)
  refine ⟨?_, fun p => by rw [envelopes, ha.envelopes], ?_, (ha.deferring step done).step tail, fun q hq => ?_,
    draws.trans ha.draws⟩
  · rw [ranges, step.material, ha.get, if_pos rfl]
  · rw [mapGen, step.counted _ ha.counted, bumped]
    rfl
  · rw [ht]
    exact (State.marked_markAll hq c).of_sto (State.settle_sto _)

/-! ## By the range's slot -/

/-- Without a slot the range is LOCKED at once. -/
theorem State.RekeyAsked.unslotted (defined : s.defined r = true) (hw : s.thm.level ≠ .wiping)
    (hs : (s.rmg.ranges.get r).slot = none) (ht : t = ((a.rekeyDone r).markAll (s.rekeyRecords r)).settle) :
    ∃ p, State.Relocks r (.drawn s.model.draws) ((s.rmg.ranges.get r).flags.lockEnabled || s.thm.level == .alarm) p t ∧
      p.kln = s.kln ∧
      ∀ q, q ≠ r → p.rmg.ranges.get q = s.rmg.ranges.get q ∧ p.rmg.rangeKeys.get q = s.rmg.rangeKeys.get q := by
  have locked := State.rekeyLock_unslotted ((ha.slot r).trans hs)
  have afresh : State.LockedAfresh r (.drawn s.model.draws)
      ((s.rmg.ranges.get r).flags.lockEnabled || s.thm.level == .alarm) (a.finishLock r).bump := by
    refine State.lockedAfresh_rekeyed (domain := domain) defined hw ?_ ?_ ?_
    · rw [State.bump_ranges, State.finishLock_get, if_pos rfl, ha.get, if_pos rfl]
      rfl
    · rw [State.bump_keys]
      exact Table.get_set_self _ _ _
    · exact (congrArg Thm.level ha.thm ▸ (((State.finishLock_unchanged r a).append (State.bump_unchanged _)) .level (by decide)))
  refine ⟨_, afresh.relocks (e := Part.marks) ?_, ?_, fun q hq => ⟨?_, ?_⟩⟩
  · rw [ht, State.rekeyDone, locked]
    exact ((State.markAll_unchanged _ _).append (State.settle_unchanged _)).mono
  · rw [State.bump_kln]
    exact ha.kln
  · rw [State.bump_ranges, State.finishLock_get, if_neg (Ne.symm hq), ha.get, if_neg (Ne.symm hq)]
  · rw [State.bump_keys, ← ha.keys]
    exact Table.get_set_ne _ _ (Ne.symm hq)

/-- The range stays LOCKING while its slot is cleared: only slots and the lane queue change. -/
theorem State.RekeyAsked.locking {i : SlotIx} {x : State} (hs : (s.rmg.ranges.get r).slot = some i)
    (hx : a.rekeyLock r = x) (rmg : x.rmg = (a.shutting r).rmg)
    (ht : t = ((a.rekeyDone r).markAll (s.rekeyRecords r)).settle) : State.StaysLocking r i s x t := by
  have get (q : RangeIx) := ha.shutting_get q
  have own : x.rmg.ranges.get r = { (s.rmg.ranges.get r).rekeyed domain s.model.draws with lock := .locking } := by
    rw [rmg, get, if_pos rfl]
  have closed : x.bump.openPlain LockState.isLocked [r] = x.bump := by
    refine State.openPlain_closed (State.opensPlain_not_locked ?_)
    rw [State.bump_ranges, own]
    nofun
  have tail : Unchanged (Part.mapGen :: Part.marks) x t := by
    rw [ht, State.rekeyDone, hx, closed]
    exact (((State.bump_unchanged x).append (State.markAll_unchanged _ _)).append (State.settle_unchanged _)).mono
  have ranges : t.rmg.ranges = x.rmg.ranges := tail .ranges (by decide)
  have keys : t.rmg.rangeKeys = x.rmg.rangeKeys := tail .rangeKeys (by decide)
  refine ⟨by rw [ranges, own], by rw [ranges, own]; exact hs, ?_, fun q hq => ?_, tail .slots (by decide),
    tail .lane (by decide)⟩
  · rw [keys, rmg]
    exact ha.keys
  · rw [ranges, rmg, get, if_neg (Ne.symm hq)]

/-- The LOAD still queued for the range's slot is taken away, which completes the lock. -/
theorem State.RekeyAsked.unqueued {i : SlotIx} (defined : s.defined r = true) (hw : s.thm.level ≠ .wiping)
    (hs : (s.rmg.ranges.get r).slot = some i) (unpinned : (s.kln.slots.get i).pins = 0)
    (loading : (s.kln.slots.get i).state = .loading) (hq : queued .load i s.kln.queue = true) (distinct : s.SlotsDistinct)
    (ht : t = ((a.rekeyDone r).markAll (s.rekeyRecords r)).settle) :
    ∃ p, State.Relocks r (.drawn s.model.draws) ((s.rmg.ranges.get r).flags.lockEnabled || s.thm.level == .alarm) p t ∧
      p.kln.slots = s.kln.slots.set i (s.kln.slots.get i).emptied ∧ p.kln.queue = unqueue .load i s.kln.queue ∧
      p.kln.lane = s.kln.lane ∧
      ∀ q, q ≠ r → p.rmg.ranges.get q = s.rmg.ranges.get q ∧ p.rmg.rangeKeys.get q = s.rmg.rangeKeys.get q := by
  have get (q : RangeIx) := ha.shutting_get q
  obtain ⟨b, hb⟩ : ∃ b, b = (a.shutting r).unload i Slot.emptied := ⟨_, rfl⟩
  have bGet (q : RangeIx) : b.rmg.ranges.get q = (a.shutting r).rmg.ranges.get q := hb ▸ rfl
  have bKeys : b.rmg.rangeKeys = s.rmg.rangeKeys := (hb ▸ rfl : b.rmg.rangeKeys = a.rmg.rangeKeys).trans ha.keys
  have bThm : b.thm = s.thm := (hb ▸ rfl : b.thm = a.thm).trans ha.thm
  have bSlots : b.kln.slots = s.kln.slots.set i (s.kln.slots.get i).emptied := by rw [hb, ← ha.kln]; rfl
  have bQueue : b.kln.queue = unqueue .load i s.kln.queue := by rw [hb, ← ha.kln]; rfl
  have bLane : b.kln.lane = s.kln.lane := by rw [hb, ← ha.kln]; rfl
  have own : b.rmg.ranges.get r = { (s.rmg.ranges.get r).rekeyed domain s.model.draws with lock := .locking } := by
    rw [bGet, get, if_pos rfl]
  have cleared : a.rekeyLock r = (b.finishLock r).bump.openPlain LockState.isLocked [r] := by
    have slot : ((a.shutting r).rmg.ranges.get r).slot = some i := by rw [get, if_pos rfl]; exact hs
    rw [State.rekeyLock_unpinned ((ha.slot r).trans hs) (by rw [ha.kln]; exact unpinned),
      State.clearRequest_unqueues slot (by rw [← loading, ← ha.kln]; rfl) (by rw [← hq, ← ha.kln]; rfl), ← hb]
    refine State.clearComplete_locking (by rw [own]; exact hs) (fun q named => ?_) (by rw [own])
    rw [bGet, get] at named
    split at named
    · next h => exact h.symm
    · exact distinct q r i named hs
  have afresh : State.LockedAfresh r (.drawn s.model.draws)
      ((s.rmg.ranges.get r).flags.lockEnabled || s.thm.level == .alarm) (b.finishLock r).bump := by
    refine State.lockedAfresh_rekeyed (domain := domain) defined hw ?_ ?_ ?_
    · rw [State.bump_ranges, State.finishLock_get, if_pos rfl, own]
      rfl
    · rw [State.bump_keys]
      exact Table.get_set_self _ _ _
    · have same : (b.finishLock r).bump.thm.level = b.thm.level :=
        ((State.finishLock_unchanged r b).append (State.bump_unchanged _)) .level (by decide)
      rw [same, bThm]
  have done : a.rekeyDone r = (b.finishLock r).bump.openPlain LockState.isLocked [r] := by
    have bumped := (State.openPlain_lockStep LockState.isLocked [r] _).bumped (State.bump_bumped (b.finishLock r))
    rw [State.rekeyDone, cleared, State.bump_of_bumped bumped, afresh.settled]
  refine ⟨_, afresh.relocks (e := Part.marks) ?_, ?_, ?_, ?_, fun q hq => ⟨?_, ?_⟩⟩
  · rw [ht, done]
    exact ((State.markAll_unchanged _ _).append (State.settle_unchanged _)).mono
  · rw [State.bump_kln]
    exact bSlots
  · rw [State.bump_kln]
    exact bQueue
  · rw [State.bump_kln]
    exact bLane
  · rw [State.bump_ranges, State.finishLock_get, if_neg (Ne.symm hq), bGet, get, if_neg (Ne.symm hq)]
  · rw [State.bump_keys, ← bKeys]
    exact Table.get_set_ne _ _ (Ne.symm hq)

end

end Sys2Proof.Machine
end

section
/-! PROOFS. REKEY_RANGE of a range whose slot is pinned: the purge (R20, R48, R64). -/

namespace Sys2Proof.Machine

theorem Tmb.mem_otherDeadlines {d : Deadline} {t : Tmb} (h : d.purpose ≠ .absence) : d ∈ t.otherDeadlines ↔ d ∈ t.deadlines := by
  simp [Tmb.otherDeadlines, h]

theorem Tmb.mem_otherFallen {d : Deadline} {t : Tmb} (h : d.purpose ≠ .absence) : d ∈ t.otherFallen ↔ d ∈ t.fallen := by
  simp [Tmb.otherFallen, h]

theorem Unchanged.othersStand {e : List Part} {mine : Purpose → Bool} {s t : State} (h : Unchanged e s t)
    (he : Part.deadlines ∉ e ∧ Part.fallen ∉ e := by decide) : s.OthersStand mine t := by
  have deadlines : t.tmb.otherDeadlines = s.tmb.otherDeadlines := h .deadlines he.1
  have fallen : t.tmb.otherFallen = s.tmb.otherFallen := h .fallen he.2
  intro d _ other
  rw [← Tmb.mem_otherDeadlines other, ← Tmb.mem_otherFallen other, deadlines, fallen, Tmb.mem_otherDeadlines other,
    Tmb.mem_otherFallen other]
  exact ⟨Iff.rfl, Iff.rfl⟩

theorem State.OthersStand.trans {mine : Purpose → Bool} {s t u : State} (h : s.OthersStand mine t) (k : t.OthersStand mine u) :
    s.OthersStand mine u := by
  intro d hm ha
  obtain ⟨d1, f1⟩ := h d hm ha
  obtain ⟨d2, f2⟩ := k d hm ha
  exact ⟨d2.trans d1, f2.trans f1⟩

/-- A sweep withdraws what a purge withdraws, and no other deadline. -/
theorem State.swept_othersStand (s : State) : s.OthersStand Purpose.purged s.swept := by
  intro d hm _
  simp [State.swept, State.cancelAll, State.withdrawAll, hm]

theorem State.swept_deadline {s : State} {d : Deadline} (h : d ∈ s.swept.tmb.deadlines ∨ d ∈ s.swept.tmb.fallen) :
    d.purpose.purged = false := by
  rcases h with h | h
  · simpa using (List.mem_filter.mp h).2
  · simpa using (List.mem_filter.mp h).2

theorem State.mem_lockingRanges {s : State} {q : RangeIx} : q ∈ s.lockingRanges ↔ (s.rmg.ranges.get q).lock = .locking := by
  simp [State.lockingRanges]

theorem State.swept_get (s : State) (q : RangeIx) : s.swept.rmg.ranges.get q = { s.rmg.ranges.get q with slot := none } :=
  Table.get_imap _ _ _

/-- What a purge leaves of an entry before R16. -/
theorem State.sweptLocks_get (s : State) (q : RangeIx) : (s.swept.finishLocks s.lockingRanges).rmg.ranges.get q =
    { s.rmg.ranges.get q with
      slot := none, lock := if (s.rmg.ranges.get q).lock = .locking then .locked else (s.rmg.ranges.get q).lock } := by
  rw [State.finishLocks_get, State.swept_get]
  simp only [State.mem_lockingRanges]
  split <;> rfl

theorem State.sweptLocks_key (s : State) (q : RangeIx) : (s.swept.finishLocks s.lockingRanges).rmg.rangeKeys.get q =
    if (s.rmg.ranges.get q).lock = .locking then none else s.rmg.rangeKeys.get q := by
  rw [State.finishLocks_key]
  simp only [State.mem_lockingRanges]
  rfl

theorem State.notify_kln (n : Notice) (s : State) : (s.notify n).kln = s.kln := by
  unfold State.notify
  split <;> rfl

theorem State.notify_thm (n : Notice) (s : State) : (s.notify n).thm = s.thm := by
  unfold State.notify
  split <;> rfl

theorem State.notify_rmg (n : Notice) (s : State) : (s.notify n).rmg = s.rmg := by
  unfold State.notify
  split <;> rfl

theorem State.notify_model (n : Notice) (s : State) : (s.notify n).model = s.model := by
  unfold State.notify
  split <;> rfl

theorem State.bump_thm (s : State) : s.bump.thm = s.thm := by
  unfold State.bump
  split <;> rfl

section
variable {hd : Header} {r : RangeIx} {domain : Key} {s a t : State} (ha : State.RekeyAsked hd r domain s a)
include ha

/-- A purge withdraws every acknowledgement and every expiry of a verdict, and no other deadline. -/
theorem State.RekeyAsked.pinned_deadlines {i : SlotIx} (hs : (s.rmg.ranges.get r).slot = some i)
    (pinned : 1 ≤ (s.kln.slots.get i).pins) (ht : t = ((a.rekeyDone r).markAll (s.rekeyRecords r)).settle) :
    s.OthersStand Purpose.purged t ∧
      ∀ d, d ∈ t.tmb.deadlines ∨ d ∈ t.tmb.fallen → d.purpose.purged = false := by
  have locked := State.rekeyLock_pinned ((ha.slot r).trans hs) (by rw [ha.kln]; exact pinned)
  obtain ⟨b, hb⟩ : ∃ b, b = a.shutting r := ⟨_, rfl⟩
  have before : Unchanged [.waiting, .deferred, .envelopes, .grants, .ranges, .draws] s b :=
    hb ▸ (ha.frame.append (State.onRange_unchanged _ _ _)).mono
  have after : Unchanged (Part.notices ++ Part.clears ++ Part.marks) b.swept t := by
    rw [ht, State.rekeyDone, locked, ← hb, State.purge_eq, State.purgeEffects_eq]
    exact (((((((State.finishLocks_unchanged _ _).append (State.openPlain_unchanged _ _ _)).append
      (State.bump_unchanged _)).append (State.notify_unchanged _ _)).append (State.bump_unchanged _)).append
      (State.openPlain_unchanged _ _ _)).append
      ((State.markAll_unchanged _ _).append (State.settle_unchanged _))).mono
  refine ⟨(before.othersStand.trans b.swept_othersStand).trans after.othersStand, fun d hd => ?_⟩
  by_cases absence : d.purpose = .absence
  · rw [absence]
    rfl
  · have deadlines : t.tmb.otherDeadlines = b.swept.tmb.otherDeadlines := after .deadlines (by decide)
    have fallen : t.tmb.otherFallen = b.swept.tmb.otherFallen := after .fallen (by decide)
    rw [← Tmb.mem_otherDeadlines absence, ← Tmb.mem_otherFallen absence, deadlines, fallen, Tmb.mem_otherDeadlines absence,
      Tmb.mem_otherFallen absence] at hd
    exact State.swept_deadline hd

/-- With a pinned slot the range is LOCKED at a purge, which completes every lock under way. -/
theorem State.RekeyAsked.pinned {i : SlotIx} (open_ : s.linkOpen = true) (defined : s.defined r = true)
    (hw : s.thm.level ≠ .wiping) (hs : (s.rmg.ranges.get r).slot = some i) (pinned : 1 ≤ (s.kln.slots.get i).pins)
    (stay : s.LockingStayLocked) (ht : t = ((a.rekeyDone r).markAll (s.rekeyRecords r)).settle) :
    ∃ p, State.Relocks r (.drawn s.model.draws) ((s.rmg.ranges.get r).flags.lockEnabled || s.thm.level == .alarm) p t ∧
      p.kln.slots = s.kln.slots.imap (fun _ l => l.emptied) ∧ p.kln.queue = [] ∧ p.kln.lane = .idle ∧
      (∀ q, q ≠ r → p.rmg.ranges.get q =
          { s.rmg.ranges.get q with
            slot := none, lock := if (s.rmg.ranges.get q).lock = .locking then .locked else (s.rmg.ranges.get q).lock } ∧
        p.rmg.rangeKeys.get q = if (s.rmg.ranges.get q).lock = .locking then none else s.rmg.rangeKeys.get q) ∧
      t.kln.lane = .idle ∧ t.kln.badRun = 0 ∧ t.kln.purgePulse = true ∧ t.srv.verdicts = [] ∧
      t.Notified (.void t.rmg.mapGen .rekey) := by
  have locked := State.rekeyLock_pinned ((ha.slot r).trans hs) (by rw [ha.kln]; exact pinned)
  have get (q : RangeIx) := ha.shutting_get q
  obtain ⟨b, hb⟩ : ∃ b, b = a.shutting r := ⟨_, rfl⟩
  rw [← hb] at locked get
  have bKeys : b.rmg.rangeKeys = s.rmg.rangeKeys := (hb ▸ rfl : b.rmg.rangeKeys = a.rmg.rangeKeys).trans ha.keys
  have bThm : b.thm = s.thm := (hb ▸ rfl : b.thm = a.thm).trans ha.thm
  have bKln : b.kln = s.kln := (hb ▸ rfl : b.kln = a.kln).trans ha.kln
  have bOpen : b.linkOpen = true := by
    have same : b.pwc.power = s.pwc.power := hb ▸ (ha.frame.append (State.onRange_unchanged _ _ _)) .power (by decide)
    rw [State.linkOpen, same]
    exact open_
  obtain ⟨p, hp⟩ : ∃ p, p = b.swept.finishLocks b.lockingRanges := ⟨_, rfl⟩
  have pGet (q : RangeIx) := hp ▸ b.sweptLocks_get q
  have pKey (q : RangeIx) := hp ▸ b.sweptLocks_key q
  have pFrame : Unchanged [.rangeKeys, .ranges, .deferred] b.swept p := hp ▸ State.finishLocks_unchanged _ _
  have pKln : p.kln = b.swept.kln := hp ▸ State.finishLocks_kln _ _
  have own : b.rmg.ranges.get r = { (s.rmg.ranges.get r).rekeyed domain s.model.draws with lock := .locking } := by
    rw [get, if_pos rfl]
  have other {q : RangeIx} (hq : q ≠ r) : b.rmg.ranges.get q = s.rmg.ranges.get q := by rw [get, if_neg (Ne.symm hq)]
  have afresh : State.LockedAfresh r (.drawn s.model.draws)
      ((s.rmg.ranges.get r).flags.lockEnabled || s.thm.level == .alarm) p := by
    refine State.lockedAfresh_rekeyed (domain := domain) defined hw ?_ ?_ ?_
    · rw [pGet, own]
      rfl
    · rw [pKey, own]
      rfl
    · have level : p.thm.level = b.swept.thm.level := pFrame .level (by decide)
      exact level.trans (congrArg Thm.level bThm)
  obtain ⟨x, hx⟩ : ∃ x, x = p.openPlain LockState.isLocked [r] := ⟨_, rfl⟩
  have effects : b.purgeEffects false = x := by
    rw [State.purgeEffects_eq, ← hp, hx]
    refine State.openPlain_only (State.mem_lockingRanges.mpr (by rw [own])) ((List.nodup_finRange 16).filter _) fun q hq ne => ?_
    have locking := State.mem_lockingRanges.mp hq
    rw [other ne] at locking
    simp [State.opensPlain, pGet, other ne, stay q locking]
  obtain ⟨n, hn⟩ : ∃ n, n = Notice.void x.bump.rmg.mapGen .rekey := ⟨_, rfl⟩
  obtain ⟨y, hy⟩ : ∃ y, y = x.bump.notify n := ⟨_, rfl⟩
  have lock : a.rekeyLock r = y := by rw [locked, State.purge_eq, effects, hy, hn]
  have done : a.rekeyDone r = y := by
    have bumped : y.model.bumped = true := by rw [hy, State.notify_model, State.bump_bumped]
    have closed : y.opensPlain LockState.isLocked r = false := by
      rw [State.opensPlain_congr (s := x) (by rw [hy, State.notify_rmg, State.bump_ranges])
        (by rw [hy, State.notify_thm, State.bump_thm]), hx]
      exact afresh.closed
    rw [State.rekeyDone, lock, State.bump_of_bumped bumped, State.openPlain_closed closed]
  have yKln : y.kln = x.kln := by rw [hy, State.notify_kln, State.bump_kln]
  have opened : Unchanged Part.openings p x := hx ▸ State.openPlain_unchanged _ _ _
  have pulse : y.kln.purgePulse = true := by
    have same : x.kln.purgePulse = p.kln.purgePulse := opened .purgePulse (by decide)
    rw [yKln, same, pKln]
    rfl
  have tKln : t.kln = y.kln := by
    rw [ht, done, State.settle_kln_of_pulse (by rw [State.markAll_kln, pulse]), State.markAll_kln]
  have frame : Unchanged (Part.mapGen :: Part.notices ++ Part.marks) x t := by
    rw [ht, done, hy]
    exact (((State.bump_unchanged x).append (State.notify_unchanged _ _)).append
      ((State.markAll_unchanged _ _).append (State.settle_unchanged _))).mono
  have all : Unchanged (Part.openings ++ (Part.notices ++ Part.marks)) p t := (opened.append frame).mono
  refine ⟨p, afresh.relocks (e := Part.mapGen :: Part.notices ++ Part.marks) (hx ▸ frame), ?_, ?_, ?_,
    fun q hq => ⟨by rw [pGet, other hq], by rw [pKey, other hq, bKeys]⟩, ?_, ?_, by rw [tKln, pulse], ?_, ?_⟩
  · rw [pKln, ← bKln]
    rfl
  · rw [pKln]
    rfl
  · rw [pKln]
    rfl
  · rw [tKln, yKln, hx, afresh.lane, pKln]
    rfl
  · have same : t.kln.badRun = p.kln.badRun := all .badRun (by decide)
    rw [same, pKln]
    rfl
  · have same : t.srv = b.swept.srv := (pFrame.append all) .verdicts (by decide)
    rw [same]
    rfl
  · have mapGen : t.rmg.mapGen = x.bump.rmg.mapGen := by
      have same : t.rmg.mapGen = y.rmg.mapGen := by
        rw [ht, done, State.settle_rmg]
        exact (State.markAll_unchanged _ y) .mapGen (by decide)
      rw [same, hy, State.notify_rmg]
    have told : y.Notified n := by
      have linkOpen : x.bump.linkOpen = true := by
        have same : x.bump.pwc.power = b.swept.pwc.power :=
          (pFrame.append (opened.append (State.bump_unchanged x))) .power (by decide)
        rw [State.linkOpen, same]
        exact bOpen
      rw [hy]
      exact State.notified_notify linkOpen
    rw [mapGen, ← hn, ht, done]
    exact (told.step (State.markAll_keepsTold _ y)).step (State.settle_keepsTold _)

end

end Sys2Proof.Machine
end

section
/-! PROOFS. REKEY_RANGE taken up, and its statement (R20, R21, R48, R54). -/

namespace Sys2Proof.Machine

theorem execRekeyRange_accepted {s : State} {hd : Header} {acting : Nat} {r : RangeIx} {domain : Key} {P : State → Prop}
    (hs : s.TakesUp (.rekeyRange hd acting r.val)) (ha : s.adminActs acting = true) (defined : s.defined r = true)
    (hk : s.rmg.domainKey = some domain) (single : s.rekeyDeferred (some r) = false) (hf : s.freeDeferred.isSome)
    (hp : ∀ m, s.lnk.Taken 1 m → P ((s.onLnk fun _ => m).rekey hd r domain).settle) :
    ∃ t, exec (.rekeyRange hd acting r.val) s = .next t ∧ P t := by
  have named (m : Lnk) : (s.onLnk fun _ => m).named 0 r.val = some r := State.named_zero (s := s) defined
  have sized : hd.sized = true := hs.2.2
  refine State.accepted hs (fun m taken => ?_) (fun m taken => ?_)
  · have single : (s.onLnk fun _ => m).rekeyDeferred (some r) = false := by
      rw [State.rekeyDeferred, State.onLnk_lnk, taken.deferred]
      exact single
    rw [named, judge_rangeChecks_admin (s := s.onLnk fun _ => m) ha, single, State.freeDeferred_taken taken]
    simp [judge, sized, hf]
  · simp only [named, State.onLnk_rmg, hk]
    exact hp m taken

theorem State.mem_envelopesOf {s : State} {r : RangeIx} {p : EnvIx} :
    p ∈ s.envelopesOf r ↔ ∃ e, s.rmg.envelopes.get p = some e ∧ e.target = .range r := by
  rw [State.envelopesOf, State.mem_envelopesWhere]
  simp

/-- Nothing loaded after the sweep: what a purge leaves. -/
theorem State.Loads.purged {slots : Table Slot 8} {t : State} (h : t.Loads [] (slots.imap fun _ l => l.emptied) [] .idle)
    (badRun : t.kln.badRun = 0) (verdicts : t.srv.verdicts = []) (pulse : t.kln.purgePulse = true)
    (deadlines : ∀ d, d ∈ t.tmb.deadlines ∨ d ∈ t.tmb.fallen → d.purpose.purged = false)
    (fields : ∀ r, (t.rmg.ranges.get r).slot = none) : t.Purged := by
  obtain ⟨-, -, stand, idle, -⟩ := h
  refine ⟨fun i => ?_, ?_, badRun, verdicts, pulse, deadlines, fields⟩
  · have emptied : t.kln.slots.get i = (slots.get i).emptied := by
      rw [stand i (by simp), Table.get_imap]
    rw [emptied]
    exact ⟨rfl, rfl, rfl, rfl⟩
  · rcases idle rfl with ⟨-, queue⟩ | ⟨f, g, queue, -⟩
    · exact queue
    · cases queue

/-- No LOAD is queued for a slot exactly where taking its LOADs away leaves the queue. -/
theorem unqueue_eq_self {i : SlotIx} {q : List LaneFrame} : unqueue .load i q = q ↔ queued .load i q = false := by
  rw [unqueue, List.filter_eq_self, ← Bool.not_eq_true, queued_iff]
  simp [← not_and_or]

section
variable {hd : Header} {r : RangeIx} {domain : Key} {s a t : State} (ha : State.RekeyAsked hd r domain s a)
include ha

/-- What REKEY_RANGE leaves of the lane and of the range where its slot has no pins (R54). -/
theorem State.RekeyAsked.unpinned {i : SlotIx} {clear : LaneFrame} {queue : List LaneFrame} {shut : Bool}
    (defined : s.defined r = true) (hw : s.thm.level ≠ .wiping)
    (hshut : shut = ((s.rmg.ranges.get r).flags.lockEnabled || s.thm.level == .alarm))
    (hs : (s.rmg.ranges.get r).slot = some i) (hp : (s.kln.slots.get i).pins = 0)
    (hclear : clear = { op := .clear, slot := i, key := none }) (hqueue : queue = unqueue .load i s.kln.queue)
    (ht : t = ((a.rekeyDone r).markAll (s.rekeyRecords r)).settle) :
    ((s.kln.slots.get i).state = .loaded ∨ ((s.kln.slots.get i).state = .loading ∧ queue = s.kln.queue) →
      (t.rmg.ranges.get r).lock = .locking ∧ (t.rmg.ranges.get r).slot = some i ∧
      t.kln.slots = s.kln.slots.set i { s.kln.slots.get i with state := .clearing } ∧
      (s.kln.lane = .idle → t.LaneRuns (s.kln.queue ++ [clear])) ∧
      (s.kln.lane ≠ .idle → t.kln.lane = s.kln.lane ∧ t.kln.queue = s.kln.queue ++ [clear])) ∧
    ((s.kln.slots.get i).state = .clearing → (t.rmg.ranges.get r).lock = .locking ∧ (t.rmg.ranges.get r).slot = some i ∧
      (∀ o, (s.kln.slots.get i).next = some o → o.range = r →
        t.kln.slots = s.kln.slots.set i { s.kln.slots.get i with next := none } ∧
        (s.kln.lane = .idle → t.LaneRuns queue) ∧
        (s.kln.lane ≠ .idle → t.kln.lane = s.kln.lane ∧ t.kln.queue = queue)) ∧
      ((∀ o, (s.kln.slots.get i).next = some o → o.range ≠ r) → t.kln.slots = s.kln.slots ∧ Part.same s t .lane)) ∧
    ((s.kln.slots.get i).state = .loading → queue ≠ s.kln.queue → s.SlotsDistinct →
      (shut = true → (t.rmg.ranges.get r).lock = .locked ∧ t.rmg.rangeKeys.get r = none ∧ (t.rmg.ranges.get r).slot = none ∧
        t.Loads [] (s.kln.slots.set i (s.kln.slots.get i).emptied) queue s.kln.lane) ∧
      (shut = false → (t.rmg.ranges.get r).lock = .opened ∧ t.rmg.rangeKeys.get r = some (.drawn s.model.draws) ∧
        t.Loads [r] (s.kln.slots.set i (s.kln.slots.get i).emptied) queue s.kln.lane)) ∧
    ((s.kln.slots.get i).state = .loaded ∨ (s.kln.slots.get i).state = .clearing ∨
      ((s.kln.slots.get i).state = .loading ∧ queue = s.kln.queue) → t.rmg.rangeKeys = s.rmg.rangeKeys) ∧
    ((s.kln.slots.get i).state = .loaded ∨ (s.kln.slots.get i).state = .clearing ∨ (s.kln.slots.get i).state = .loading →
      s.SlotsDistinct →
      ∀ q, q ≠ r → t.rmg.ranges.get q = s.rmg.ranges.get q ∧ t.rmg.rangeKeys.get q = s.rmg.rangeKeys.get q) := by
  subst hclear hqueue hshut
  have slot : ((a.shutting r).rmg.ranges.get r).slot = some i := by
    rw [ha.shutting_get, if_pos rfl]
    exact hs
  have kln : (a.shutting r).kln = s.kln := ha.kln
  have unpinned := State.rekeyLock_unpinned ((ha.slot r).trans hs) (by rw [ha.kln]; exact hp)
  have sends (h : (s.kln.slots.get i).state = .loaded ∨
      ((s.kln.slots.get i).state = .loading ∧ unqueue .load i s.kln.queue = s.kln.queue)) :=
    ha.locking (x := (a.shutting r).sendClear i) hs (unpinned.trans (State.clearRequest_sends slot
      (by rw [kln]; exact h.imp_right fun ⟨loading, same⟩ => ⟨loading, unqueue_eq_self.mp same⟩))) rfl ht
  have clears (h : (s.kln.slots.get i).state = .clearing) := unpinned.trans (State.clearRequest_clearing slot (by rw [kln, h]))
  have removes (h : (s.kln.slots.get i).state = .clearing)
      (next : (s.kln.slots.get i).next.any (fun o => o.range = r) = true) :=
    ha.locking (x := (a.shutting r).unload i fun l => { l with next := none }) hs
      ((clears h).trans (if_pos (by rw [kln]; exact next))) rfl ht
  have stands (h : (s.kln.slots.get i).state = .clearing)
      (next : ¬ (s.kln.slots.get i).next.any (fun o => o.range = r) = true) :=
    ha.locking (x := a.shutting r) hs ((clears h).trans (if_neg (by rw [kln]; exact next))) rfl ht
  have completes (h : (s.kln.slots.get i).state = .loading) (hq : unqueue .load i s.kln.queue ≠ s.kln.queue)
      (distinct : s.SlotsDistinct) :=
    ha.unqueued defined hw hs hp h (by rw [← Bool.not_eq_false]; exact fun h => hq (unqueue_eq_self.mpr h)) distinct ht
  have locking (h : (s.kln.slots.get i).state = .loaded ∨ (s.kln.slots.get i).state = .clearing ∨
      ((s.kln.slots.get i).state = .loading ∧ unqueue .load i s.kln.queue = s.kln.queue)) :
      ∃ x, State.StaysLocking r i s x t := by
    rcases h with h | h | h
    · exact ⟨_, sends (.inl h)⟩
    · by_cases next : (s.kln.slots.get i).next.any (fun o => o.range = r) = true
      · exact ⟨_, removes h next⟩
      · exact ⟨_, stands h next⟩
    · exact ⟨_, sends (.inr h)⟩
  refine ⟨fun h => ?_, fun h => ?_, fun h hq distinct => ?_, fun h => (locking h).elim fun _ l => l.keys,
    fun h distinct q hq => ?_⟩
  · have l := sends h
    refine ⟨l.lock, l.slot, by rw [l.slots, ← kln]; rfl, ?_⟩
    exact State.laneQueue_of_same l.lane (by rw [← kln]; rfl) (by rw [← kln]; rfl)
  · by_cases next : (s.kln.slots.get i).next.any (fun o => o.range = r) = true
    · have l := removes h next
      refine ⟨l.lock, l.slot, fun o _ _ => ⟨by rw [l.slots, ← kln]; rfl, ?_⟩, fun other => ?_⟩
      · exact State.laneQueue_of_same l.lane (by rw [← kln]; rfl) (by rw [← kln]; rfl)
      · obtain ⟨o, ho, names⟩ := (Option.any_eq_true _ _).mp next
        exact absurd (of_decide_eq_true names) (other o ho)
    · have l := stands h next
      refine ⟨l.lock, l.slot, fun o ho names => ?_, fun _ => ⟨by rw [l.slots, kln], ?_⟩⟩
      · exact absurd (by simp [ho, names]) next
      · simpa only [Part.same, kln] using l.lane
  · obtain ⟨p, relocks, slots, queue', lane, -⟩ := completes h hq distinct
    rw [← slots, ← queue', ← lane]
    exact ⟨relocks.stays, relocks.opens⟩
  · have stays (l : ∃ x, State.StaysLocking r i s x t) :
        t.rmg.ranges.get q = s.rmg.ranges.get q ∧ t.rmg.rangeKeys.get q = s.rmg.rangeKeys.get q := by
      obtain ⟨x, l⟩ := l
      exact ⟨l.others q hq, by rw [l.keys]⟩
    rcases h with h | h | h
    · exact stays (locking (.inl h))
    · exact stays (locking (.inr (.inl h)))
    · by_cases same : unqueue .load i s.kln.queue = s.kln.queue
      · exact stays (locking (.inr (.inr ⟨h, same⟩)))
      · obtain ⟨p, relocks, -, -, -, others⟩ := completes h same distinct
        obtain ⟨range, key⟩ := relocks.others q hq
        obtain ⟨range', key'⟩ := others q hq
        exact ⟨range.trans range', key.trans key'⟩

end

/-- Settles O42: the fresh key and the deferred reply first, then the forced lock by the range's slot, R16 and the marks. -/
theorem rekeyRangeReplacesKeyAndEnvelopes : Obligations.RekeyRangeReplacesKeyAndEnvelopes := by
  intro s hd acting r old domain hs hb hadmin defined hk single hf hold
  subst hold
  obtain ⟨t, run, m, taken, ht⟩ := execRekeyRange_accepted (P := fun t => ∃ m, s.lnk.Taken 1 m ∧
      t = ((s.onLnk fun _ => m).rekey hd r domain).settle) hs hadmin defined hk single hf fun m taken => ⟨m, taken, rfl⟩
  have ha := State.rekeyAsked_spec (hd := hd) (r := r) (domain := domain) taken hb hf
  obtain ⟨a, hea⟩ : ∃ a, a = (s.onLnk fun _ => m).rekeyAsked hd r domain := ⟨_, rfl⟩
  rw [← hea] at ha
  have ht : t = ((a.rekeyDone r).markAll (s.rekeyRecords r)).settle := by
    rw [ht, State.rekey_eq, ← hea]
    rfl
  clear hea
  have open_ : s.linkOpen = true := State.linkOpen_of_active hs.1.1
  have tail : Unchanged Part.marks (a.rekeyDone r) t :=
    ht ▸ ((State.markAll_unchanged _ _).append (State.settle_unchanged _)).mono
  obtain ⟨material, envelopes, mapGen, deferring, marked, draws⟩ := ha.common ht
  have unpinnedFrame (h : ∀ i, (s.rmg.ranges.get r).slot = some i → (s.kln.slots.get i).pins = 0) :
      Unchanged [.waiting, .outbound, .deferred, .ranges, .rangeKeys, .envelopes, .grants, .mapGen, .slots, .lane,
        .operation, .dirty, .faulty, .draws] s t :=
    ((ha.frame.append (State.rekeyDone_unchanged_unpinned fun i hi => by
      rw [ha.kln]
      exact h i ((ha.slot r).symm.trans hi))).append tail).mono
  refine ⟨t, _, (s.rmg.ranges.get r).flags.lockEnabled || s.thm.level == .alarm, run, rfl,
    congrArg RangeEntry.keyState material, by simp, congrArg RangeEntry.generation material,
    congrArg RangeEntry.domainWrap material, congrArg RangeEntry.deviceWrap material, (congrArg RangeEntry.geometry material :),
    (congrArg RangeEntry.flags material :), fun p e he target => ?_, fun p other => ?_, mapGen, deferring,
    marked _ (by simp [State.rekeyRecords]), fun unslotted => ?_, fun i slot clear queue hslot hdef hp hclear hqueue => ?_,
    fun i hslot hp stay => ?_, draws, ?_, fun i hslot hp => (ha.pinned_deadlines hslot hp ht).2, unpinnedFrame, ?_⟩
  · have mem := State.mem_envelopesOf.mpr ⟨e, he, target⟩
    exact ⟨by rw [envelopes, if_pos mem], marked _ (by simp [State.rekeyRecords, mem])⟩
  · rw [envelopes, if_neg]
    intro mem
    obtain ⟨e, he, target⟩ := State.mem_envelopesOf.mp mem
    exact other e he target
  · obtain ⟨p, relocks, kln, others⟩ := ha.unslotted defined hs.2.1 unslotted ht
    rw [← kln]
    refine ⟨relocks.stays, relocks.opens, fun q hq => ?_⟩
    obtain ⟨range, key⟩ := relocks.others q hq
    obtain ⟨range', key'⟩ := others q hq
    exact ⟨range.trans range', key.trans key'⟩
  · subst hdef
    exact ha.unpinned defined hs.2.1 rfl hslot hp hclear hqueue ht
  · obtain ⟨p, relocks, slots, queue, lane, others, tLane, badRun, pulse, verdicts, told⟩ :=
      ha.pinned open_ defined hs.2.1 hslot hp stay ht
    have entry (q : RangeIx) (hq : q ≠ r) := (relocks.others q hq).1.trans (others q hq).1
    refine ⟨tLane, told, fun shut => ?_, fun opens => ?_, fun q hq => ⟨entry q hq, ?_⟩⟩
    · obtain ⟨lock, key, slot, loads⟩ := relocks.stays shut
      rw [slots, queue, lane] at loads
      have (q : RangeIx) : (t.rmg.ranges.get q).slot = none := by
        by_cases hq : q = r
        · rw [hq, slot]
        · rw [entry q hq]
      exact ⟨lock, key, loads.purged badRun verdicts pulse (ha.pinned_deadlines hslot hp ht).2 this⟩
    · obtain ⟨lock, key, loads⟩ := relocks.opens opens
      rw [slots, queue, lane] at loads
      exact ⟨lock, key, verdicts, badRun, pulse, loads⟩
    · exact (relocks.others q hq).2.trans (others q hq).2
  · by_cases pinned : ∃ i, (s.rmg.ranges.get r).slot = some i ∧ 1 ≤ (s.kln.slots.get i).pins
    · obtain ⟨i, hslot, hp⟩ := pinned
      exact (ha.pinned_deadlines hslot hp ht).1
    · refine (unpinnedFrame fun i hi => ?_).othersStand
      exact Nat.lt_one_iff.mp (Nat.not_le.mp fun hp => pinned ⟨i, hi, hp⟩)
  · exact ((ha.frame.append (State.rekeyDone_unchanged r a)).append tail).mono

end Sys2Proof.Machine
end

section
/-! PROOFS. What follows the end of a store operation leaves the records, and the faulty records faulty (R154, R158). -/

namespace Sys2Proof.Machine

/-- From `s` to `t` no record changes, and none leaves the faulty set. -/
structure State.HoldsStore (s t : State) : Prop where
  records : t.sto.records = s.sto.records
  faulty : ∀ r ∈ s.sto.faulty, r ∈ t.sto.faulty

theorem State.HoldsStore.of_sto {s t : State} (h : t.sto = s.sto) : s.HoldsStore t := ⟨by rw [h], fun r hr => by rw [h]; exact hr⟩

theorem State.HoldsStore.refl (s : State) : s.HoldsStore s := .of_sto rfl

theorem State.HoldsStore.trans {s t u : State} (h : s.HoldsStore t) (k : t.HoldsStore u) : s.HoldsStore u :=
  ⟨k.records.trans h.records, fun r => k.faulty r ∘ h.faulty r⟩

theorem State.HoldsStore.foldl {α : Type} (f : State → α → State) (h : ∀ (s : State) a, s.HoldsStore (f s a)) (l : List α)
    (s : State) : s.HoldsStore (l.foldl f s) := by
  induction l generalizing s with
  | nil => exact .refl s
  | cons a l ih => exact (h s a).trans (ih _)

theorem Unchanged.holdsStore {e : List Part} {s t : State} (h : Unchanged e s t)
    (he : Part.records ∉ e ∧ Part.faulty ∉ e := by decide) : s.HoldsStore t := by
  have faulty : t.sto.faulty = s.sto.faulty := (h .faulty he.2).1
  exact ⟨h .records he.1, fun r hr => by rw [faulty]; exact hr⟩

/-! ## Openings, locks and purges -/

theorem State.addFaulty_records (r : RecordId) (s : State) : (s.addFaulty r).sto.records = s.sto.records := by
  unfold State.addFaulty
  split <;> rfl

theorem State.mem_addFaulty {r q : RecordId} {s : State} : q ∈ (s.addFaulty r).sto.faulty ↔ q ∈ s.sto.faulty ∨ q = r := by
  unfold State.addFaulty
  split
  · next h =>
    refine ⟨.inl, fun k => k.elim id fun e => ?_⟩
    rw [e]
    exact List.contains_iff_mem.mp h
  · simp

theorem State.addFaulty_holdsStore (r : RecordId) (s : State) : s.HoldsStore (s.addFaulty r) :=
  ⟨s.addFaulty_records r, fun _ h => State.mem_addFaulty.mpr (.inl h)⟩

theorem openPlainStep_holdsStore (from_ : LockState → Bool) (acc : State × List RangeIx) (r : RangeIx) :
    acc.1.HoldsStore (openPlainStep from_ acc r).1 := by
  unfold openPlainStep
  split
  · split
    · exact .of_sto rfl
    · exact acc.1.addFaulty_holdsStore _
  · exact .refl _

theorem openPlainSteps_holdsStore (from_ : LockState → Bool) (rs : List RangeIx) (acc : State × List RangeIx) :
    acc.1.HoldsStore (rs.foldl (openPlainStep from_) acc).1 := by
  induction rs generalizing acc with
  | nil => exact .refl _
  | cons r rs ih => exact (openPlainStep_holdsStore from_ acc r).trans (ih _)

theorem State.openPlain_holdsStore (from_ : LockState → Bool) (rs : List RangeIx) (s : State) :
    s.HoldsStore (s.openPlain from_ rs) := by
  have opened := openPlainSteps_holdsStore from_ rs (s, [])
  unfold State.openPlain
  simp only
  split
  · exact opened
  · exact opened.trans ((State.eagerLoads_unchanged _ _).append (State.bump_unchanged _)).holdsStore

theorem State.clearComplete_holdsStore (i : SlotIx) (s : State) : s.HoldsStore (s.clearComplete i) := by
  unfold State.clearComplete
  split
  · split
    · exact ((State.finishLock_unchanged _ s).append (State.bump_unchanged _)).holdsStore.trans
        (State.openPlain_holdsStore _ _ _)
    · exact .of_sto rfl
  · exact .refl s

theorem State.clearRequest_holdsStore (r : RangeIx) (s : State) : s.HoldsStore (s.clearRequest r) := by
  unfold State.clearRequest
  split
  · exact .refl s
  · split
    · exact .of_sto rfl
    · split
      · refine State.HoldsStore.trans ?_ (State.clearComplete_holdsStore _ _)
        exact .of_sto rfl
      · exact .of_sto rfl
    · split
      · exact .of_sto rfl
      · exact .refl s
    · exact .refl s
    · exact .refl s

theorem State.normalLock_holdsStore (r : RangeIx) (s : State) : s.HoldsStore (s.normalLock r) := by
  unfold State.normalLock
  split
  · exact .of_sto rfl
  · simp only
    split
    · exact (State.onRange_unchanged r _ s).holdsStore.trans (State.clearRequest_holdsStore _ _)
    · exact .of_sto rfl

theorem State.purgeEffects_holdsStore (toFault : Bool) (s : State) : s.HoldsStore (s.purgeEffects toFault) := by
  unfold State.purgeEffects
  refine State.HoldsStore.trans ?_ (State.openPlain_holdsStore _ _ _)
  refine State.HoldsStore.trans ?_ (State.HoldsStore.foldl _ (fun s r => (s.finishLock_unchanged r).holdsStore) _ _)
  exact .of_sto rfl

theorem State.forceAll_holdsStore (s : State) : s.HoldsStore s.forceAll :=
  (s.purgeEffects_holdsStore false).trans (State.forceLocked_unchanged _ _).holdsStore

/-! ## The threat level (R97 to R120) -/

theorem State.enterWary_holdsStore (k : TriggerKind) (s : State) : s.HoldsStore (s.enterWary k) := by
  have locks := State.HoldsStore.foldl (fun (t : State) r => if s.wary r then t.normalLock r else t)
    (fun t r => by
      split
      · exact t.normalLock_holdsStore r
      · exact .refl t) (List.finRange 16) (s.setLevel .wary (.trigger k) none)
  exact ((s.setLevel_unchanged _ _ _).holdsStore.trans locks).trans
    ((((State.bump_unchanged _).append (State.threatNotice_unchanged _ _ _ _)).append (State.mark_unchanged _ _))).holdsStore

theorem State.phaseZero_holdsStore (phase : WipePhase) (next : Option Bank) (resumed : Bool) (s : State) :
    s.HoldsStore (s.phaseZero phase next resumed) := by
  have aborted := (State.abortBackoff_unchanged s.forceAll).holdsStore
  exact (s.forceAll_holdsStore.trans aborted).trans (.of_sto rfl)

theorem State.enterWiping_holdsStore (cause : ThreatCause) (s : State) : s.HoldsStore (s.enterWiping cause) :=
  ((s.clearGrace_unchanged.append (State.setLevel_unchanged _ _ _ _)).holdsStore.trans
    (State.phaseZero_holdsStore _ _ _ _)).trans
    ((((State.bump_unchanged _).append (State.threatNotice_unchanged _ _ _ _)).append (State.notify_unchanged _ _)).append
      (State.mark_unchanged _ _)).holdsStore

theorem State.enterAlarm_holdsStore (k : TriggerKind) (s : State) : s.HoldsStore (s.enterAlarm k) := by
  have grace (t : State) : t.HoldsStore ((t.onThm fun u => { u with grace := some (s.pscNow + s.sto.policy.grace) }).enter .grace
      (s.pscNow + s.sto.policy.grace)) :=
    ((State.setGrace_unchanged _ t).append (State.enter_unchanged _ _ _)).holdsStore
  have entered := ((State.setLevel_unchanged .alarm (.trigger k) none s).holdsStore.trans
    (State.forceAll_holdsStore _)).trans
    (((State.emptySet_unchanged _).append (State.abortForAlarm_unchanged _)).holdsStore)
  unfold State.enterAlarm
  simp only
  split
  · exact (entered.trans (grace _)).trans (State.enterWiping_holdsStore _ _)
  · exact (entered.trans (grace _)).trans ((((State.bump_unchanged _).append (State.threatNotice_unchanged _ _ _ _)).append
      (State.notify_unchanged _ _)).append (State.mark_unchanged _ _)).holdsStore

theorem State.takeTrigger_holdsStore (k : TriggerKind) (s : State) : s.HoldsStore (s.takeTrigger k) := by
  have captured := (s.capture_unchanged k).holdsStore
  unfold State.takeTrigger
  simp only
  split
  · exact captured
  · split
    · exact captured
    · split
      · exact captured
      · exact captured.trans (State.enterWary_holdsStore _ _)
      · exact captured.trans (State.enterAlarm_holdsStore _ _)
      · exact captured.trans (State.enterWiping_holdsStore _ _)

theorem State.takeTriggers_holdsStore (ks : List TriggerKind) (s : State) : s.HoldsStore (s.takeTriggers ks) :=
  .foldl _ (fun s k => (s.newOccurrence_unchanged).holdsStore.trans (State.takeTrigger_holdsStore k _)) _ _

/-! ## The end of a start (R168) -/

theorem State.startPurge_holdsStore (s : State) : s.HoldsStore s.startPurge :=
  (s.purgeEffects_holdsStore false).trans (.of_sto rfl)

theorem State.restoreLevel_holdsStore (s : State) : s.HoldsStore s.restoreLevel := by
  obtain ⟨u, hu⟩ : ∃ u, u = (s.onThm fun t =>
      { t with
        bay := .fresh, caseSw := .fresh, armed := true, lastCause := .start, lastAuthority := none
        levelAtClose := t.level, changedClosed := false }).onPwc fun p => { p with stage := .done, waits := [] } := ⟨_, rfl⟩
  have first : s.HoldsStore u := .of_sto (hu ▸ rfl)
  have cancelled := (u.cancel_unchanged .grace).holdsStore
  unfold State.restoreLevel
  simp only [← hu]
  split
  · exact first.trans cancelled
  · exact first.trans cancelled
  · split
    · split
      · exact (first.trans (u.newOccurrence_unchanged).holdsStore).trans (State.enterWiping_holdsStore _ _)
      · exact (first.trans cancelled).trans (State.enter_unchanged _ _ _).holdsStore
    · exact first.trans cancelled
  · exact ((first.trans cancelled).trans (State.phaseZero_holdsStore _ _ _ _)).trans (State.mark_unchanged _ _).holdsStore

theorem State.takeHeld_holdsStore (s : State) : s.HoldsStore s.takeHeld := by
  unfold State.takeHeld
  refine State.HoldsStore.trans ?_ (State.takeTriggers_holdsStore _ _)
  exact .of_sto rfl

theorem State.startThresholds_holdsStore (s : State) : s.HoldsStore s.startThresholds := by
  have disabled := (Unchanged.foldl (fun s a => State.disableAtLimit a s) (fun s a => s.disableAtLimit_unchanged a)
    (List.finRange 8) s).holdsStore
  unfold State.startThresholds
  simp only
  split
  · exact disabled.trans (State.takeTriggers_holdsStore _ _)
  · exact disabled

theorem State.startOpenings_holdsStore (s : State) : s.HoldsStore s.startOpenings := by
  unfold State.startOpenings
  refine State.HoldsStore.trans ?_ (State.newOccurrence_unchanged _).holdsStore
  refine State.HoldsStore.trans ?_ (State.openPlain_holdsStore _ _ _)
  exact .of_sto rfl

theorem State.closeLink_holdsStore (s : State) : s.HoldsStore s.closeLink := by
  unfold State.closeLink
  simp only
  split
  · exact ⟨rfl, fun _ h => h⟩
  · exact .of_sto rfl

theorem State.standbyEntry_holdsStore (s : State) : s.HoldsStore s.standbyEntry := by
  unfold State.standbyEntry
  refine State.HoldsStore.trans ?_ ((State.bump_unchanged _).append (State.mark_unchanged _ _)).holdsStore
  refine State.HoldsStore.trans (t := State.abortForStandby _) ?_ (.of_sto rfl)
  refine State.HoldsStore.trans ?_ (State.abortForStandby_unchanged _).holdsStore
  refine State.HoldsStore.trans (t := State.purgeEffects false _) ?_ (.of_sto rfl)
  refine State.HoldsStore.trans ?_ (State.purgeEffects_holdsStore _ _)
  exact s.closeLink_holdsStore.trans (.of_sto rfl)

theorem State.endStart_holdsStore (s : State) : s.HoldsStore s.endStart := by
  unfold State.endStart
  split
  · exact (s.openLink_unchanged true).holdsStore
  · exact s.standbyEntry_holdsStore

theorem State.finishStart_holdsStore (s : State) : s.HoldsStore s.finishStart :=
  ((((((s.startPurge_holdsStore).trans (State.restoreLevel_holdsStore _)).trans (State.takeHeld_holdsStore _)).trans
    (State.startThresholds_holdsStore _)).trans (State.startBackoffs_unchanged _).holdsStore).trans
    (State.startOpenings_holdsStore _)).trans (State.endStart_holdsStore _)

/-! ## The report and the turns (R154, R157) -/

theorem State.provisionKeys_holdsStore (domain : Key) (s : State) : s.HoldsStore (s.provisionKeys domain) := by
  have keys : s.HoldsStore (s.provisionOpenings domain) := by
    unfold State.provisionOpenings
    refine State.HoldsStore.trans ?_ (State.openPlain_holdsStore _ _ _)
    refine State.HoldsStore.trans ?_ (State.bump_unchanged _).holdsStore
    refine State.HoldsStore.trans (t := s.onThm fun t => { t with armed := true }) (.of_sto rfl) ?_
    exact (Unchanged.foldl _ (fun s r => s.freshKey_unchanged domain r) _ _).holdsStore
  exact keys.trans ((State.setEngine_unchanged _ _).append (State.markAll_unchanged _ _)).holdsStore

theorem State.nextStage_holdsStore (stage : Stage) (domain : Key) (s : State) : s.HoldsStore (s.nextStage stage domain) := by
  cases stage with
  | authorities =>
    refine State.HoldsStore.trans ?_ (State.mark_unchanged .counters _).holdsStore
    exact .of_sto rfl
  | lifecycle => exact s.provisionKeys_holdsStore domain
  | rangeKeys => exact .of_sto rfl

theorem State.reportEngine_holdsStore (r : RecordId) (good : Bool) (s : State) : s.HoldsStore (s.reportEngine r good) := by
  unfold State.reportEngine
  split
  · split
    · split
      · exact .of_sto rfl
      · exact (s.abortJob_unchanged _).holdsStore
    · exact .refl s
  · split
    · split
      · simp only
        split
        · exact s.nextStage_holdsStore _ _
        · exact .of_sto rfl
      · exact .of_sto rfl
    · exact .refl s
  · exact .refl s
  · exact .refl s

theorem State.reportGrants_holdsStore (r : RecordId) (good : Bool) (s : State) : s.HoldsStore (s.reportGrants r good) :=
  .of_sto (by unfold State.reportGrants; split <;> rfl)

theorem State.reportStart_holdsStore (r : RecordId) (s : State) : s.HoldsStore (s.reportStart r) := by
  unfold State.reportStart
  split
  · exact s.finishStart_holdsStore
  · exact .refl s

theorem State.reportWrite_holdsStore (r : RecordId) (good : Bool) (s : State) : s.HoldsStore (s.reportWrite r good) :=
  (((s.onWork_unchanged (workWritten r good)).holdsStore.trans (State.reportGrants_holdsStore _ _ _)).trans
    (State.reportEngine_holdsStore _ _ _)).trans (State.reportStart_holdsStore _ _)

theorem State.askStore_holdsStore (op : WipeOp) (s : State) : s.HoldsStore (s.askStore op) :=
  State.HoldsStore.trans (t := s.onSto fun t => { t with waitingWipe := some op }) ⟨rfl, fun _ h => h⟩
    (State.beginOp_unchanged _).holdsStore

theorem State.startRewrite_holdsStore (n : Fin 25) (s : State) : s.HoldsStore (s.startRewrite n) := by
  refine State.HoldsStore.trans ?_ (State.askStore_holdsStore _ _)
  refine .of_sto ?_
  unfold State.wipeGroup
  split
  · rfl
  · split
    · rfl
    · split <;> rfl

theorem State.wipeOn_holdsStore (s : State) : s.HoldsStore s.wipeOn := by
  unfold State.wipeOn
  split
  · refine State.HoldsStore.trans ?_ (State.askStore_holdsStore _ _)
    exact .of_sto rfl
  all_goals exact s.startRewrite_holdsStore 0

theorem State.wipeReport_holdsStore (last : WipeLast) (s : State) : s.HoldsStore (s.wipeReport last) :=
  State.HoldsStore.trans (t := s.onWpc fun w => { w with last := some last }) (.of_sto rfl) (State.wipeNotice_unchanged _).holdsStore

theorem State.wipeCounted_holdsStore (s : State) : s.HoldsStore s.wipeCounted := by
  obtain ⟨t, ht⟩ : ∃ t, t = s.onWpc fun w => { w with waits := servedWait .counters w.waits } := ⟨_, rfl⟩
  have served : s.HoldsStore t := .of_sto (ht ▸ rfl)
  unfold State.wipeCounted
  simp only [← ht]
  split
  · have dropped : t.HoldsStore (t.onSto fun u => { u with dirty := u.dirty.filter fun e => !e.record.isKey }) :=
      ⟨rfl, fun _ h => h⟩
    exact ((served.trans dropped).trans (State.wipeOn_holdsStore _)).trans (State.wipeReport_holdsStore _ _)
  · exact (served.trans t.wipeOn_holdsStore).trans (State.wipeReport_holdsStore _ _)
  · refine served.trans (State.HoldsStore.trans ?_ (State.wipeReport_holdsStore _ _))
    refine State.HoldsStore.trans ?_ ((State.bump_unchanged _).append (State.threatNotice_unchanged _ _ _ _)).holdsStore
    exact .of_sto rfl
  · exact served
  · exact served

theorem State.wipeWrote_holdsStore (n : Fin 25) (s : State) : s.HoldsStore (s.wipeWrote n) := by
  have next : s.HoldsStore (if h : n.val + 1 < 25 then s.startRewrite ⟨n.val + 1, h⟩
      else (s.onWpc fun w => { w with step := .closing, waits := waitsFor [.counters] }).mark .counters) := by
    split
    · exact s.startRewrite_holdsStore _
    · exact State.HoldsStore.trans (t := s.onWpc fun w => { w with step := .closing, waits := waitsFor [.counters] })
        (.of_sto rfl) (State.mark_unchanged _ _).holdsStore
  unfold State.wipeWrote
  simp only
  split
  · exact next.trans (State.wipeReport_holdsStore _ _)
  · exact next

theorem State.wipeTurn_holdsStore (forWipe : Bool) (s : State) : s.HoldsStore (s.wipeTurn forWipe) := by
  unfold State.wipeTurn
  split
  · split
    · exact s.wipeWrote_holdsStore _
    all_goals exact .refl s
  · exact s.wipeCounted_holdsStore

/-- STO without its operation takes up the next. -/
theorem State.nextOp_holdsStore (s : State) : s.HoldsStore s.operationOver.beginOp :=
  State.HoldsStore.trans (t := s.operationOver) ⟨rfl, fun _ h => h⟩ (State.beginOp_unchanged _).holdsStore

theorem State.turns_holdsStore {turn : State → State} (h : ∀ s : State, s.HoldsStore (turn s)) (due wpcFirst : Bool) (s : State) :
    s.HoldsStore (s.turns due wpcFirst turn) := by
  unfold State.turns
  split
  · split
    · exact (h s).trans (State.nextOp_holdsStore _)
    · exact s.nextOp_holdsStore.trans (h _)
  · exact s.nextOp_holdsStore

/-- Once the content of a write is in its record, the end of the write holds the store. -/
theorem State.writeDone_holdsStore (c : RecContent) (forWipe good wpcFirst : Bool) (s : State) :
    (s.storeWritten c good).HoldsStore (s.writeDone c forWipe good wpcFirst) := by
  have reported := (s.storeWritten c good).reportWrite_holdsStore c.id good
  unfold State.writeDone
  simp only
  refine State.HoldsStore.trans ?_ (State.turns_holdsStore (State.wipeTurn_holdsStore forWipe) _ _ _)
  split
  · exact reported.trans (.of_sto rfl)
  · exact reported

end Sys2Proof.Machine
end

section
/-! PROOFS. What follows the end of a store operation leaves of replies and STORE notices (R158, R178, R179), and the write that
verifies good with no block waiting on it (R154, R157). -/

namespace Sys2Proof.Machine

/-! ## STORE notices and replies stay told -/

/-- A reply READY or queued in `l`, and a STORE notice queued or pending there, are so in `m`. -/
structure Lnk.KeepsStoreTold (l m : Lnk) : Prop where
  reply : ∀ i (e : Deferred) r, l.deferred.get i = some { e with state := .ready r } ∨
      OutFrame.reply (e.kind + 0x80) e.tag r ∈ l.outbound →
    m.deferred.get i = some { e with state := .ready r } ∨ OutFrame.reply (e.kind + 0x80) e.tag r ∈ m.outbound
  notice : ∀ n, n.rank = 5 → OutFrame.notice n ∈ l.outbound ∨ n ∈ l.pendingSet →
    OutFrame.notice n ∈ m.outbound ∨ n ∈ m.pendingSet

theorem Lnk.KeepsTold.store {l m : Lnk} (h : l.KeepsTold m) : l.KeepsStoreTold m := ⟨h.reply, fun n _ => h.notice n⟩

theorem Lnk.KeepsStoreTold.refl (l : Lnk) : l.KeepsStoreTold l := (Lnk.KeepsTold.refl l).store

theorem Lnk.KeepsStoreTold.of_eq {l m : Lnk} (h : m = l) : l.KeepsStoreTold m := h ▸ .refl l

theorem Lnk.KeepsStoreTold.trans {l m n : Lnk} (h : l.KeepsStoreTold m) (k : m.KeepsStoreTold n) : l.KeepsStoreTold n :=
  ⟨fun i e r => k.reply i e r ∘ h.reply i e r, fun n hn => k.notice n hn ∘ h.notice n hn⟩

theorem mem_insertNotice_of_mem {n k : Notice} {l : List Notice} (h : k ∈ l) : k ∈ insertNotice n l := by
  induction l with
  | nil => cases h
  | cons m l ih =>
    unfold insertNotice
    split
    · exact List.mem_cons_of_mem _ h
    · rcases List.mem_cons.mp h with rfl | h
      · exact List.mem_cons_self
      · exact List.mem_cons_of_mem _ (ih h)

/-- A notice of another kind replaces no STORE notice and no reply. -/
theorem Lnk.raise_keepsStoreTold {n : Notice} (hn : n.rank ≠ 5) (l : Lnk) : l.KeepsStoreTold (l.raise n) := by
  have reply (k : Byte) (t : Byte) (r : Reply) (h : OutFrame.reply k t r ∈ l.outbound) :
      OutFrame.reply k t r ∈ (l.raise n).outbound := by
    unfold Lnk.raise
    split
    · exact List.mem_map.mpr ⟨_, h, rfl⟩
    · split
      · exact h
      · split
        · exact List.mem_append_left _ h
        · exact h
  have other {k : Notice} (hk : k.rank = 5) : ¬ k.rank = n.rank := by
    rw [hk]
    exact Ne.symm hn
  refine ⟨fun i e r told => ?_, fun k hk told => ?_⟩
  · rw [Lnk.raise_deferred]
    exact told.imp_right (reply _ _ _)
  · unfold Lnk.raise
    split
    · refine told.imp_left fun queued => List.mem_map.mpr ⟨_, queued, if_neg ?_⟩
      simpa [OutFrame.ofKind] using other hk
    · split
      · exact told.imp_right fun pending => List.mem_map.mpr ⟨_, pending, if_neg (other hk)⟩
      · split
        · exact told.imp_left (List.mem_append_left _)
        · exact told.imp_right mem_insertNotice_of_mem

theorem State.notify_keepsStoreTold {n : Notice} (hn : n.rank ≠ 5) (s : State) : s.lnk.KeepsStoreTold (s.notify n).lnk := by
  unfold State.notify
  split
  · exact Lnk.raise_keepsStoreTold hn _
  · exact .refl _

theorem State.wipeReport_keepsStoreTold (last : WipeLast) (s : State) : s.lnk.KeepsStoreTold (s.wipeReport last).lnk :=
  State.notify_keepsStoreTold (by simp [Notice.rank]) (s.onWpc fun w => { w with last := some last })

theorem State.threatNotice_keepsStoreTold (l : Level) (c : ThreatCause) (who : Option AuthIx) (s : State) :
    s.lnk.KeepsStoreTold (s.threatNotice l c who).lnk := State.notify_keepsStoreTold (by simp [Notice.rank]) s

theorem State.askStore_keepsStoreTold (op : WipeOp) (s : State) : s.lnk.KeepsStoreTold (s.askStore op).lnk :=
  (State.beginOp_keepsTold (s.onSto fun t => { t with waitingWipe := some op })).store

theorem State.wipeGroup_lnk (n : Fin 25) (s : State) : (s.wipeGroup n).lnk = s.lnk := by
  unfold State.wipeGroup
  split
  · rfl
  · split
    · rfl
    · split <;> rfl

theorem State.startRewrite_keepsStoreTold (n : Fin 25) (s : State) : s.lnk.KeepsStoreTold (s.startRewrite n).lnk :=
  (Lnk.KeepsStoreTold.of_eq (s.wipeGroup_lnk n)).trans
    (State.askStore_keepsStoreTold _ ((s.wipeGroup n).onWpc fun w => { w with step := .rewriting n }))

theorem State.wipeOn_keepsStoreTold (s : State) : s.lnk.KeepsStoreTold s.wipeOn.lnk := by
  unfold State.wipeOn
  split
  · next b _ _ => exact State.askStore_keepsStoreTold _ (s.onWpc fun w => { w with step := .erasing b })
  all_goals exact s.startRewrite_keepsStoreTold 0

theorem State.wipeComplete_keepsStoreTold (s : State) : s.lnk.KeepsStoreTold s.wipeComplete.lnk := by
  unfold State.wipeComplete
  refine Lnk.KeepsStoreTold.trans ?_ (State.wipeReport_keepsStoreTold _ _)
  refine Lnk.KeepsStoreTold.trans ?_ (State.threatNotice_keepsStoreTold _ _ _ _)
  exact .of_eq (State.bump_lnk _)

theorem State.wipeCounted_keepsStoreTold (s : State) : s.lnk.KeepsStoreTold s.wipeCounted.lnk := by
  obtain ⟨t, ht⟩ : ∃ t, t = s.onWpc fun w => { w with waits := servedWait .counters w.waits } := ⟨_, rfl⟩
  have same : t.lnk = s.lnk := ht ▸ rfl
  unfold State.wipeCounted
  simp only [← ht]
  rw [← same]
  split
  · exact (State.wipeOn_keepsStoreTold (t.onSto fun u => { u with dirty := u.dirty.filter fun e => !e.record.isKey })).trans
      (State.wipeReport_keepsStoreTold _ _)
  · exact t.wipeOn_keepsStoreTold.trans (State.wipeReport_keepsStoreTold _ _)
  · exact t.wipeComplete_keepsStoreTold
  · exact .refl _
  · exact .refl _

theorem State.wipeWrote_keepsStoreTold (n : Fin 25) (s : State) : s.lnk.KeepsStoreTold (s.wipeWrote n).lnk := by
  have next : s.lnk.KeepsStoreTold (if h : n.val + 1 < 25 then s.startRewrite ⟨n.val + 1, h⟩
      else (s.onWpc fun w => { w with step := .closing, waits := waitsFor [.counters] }).mark .counters).lnk := by
    split
    · exact s.startRewrite_keepsStoreTold _
    · exact (State.mark_keepsTold .counters (s.onWpc fun w => { w with step := .closing, waits := waitsFor [.counters] })).store
  unfold State.wipeWrote
  simp only
  split
  · exact next.trans (State.wipeReport_keepsStoreTold _ _)
  · exact next

theorem State.wipeTurn_keepsStoreTold (forWipe : Bool) (s : State) : s.lnk.KeepsStoreTold (s.wipeTurn forWipe).lnk := by
  unfold State.wipeTurn
  split
  · split
    · exact s.wipeWrote_keepsStoreTold _
    all_goals exact .refl _
  · exact s.wipeCounted_keepsStoreTold

theorem State.nextOp_keepsTold (s : State) : s.lnk.KeepsTold s.operationOver.beginOp.lnk := s.operationOver.beginOp_keepsTold

theorem State.turns_keepsStoreTold {turn : State → State} (h : ∀ s : State, s.lnk.KeepsStoreTold (turn s).lnk)
    (due wpcFirst : Bool) (s : State) : s.lnk.KeepsStoreTold (s.turns due wpcFirst turn).lnk := by
  unfold State.turns
  split
  · split
    · exact (h s).trans (State.nextOp_keepsTold _).store
    · exact s.nextOp_keepsTold.store.trans (h _)
  · exact s.nextOp_keepsTold.store

/-- A failed write ends the engine's job, if it waits on it, and tells nobody else. -/
theorem State.reportEngine_failed_keepsTold (r : RecordId) (s : State) : s.lnk.KeepsTold (s.reportEngine r false).lnk := by
  have aborted (q : Reply) : s.lnk.KeepsTold (s.abortJob q).lnk := by
    have same : s.abortBackoff.lnk = s.lnk := by
      unfold State.abortBackoff
      split <;> rfl
    rw [← same]
    exact Lnk.onWork_keepsTold _ _
  unfold State.reportEngine
  split
  · split
    · exact aborted _
    · exact .refl _
  · split
    · exact Lnk.onWork_keepsTold _ _
    · exact .refl _
  · exact .refl _
  · exact .refl _

theorem State.reportStart_done {r : RecordId} {s : State} (h : s.pwc.stage = .done) : s.reportStart r = s := by
  rw [State.reportStart, h]
  rfl

theorem State.reportGrants_lnk (r : RecordId) (good : Bool) (s : State) : (s.reportGrants r good).lnk = s.lnk := by
  unfold State.reportGrants
  split <;> rfl

theorem State.reportGrants_pwc (r : RecordId) (good : Bool) (s : State) : (s.reportGrants r good).pwc = s.pwc := by
  unfold State.reportGrants
  split <;> rfl

/-- What a failed write tells the waiting replies stays told, no start waiting on it. -/
theorem State.reportWrite_failed_keepsTold {r : RecordId} {s : State} (h : s.pwc.stage = .done) :
    (Lnk.onWork (workWritten r false) s.lnk).KeepsTold (s.reportWrite r false).lnk := by
  obtain ⟨t, ht⟩ : ∃ t, t = (s.onLnk (Lnk.onWork (workWritten r false))).reportGrants r false := ⟨_, rfl⟩
  have link : t.lnk = Lnk.onWork (workWritten r false) s.lnk := by
    rw [ht, State.reportGrants_lnk]
    rfl
  have stage : (t.reportEngine r false).pwc.stage = .done := by
    have same : t.pwc = s.pwc := by
      rw [ht, State.reportGrants_pwc]
      rfl
    have engine : (t.reportEngine r false).pwc.stage = t.pwc.stage := by
      unfold State.reportEngine
      split
      · split
        · exact ((t.abortJob_unchanged _) .stage (by decide)).1
        · rfl
      · split <;> rfl
      · rfl
      · rfl
    rw [engine, same, h]
  rw [State.reportWrite, ← ht, State.reportStart_done stage, ← link]
  exact t.reportEngine_failed_keepsTold r

end Sys2Proof.Machine
end

section
/-! PROOFS. RECORD_WRITE (R9, R154, R157). -/

namespace Sys2Proof.Machine

theorem State.powered_of_ne {s : State} (h : s.pwc.power ≠ .unpowered) : s.powered = true := by
  simp [State.powered, h]

section
variable {s : State} {c : RecContent} {retry forWipe good first : Bool}

/-- A write that verifies good, or fails a second time, ends. -/
theorem execRecordWrite_ends (hp : s.pwc.power ≠ .unpowered) (hf : s.sto.inFlight = some (.write c retry forWipe))
    (h : good = true ∨ retry = true) :
    exec (.recordWrite good first) s = .next (s.writeDone c forWipe good first).settle := by
  have ends : (good || retry) = true := by simpa using h
  show execRecordWrite good first s = _
  rw [execRecordWrite, State.occur_of_powered (State.powered_of_ne hp)]
  simp only [hf, ends, if_true]

/-- A write that fails its first verify is repeated. -/
theorem execRecordWrite_repeats (hp : s.pwc.power ≠ .unpowered) (hf : s.sto.inFlight = some (.write c false forWipe)) :
    exec (.recordWrite false first) s = .next (s.onSto fun t => { t with inFlight := some (.write c true forWipe) }).settle := by
  show execRecordWrite false first s = _
  rw [execRecordWrite, State.occur_of_powered (State.powered_of_ne hp)]
  simp [hf]

end

/-- An operation repeated concerns the operation alone. -/
theorem State.setOperation_unchanged (o : Option StoreOp) (s : State) :
    Unchanged [.operation] s (s.onSto fun t => { t with inFlight := o }) := by
  intro p hp; cases p <;> simp_all [Part.same]

/-! ## A write that failed twice -/

theorem State.addFaulty_lnk (r : RecordId) (s : State) : (s.addFaulty r).lnk = s.lnk := by
  unfold State.addFaulty
  split <;> rfl

theorem State.addFaulty_pwc (r : RecordId) (s : State) : (s.addFaulty r).pwc = s.pwc := by
  unfold State.addFaulty
  split <;> rfl

theorem State.notify_sto (n : Notice) (s : State) : (s.notify n).sto = s.sto := by
  unfold State.notify
  split <;> rfl

theorem State.notify_pwc (n : Notice) (s : State) : (s.notify n).pwc = s.pwc := by
  unfold State.notify
  split <;> rfl

/-- The write failed twice: its record is invalid and faulty, and a STORE notice is raised. -/
theorem State.storeWritten_failed (c : RecContent) (s : State) :
    (s.storeWritten c false).sto.records = s.sto.records.spoil c.id ∧ c.id ∈ (s.storeWritten c false).sto.faulty ∧
      (s.storeWritten c false).lnk.deferred = s.lnk.deferred ∧ (s.storeWritten c false).pwc = s.pwc ∧
      (s.linkOpen = true → ∃ n, (s.storeWritten c false).Notified (.store (.write c.id) n)) := by
  obtain ⟨u, hu⟩ : ∃ u, u = (s.onSto fun t => { t with records := t.records.spoil c.id }).addFaulty c.id := ⟨_, rfl⟩
  have written : s.storeWritten c false = u.notify (.store (.write c.id) u.sto.faulty.length) := by rw [hu]; rfl
  have pwc : u.pwc = s.pwc := by rw [hu, State.addFaulty_pwc]; rfl
  rw [written, State.notify_sto, State.notify_deferred, State.notify_pwc]
  refine ⟨?_, ?_, ?_, pwc, fun h => ⟨_, State.notified_notify ?_⟩⟩
  · rw [hu, State.addFaulty_records]
    rfl
  · rw [hu]
    exact State.mem_addFaulty.mpr (.inr rfl)
  · rw [hu, State.addFaulty_lnk]
    rfl
  · rw [State.linkOpen, pwc]
    exact h

/-- What the failed write has told stays told to the end of its occurrence. -/
theorem State.writeDone_failed_keepsStoreTold {c : RecContent} {forWipe wpcFirst : Bool} {s : State}
    (h : (s.storeWritten c false).pwc.stage = .done) :
    (Lnk.onWork (workWritten c.id false) (s.storeWritten c false).lnk).KeepsStoreTold
      (s.writeDone c forWipe false wpcFirst).settle.lnk := by
  have reported := (State.reportWrite_failed_keepsTold (r := c.id) h).store
  refine Lnk.KeepsStoreTold.trans ?_ (State.settle_keepsTold _).store
  unfold State.writeDone
  simp only
  refine Lnk.KeepsStoreTold.trans ?_ (State.turns_keepsStoreTold (State.wipeTurn_keepsStoreTold forWipe) _ _ _)
  split <;> exact reported

/-- A reply that waits for a failed write is STORE_FAULT. -/
theorem Lnk.onWork_failed {l : Lnk} {r : RecordId} {i : DeferIx} {d : Deferred} {ws : List Wait} {lock : Option RangeIx}
    {done fault : Reply} (hd : l.deferred.get i = some d) (hs : d.state = .working (.writes ws lock done fault))
    (hw : waitsOn r ws = true) :
    (Lnk.onWork (workWritten r false) l).deferred.get i = some { d with state := .ready fault } := by
  have get : (Lnk.onWork (workWritten r false) l).deferred.get i = _ := Table.get_imap _ _ _
  rw [get, hd]
  simp [hs, workWritten, hw]

/-! ## A write that verified good, with no block waiting on it -/

theorem servedWait_of_not_waitsOn {r : RecordId} {ws : List Wait} (h : waitsOn r ws = false) : servedWait r ws = ws := by
  rw [servedWait, List.filter_eq_self]
  intro w hw
  have := List.any_eq_false.mp h w hw
  simpa [imp_iff_not_or] using this

/-- A reply that waited for a good write alone has its own result. -/
theorem Lnk.onWork_done {l : Lnk} {r : RecordId} {i : DeferIx} {d : Deferred} {ws : List Wait} {done fault : Reply}
    (hd : l.deferred.get i = some d) (hs : d.state = .working (.writes ws none done fault)) (hne : ws ≠ [])
    (hw : ∀ w ∈ ws, w.record = r ∧ w.started = true) :
    (Lnk.onWork (workWritten r true) l).deferred.get i = some { d with state := .ready done } := by
  have get : (Lnk.onWork (workWritten r true) l).deferred.get i = _ := Table.get_imap _ _ _
  have waits : waitsOn r ws = true := by
    obtain ⟨w, hm⟩ := List.exists_mem_of_ne_nil ws hne
    exact List.any_eq_true.mpr ⟨w, hm, by simp [hw w hm]⟩
  have served : servedWait r ws = [] := by
    rw [servedWait, List.filter_eq_nil_iff]
    intro w hm
    simp [hw w hm]
  rw [get, hd]
  simp [hs, workWritten, waits, served, writesState]

/-- The state after a good write that only deferred replies wait on, before STO's next start. -/
def State.goodWrite (c : RecContent) (s : State) : State :=
  ((s.storeWritten c true).onLnk (Lnk.onWork (workWritten c.id true))).operationOver

theorem State.writeDone_good {s : State} {c : RecContent} {first : Bool} (wipe : waitsOn c.id s.wpc.waits = false)
    (grants : waitsOn c.id s.rmg.grants = false) (idle : s.aut.engine = .idle) (stage : s.pwc.stage = .done) :
    s.writeDone c false true first = (s.goodWrite c).beginOp := by
  obtain ⟨u, hu⟩ : ∃ u, u = (s.storeWritten c true).onLnk (Lnk.onWork (workWritten c.id true)) := ⟨_, rfl⟩
  have told : u.reportGrants c.id true = u := by
    have same : servedWait c.id u.rmg.grants = u.rmg.grants := servedWait_of_not_waitsOn (hu ▸ grants)
    rw [State.reportGrants]
    show u.onRmg _ = u
    rw [State.onRmg, same]
  have engine : u.reportEngine c.id true = u := by
    have idle : u.aut.engine = .idle := hu ▸ idle
    rw [State.reportEngine, idle]
  have reported : (s.storeWritten c true).reportWrite c.id true = u := by
    rw [State.reportWrite, ← hu, told, engine, State.reportStart_done (hu ▸ stage)]
  have turn : waitsOn c.id u.wpc.waits = false := hu ▸ wipe
  unfold State.writeDone
  simp only [reported, turn, State.turns, State.goodWrite, ← hu]
  rfl

theorem State.goodWrite_unchanged (c : RecContent) (s : State) :
    Unchanged [.records, .faulty, .deferred, .operation] s (s.goodWrite c) := by
  have written : Unchanged [.records, .faulty] s (s.storeWritten c true) := by
    intro p hp; cases p <;> simp_all [Part.same, State.storeWritten]
  exact ((written.append (State.onWork_unchanged _ _)).append (State.setOperation_unchanged none _)).mono

/-- With nothing to write STO stays without an operation. -/
theorem State.beginOp_nothing {s : State} (wipe : s.sto.waitingWipe = none) (dirty : s.sto.dirty = []) : s.beginOp = s := by
  unfold State.beginOp
  simp [wipe, dirty]

/-- STO's next operation is the write at the head of the dirty list (R157). -/
theorem State.beginOp_head {s : State} {e : DirtyEntry} {rest : List DirtyEntry} (may : s.stoMayStart = true)
    (idle : s.sto.inFlight = none) (wipe : s.sto.waitingWipe = none) (dirty : s.sto.dirty = e :: rest) :
    s.beginOp.sto.inFlight = some (.write (s.content e.record) false false) ∧ s.beginOp.sto.dirty = rest := by
  unfold State.beginOp
  simp [may, idle, wipe, dirty, State.startWaits_sto]

/-! ## The ends of a write -/

section
variable {s : State} {c : RecContent} {forWipe : Bool} {first : Bool}

/-- A good write puts its content in its record (R154). -/
theorem recordWrite_writes {retry : Bool} (hp : s.pwc.power ≠ .unpowered)
    (hf : s.sto.inFlight = some (.write c retry forWipe)) :
    ∃ t, exec (.recordWrite true first) s = .next t ∧ t.sto.records = s.sto.records.write c := by
  refine ⟨_, execRecordWrite_ends hp hf (.inl rfl), ?_⟩
  rw [State.settle_sto, (State.writeDone_holdsStore c forWipe true first s).records]
  rfl

/-- A first verify failure repeats the write (R154). -/
theorem recordWrite_repeats (hp : s.pwc.power ≠ .unpowered) (hf : s.sto.inFlight = some (.write c false forWipe)) :
    ∃ t, exec (.recordWrite false first) s = .next t ∧ t.sto.inFlight = some (.write c true forWipe) ∧
      t.sto.waitingWipe = s.sto.waitingWipe ∧ Unchanged [.operation] s t :=
  ⟨_, execRecordWrite_repeats hp hf, by rw [State.settle_sto]; rfl, by rw [State.settle_sto]; rfl,
    ((s.setOperation_unchanged _).append (State.settle_unchanged _)).mono⟩

/-- A second verify failure leaves the record invalid and faulty, and is told (R9, R154, R158). -/
theorem recordWrite_fails (hp : s.pwc.power ≠ .unpowered) (hf : s.sto.inFlight = some (.write c true forWipe)) :
    ∃ t, exec (.recordWrite false first) s = .next t ∧ t.sto.records = s.sto.records.spoil c.id ∧ c.id ∈ t.sto.faulty ∧
      (s.pwc.stage = .done → s.pwc.power = .active → ∃ n, t.Notified (.store (.write c.id) n)) ∧
      ∀ i d ws lock done fault, s.lnk.deferred.get i = some d → d.state = .working (.writes ws lock done fault) →
        waitsOn c.id ws = true → s.pwc.stage = .done → t.Finishes i d fault := by
  obtain ⟨records, faulty, deferred, pwc, notice⟩ := s.storeWritten_failed c
  have held := State.writeDone_holdsStore c forWipe false first s
  have told (stage : s.pwc.stage = .done) := State.writeDone_failed_keepsStoreTold (c := c) (forWipe := forWipe)
    (wpcFirst := first) (s := s) (by rw [pwc, stage])
  refine ⟨_, execRecordWrite_ends hp hf (.inr rfl), ?_, ?_, fun stage active => ?_,
    fun i d ws lock done fault hd hs hw stage => ?_⟩
  · rw [State.settle_sto, held.records, records]
  · rw [State.settle_sto]
    exact held.faulty _ faulty
  · obtain ⟨n, hn⟩ := notice (State.linkOpen_of_active active)
    exact ⟨n, (told stage).notice _ rfl hn⟩
  · refine (told stage).reply i d fault (.inl (Lnk.onWork_failed ?_ hs hw))
    rw [deferred, hd]

/-- A good write that deferred replies alone wait on: the record is sound, they are answered, and STO goes on (R9, R157). -/
theorem recordWrite_answers {retry : Bool} (hp : s.pwc.power ≠ .unpowered)
    (hf : s.sto.inFlight = some (.write c retry false)) (wipe : waitsOn c.id s.wpc.waits = false)
    (grants : waitsOn c.id s.rmg.grants = false) (idle : s.aut.engine = .idle) (stage : s.pwc.stage = .done) :
    ∃ t, exec (.recordWrite true first) s = .next t ∧ c.id ∉ t.sto.faulty ∧
      (∀ i d ws done fault, s.lnk.deferred.get i = some d → d.state = .working (.writes ws none done fault) →
        ws ≠ [] → (∀ w ∈ ws, w.record = c.id ∧ w.started = true) → t.Finishes i d done) ∧
      (s.sto.waitingWipe = none → s.sto.dirty = [] → t.sto.inFlight = none) ∧
      (∀ e rest, s.sto.waitingWipe = none → s.sto.dirty = e :: rest →
        t.sto.inFlight = some (.write (s.content e.record) false false) ∧ t.sto.dirty = rest) ∧
      Unchanged [.outbound, .deferred, .records, .faulty, .operation, .dirty] s t := by
  have frame : Unchanged [.outbound, .deferred, .records, .faulty, .operation, .dirty] s (s.goodWrite c).beginOp.settle :=
    (((s.goodWrite_unchanged c).append (State.beginOp_unchanged _)).append (State.settle_unchanged _)).mono
  refine ⟨_, execRecordWrite_ends hp hf (.inl rfl), ?_⟩
  rw [State.writeDone_good (first := first) wipe grants idle stage]
  refine ⟨?_, fun i d ws done fault hd hs hne hw => ?_, fun none_ empty => ?_, fun e rest none_ head => ?_, frame⟩
  · have same : (s.goodWrite c).beginOp.settle.sto.faulty = (s.goodWrite c).sto.faulty := by
      rw [State.settle_sto]
      exact ((State.beginOp_unchanged (s.goodWrite c)) .faulty (by decide)).1
    rw [same]
    simp [State.goodWrite, State.operationOver, State.storeWritten]
  · have ready : (s.goodWrite c).Finishes i d done := .inl (Lnk.onWork_done (l := s.lnk) hd hs hne hw)
    exact (ready.step (State.beginOp_keepsTold _)).step (State.settle_keepsTold _)
  · rw [State.settle_sto, State.beginOp_nothing (s := s.goodWrite c) none_ empty]
    rfl
  · have may : (s.goodWrite c).stoMayStart = true := by
      have powered : (s.goodWrite c).powered = true := State.powered_of_ne hp
      have stage : (s.goodWrite c).pwc.stage = .done := stage
      rw [State.stoMayStart, powered, stage]
      rfl
    have content : (s.goodWrite c).content e.record = s.content e.record := by
      cases e.record <;> rfl
    rw [State.settle_sto, ← content]
    exact State.beginOp_head may rfl none_ head

end

end Sys2Proof.Machine
end

section
/-! PROOFS. BANK_ERASE (R9, R122, R123, R155, R157). -/

namespace Sys2Proof.Machine

section
variable {s : State} {b : Bank} {retry good first : Bool}

theorem execBankErase_ends (hp : s.pwc.power ≠ .unpowered) (hf : s.sto.inFlight = some (.erase b retry))
    (h : good = true ∨ retry = true) : exec (.bankErase good first) s = .next (s.eraseDone b good first).settle := by
  have ends : (good || retry) = true := by simpa using h
  show execBankErase good first s = _
  rw [execBankErase, State.occur_of_powered (State.powered_of_ne hp)]
  simp only [hf, ends, if_true]

theorem execBankErase_repeats (hp : s.pwc.power ≠ .unpowered) (hf : s.sto.inFlight = some (.erase b false)) :
    exec (.bankErase false first) s = .next (s.onSto fun t => { t with inFlight := some (.erase b true) }).settle := by
  show execBankErase false first s = _
  rw [execBankErase, State.occur_of_powered (State.powered_of_ne hp)]
  simp [hf]

end

/-! ## The erase ended, before the turns -/

/-- The records after an erase: those of the bank blank, or invalid, and no other record changed (R155). -/
theorem Records.eraseBank_spec (rs : Records) (b : Bank) (good : Bool) :
    (∀ r, (rs.eraseBank b good).rangeKey.get r =
      if b = .k0 then (if good then .blank else .invalid) else rs.rangeKey.get r) ∧
    (∀ p, (rs.eraseBank b good).envelope.get p =
      if b ≠ .k0 ∧ envelopeBank p = b then (if good then .blank else .invalid) else rs.envelope.get p) ∧
    rs.eraseBank b good = { rs with
      rangeKey := (rs.eraseBank b good).rangeKey, envelope := (rs.eraseBank b good).envelope } := by
  cases b with
  | k0 => exact ⟨fun r => by simp [Records.eraseBank], fun p => by simp [Records.eraseBank], rfl⟩
  | k1 | k2 | k3 => exact ⟨fun r => by simp [Records.eraseBank], fun p => by simp [Records.eraseBank], rfl⟩

theorem State.mem_addFaulties {rs : List RecordId} {q : RecordId} {s : State} :
    q ∈ (rs.foldl (fun s r => s.addFaulty r) s).sto.faulty ↔ q ∈ s.sto.faulty ∨ q ∈ rs := by
  induction rs generalizing s with
  | nil => simp
  | cons r rs ih => rw [List.foldl_cons, ih, State.mem_addFaulty, List.mem_cons, or_assoc]

/-- What an erase comes to before WPC's turn and STO's next start. -/
structure State.Erased (b : Bank) (good : Bool) (s u : State) : Prop where
  records : u.sto.records = s.sto.records.eraseBank b good
  operation : u.sto.inFlight = s.sto.inFlight
  goodFaulty : good = true → u.sto.faulty = s.sto.faulty ∧ u.sto.gained = s.sto.gained ∧ u.wpc.failed = s.wpc.failed
  badFaulty : good = false → ∀ r, r ∈ u.sto.faulty ↔ r ∈ s.sto.faulty ∨ r ∈ b.records
  badFailed : good = false → ∀ r, r ∈ u.wpc.failed ↔ r ∈ s.wpc.failed ∨ r ∈ b.records
  notice : good = false → s.pwc.power = .active → u.Notified (.store (.erase b) u.sto.faulty.length)
  step : u.wpc.step = s.wpc.step
  resumed : u.wpc.resumed = s.wpc.resumed
  frame : Unchanged [.outbound, .pendingSet, .period, .wipe, .records, .faulty] s u

/-- The state in which an erase has ended, the store and the host told. -/
def State.eraseEnded (b : Bank) (good : Bool) (s : State) : State :=
  let s1 := s.onSto fun t => { t with records := t.records.eraseBank b good }
  if good then s1
  else
    let t := b.records.foldl (fun s r => s.addFaulty r) s1
    (t.notify (.store (.erase b) t.sto.faulty.length)).wipeFailed b.records

theorem State.eraseDone_eq (b : Bank) (good first : Bool) (s : State) : s.eraseDone b good first =
    (s.eraseEnded b good).turns ((s.eraseEnded b good).wpc.step == .erasing b) first (State.wipeErased b) := rfl

theorem State.eraseEnded_spec (b : Bank) (good : Bool) (s : State) : State.Erased b good s (s.eraseEnded b good) := by
  obtain ⟨s1, hs1⟩ : ∃ s1, s1 = s.onSto fun t => { t with records := t.records.eraseBank b good } := ⟨_, rfl⟩
  have blank : Unchanged [.records] s s1 := by
    subst hs1
    intro p hp; cases p <;> simp_all [Part.same]
  cases good with
  | true =>
    refine ⟨rfl, rfl, fun _ => ⟨rfl, rfl, rfl⟩, nofun, nofun, nofun, rfl, rfl, ?_⟩
    exact (hs1 ▸ blank).mono
  | false =>
    obtain ⟨t, ht⟩ : ∃ t, t = b.records.foldl (fun s r => s.addFaulty r) s1 := ⟨_, rfl⟩
    have faulty : Unchanged [.faulty] s1 t := ht ▸ Unchanged.foldl _ (fun s r => s.addFaulty_unchanged r) _ _
    have before : Unchanged [.records, .faulty] s t := blank.append faulty
    have operation : t.sto.inFlight = s.sto.inFlight ∧ t.sto.waitingWipe = s.sto.waitingWipe := before .operation (by decide)
    obtain ⟨step, -, -, -, resumed, failed, -, -⟩ := before .wipe (by decide)
    have wiped (v : State) : Unchanged [.wipe] v (v.wipeFailed b.records) := by
      intro p hp; cases p <;> simp_all [Part.same, State.wipeFailed]
    have ended : s.eraseEnded b false = (t.notify (.store (.erase b) t.sto.faulty.length)).wipeFailed b.records := by
      rw [ht, hs1]
      rfl
    have wpc : (t.notify (.store (.erase b) t.sto.faulty.length)).wpc = t.wpc := by
      unfold State.notify
      split <;> rfl
    have sto : (s.eraseEnded b false).sto = t.sto := by
      rw [ended]
      exact State.notify_sto _ t
    rw [State.wipeFailed] at ended
    refine ⟨?_, by rw [sto, operation.1], nofun, fun _ r => ?_, fun _ r => ?_, fun _ active => ?_, ?_, ?_, ?_⟩
    · have same : t.sto.records = s1.sto.records := faulty .records (by decide)
      rw [sto, same, hs1]
      rfl
    · rw [sto, ht, State.mem_addFaulties, hs1]
      rfl
    · rw [ended, State.onWpc_wpc, wpc, failed]
      by_cases h : r ∈ s.wpc.failed <;> simp [h]
    · have power : t.pwc.power = s.pwc.power := before .power (by decide)
      rw [sto, ended]
      exact State.notified_notify (State.linkOpen_of_active (power.trans active))
    · rw [ended, State.onWpc_wpc, wpc, step]
    · rw [ended, State.onWpc_wpc, wpc, resumed]
    · rw [ended]
      exact ((before.append (State.notify_unchanged _ t)).append (wiped _)).mono

/-! ## WPC's turn (R122, R123) -/

/-- The phase of the wipe after the erase of a bank. -/
def Bank.phaseAfter (b : Bank) : WipePhase := if b = .k3 then .rewriting else .erasing

/-- The phase a WIPE notice reports of it. -/
def Bank.reportAfter (b : Bank) : WipeReport := if b = .k3 then .rewriting else .erasing

theorem Bank.phaseAfter_eq (b : Bank) : (if b.after.isSome then WipePhase.erasing else .rewriting) = b.phaseAfter := by
  cases b <;> rfl

/-- What WPC's turn after its erase leaves of `v`. -/
structure State.WipeErased (b : Bank) (v w : State) : Prop where
  phase : w.wpc.phase = b.phaseAfter
  next : w.wpc.next = b.after
  last : w.wpc.last = some (.erased b)
  step : w.wpc.step = v.wpc.step
  failed : w.wpc.failed = v.wpc.failed
  ranges : ∀ r, w.rmg.ranges.get r = if b = .k0 then (v.rmg.ranges.get r).erased else v.rmg.ranges.get r
  envelopes : ∀ p, w.rmg.envelopes.get p =
    if b = .k0 then (v.rmg.envelopes.get p).filter fun e => e.target == .domain
    else if envelopeBank p = b then none else v.rmg.envelopes.get p
  sameRanges : b ≠ .k0 → w.rmg.ranges = v.rmg.ranges
  notice : v.wpc.step = .erasing b → v.linkOpen = true →
    w.Notified (.wipe b.reportAfter (some (.erased b)) b.after v.wpc.resumed v.wpc.failed.length)
  told : v.lnk.KeepsStoreTold w.lnk
  marked : w.Marked .counters
  listed : v.sto.inFlight.isSome → ∃ e ∈ w.sto.dirty, e.record = .counters
  frame : Unchanged [.outbound, .pendingSet, .period, .ranges, .envelopes, .wipe, .operation, .dirty] v w

/-- The images of the bank erased, and the progress moved on, before the notice and the mark. -/
def State.progressed (b : Bank) (v : State) : State :=
  (v.bankImage b).onWpc fun w =>
    { w with phase := b.phaseAfter, next := b.after, waits := waitsFor [.counters], last := some (.erased b) }

theorem State.wipeErased_eq (b : Bank) (v : State) : v.wipeErased b = (v.progressed b).wipeNotice.mark .counters := by
  rw [State.progressed, ← Bank.phaseAfter_eq]
  rfl

theorem State.progressed_wpc (b : Bank) (v : State) : (v.progressed b).wpc =
    { v.wpc with phase := b.phaseAfter, next := b.after, waits := waitsFor [.counters], last := some (.erased b) } := by
  cases b <;> rfl

theorem State.progressed_lnk (b : Bank) (v : State) : (v.progressed b).lnk = v.lnk := by cases b <;> rfl

theorem State.progressed_sto (b : Bank) (v : State) : (v.progressed b).sto = v.sto := by cases b <;> rfl

theorem State.progressed_unchanged (b : Bank) (v : State) : Unchanged [.ranges, .envelopes, .wipe] v (v.progressed b) := by
  cases b <;> (intro p hp; cases p <;> simp_all [Part.same, State.progressed, State.bankImage])

/-- The notice of WPC's turn reports the phase and the next bank after it (log 23). -/
theorem State.progressed_notice {b : Bank} {v : State} (h : v.wpc.step = .erasing b) : (v.progressed b).wipeNotice =
    (v.progressed b).notify (.wipe b.reportAfter (some (.erased b)) b.after v.wpc.resumed v.wpc.failed.length) := by
  simp only [State.wipeNotice, State.progressed_wpc, Wpc.report, h]
  cases b <;> rfl

theorem State.wipeNotice_sto (v : State) : v.wipeNotice.sto = v.sto := State.notify_sto _ v

theorem State.mark_wpc_fields (r : RecordId) (v : State) : (v.mark r).wpc.step = v.wpc.step ∧ (v.mark r).wpc.phase = v.wpc.phase ∧
    (v.mark r).wpc.next = v.wpc.next ∧ (v.mark r).wpc.last = v.wpc.last ∧ (v.mark r).wpc.failed = v.wpc.failed := by
  obtain ⟨step, phase, next, -, -, failed, last, -⟩ := (v.mark_unchanged r) .wipe (by decide)
  exact ⟨step, phase, next, last, failed⟩

theorem State.wipeErased_spec (b : Bank) (v : State) : State.WipeErased b v (v.wipeErased b) := by
  obtain ⟨u, hu⟩ : ∃ u, u = v.progressed b := ⟨_, rfl⟩
  obtain ⟨n, hn⟩ : ∃ n, n = u.wipeNotice := ⟨_, rfl⟩
  have whole : v.wipeErased b = n.mark .counters := by rw [State.wipeErased_eq, hn, hu]
  have wpc : n.wpc = u.wpc := by
    rw [hn, State.wipeNotice, State.notify]
    split <;> rfl
  have rmg : n.rmg = u.rmg := by rw [hn]; exact State.notify_rmg _ u
  have uWpc := hu ▸ State.progressed_wpc b v
  obtain ⟨step, phase, next, last, failed⟩ := State.mark_wpc_fields .counters n
  have tail := State.mark_unchanged .counters n
  have ranges : (n.mark .counters).rmg.ranges = u.rmg.ranges := by
    have same : (n.mark .counters).rmg.ranges = n.rmg.ranges := tail .ranges (by decide)
    rw [same, rmg]
  have envelopes : (n.mark .counters).rmg.envelopes = u.rmg.envelopes := by
    have same : (n.mark .counters).rmg.envelopes = n.rmg.envelopes := tail .envelopes (by decide)
    rw [same, rmg]
  have sto : n.sto = v.sto := by rw [hn, State.wipeNotice_sto, hu, State.progressed_sto]
  rw [whole]
  refine ⟨by rw [phase, wpc, uWpc], by rw [next, wpc, uWpc], by rw [last, wpc, uWpc], by rw [step, wpc, uWpc],
    by rw [failed, wpc, uWpc], fun r => ?_, fun p => ?_, fun hb => ?_, fun erasing open_ => ?_, ?_,
    State.marked_mark _ _, fun busy => ?_, ?_⟩
  · rw [ranges, hu]
    cases b <;> simp [State.progressed, State.bankImage]
  · rw [envelopes, hu]
    cases b <;> simp [State.progressed, State.bankImage]
  · rw [ranges, hu]
    cases b with
    | k0 => exact absurd rfl hb
    | k1 | k2 | k3 => rfl
  · have raised : n.Notified (.wipe b.reportAfter (some (.erased b)) b.after v.wpc.resumed v.wpc.failed.length) := by
      rw [hn, hu, State.progressed_notice erasing]
      refine State.notified_notify ?_
      have power : (v.progressed b).pwc.power = v.pwc.power := (v.progressed_unchanged b) .power (by decide)
      rw [State.linkOpen, power]
      exact open_
    exact raised.step (State.mark_keepsTold _ n)
  · have link : u.lnk = v.lnk := hu ▸ State.progressed_lnk b v
    have raised : u.lnk.KeepsStoreTold n.lnk := hn ▸ State.notify_keepsStoreTold (by simp [Notice.rank]) u
    rw [← link]
    exact raised.trans (State.mark_keepsTold _ n).store
  · have stays : (n.mark .counters).sto.dirty = markDirty .counters true n.model.marks n.sto.dirty := by
      rw [State.mark, State.markAs, State.beginOp, if_neg]
      · rfl
      · simp [sto, Option.isSome_iff_ne_none.mp busy]
    rw [stays]
    exact markDirty_mem _ _ _ _
  · exact (((hu ▸ State.progressed_unchanged b v).append (hn ▸ State.wipeNotice_unchanged u)).append tail).mono

/-! ## The turns (R157) -/

/-- The erase ends without a turn of WPC. -/
theorem State.turns_none {u : State} {first : Bool} {turn : State → State} :
    Unchanged Part.marks u (u.turns false first turn).settle ∧ u.lnk.KeepsTold (u.turns false first turn).settle.lnk := by
  have next : u.turns false first turn = u.operationOver.beginOp := rfl
  rw [next]
  exact ⟨(((State.setOperation_unchanged none u).append (State.beginOp_unchanged _)).append (State.settle_unchanged _)).mono,
    u.nextOp_keepsTold.trans (State.settle_keepsTold _)⟩

/-- WPC's turn stands between states that differ from the ends in the store's operation and dirty list alone. -/
theorem State.turns_erased {b : Bank} {first : Bool} {u t : State} (busy : u.sto.inFlight.isSome)
    (ht : t = (u.turns true first (State.wipeErased b)).settle) :
    ∃ v w, Unchanged Part.marks u v ∧ State.WipeErased b v w ∧ Unchanged Part.marks w t ∧ u.lnk.KeepsTold v.lnk ∧
      w.lnk.KeepsTold t.lnk ∧ t.Marked .counters := by
  cases first with
  | true =>
    have turn := State.wipeErased_spec b u
    have last : t = (u.wipeErased b).operationOver.beginOp.settle := ht
    refine ⟨u, u.wipeErased b, .refl _ _, turn, ?_, .refl _, ?_, ?_⟩
    · rw [last]
      exact (((State.setOperation_unchanged none _).append (State.beginOp_unchanged _)).append (State.settle_unchanged _)).mono
    · rw [last]
      exact (State.nextOp_keepsTold _).trans (State.settle_keepsTold _)
    · rw [last]
      have listed : (u.wipeErased b).operationOver.Marked .counters := .inl (turn.listed busy)
      exact listed.beginOp.of_sto (State.settle_sto _)
  | false =>
    have turn := State.wipeErased_spec b u.operationOver.beginOp
    have last : t = (u.operationOver.beginOp.wipeErased b).settle := ht
    refine ⟨_, _, ((State.setOperation_unchanged none u).append (State.beginOp_unchanged _)).mono, turn, ?_,
      u.nextOp_keepsTold, ?_, ?_⟩
    · rw [last]
      exact (State.settle_unchanged _).mono
    · rw [last]
      exact State.settle_keepsTold _
    · rw [last]
      exact turn.marked.of_sto (State.settle_sto _)

/-- What the turns leave of an erase that has ended, whether WPC had asked for it or not. -/
theorem State.turns_frame {b : Bank} {due first : Bool} {u t : State} (busy : u.sto.inFlight.isSome)
    (ht : t = (u.turns due first (State.wipeErased b)).settle) :
    Unchanged [.outbound, .pendingSet, .period, .ranges, .envelopes, .wipe, .operation, .dirty] u t ∧
      u.lnk.KeepsStoreTold t.lnk ∧ t.wpc.failed = u.wpc.failed := by
  cases due with
  | true =>
    obtain ⟨v, w, before, turn, after, toldBefore, toldAfter, -⟩ := State.turns_erased busy ht
    obtain ⟨-, -, -, -, -, vFailed, -, -⟩ := before .wipe (by decide)
    obtain ⟨-, -, -, -, -, tFailed, -, -⟩ := after .wipe (by decide)
    exact ⟨((before.append turn.frame).append after).mono, (toldBefore.store.trans turn.told).trans toldAfter.store,
      (tFailed.trans turn.failed).trans vFailed⟩
  | false =>
    obtain ⟨frame, told⟩ := State.turns_none (u := u) (first := first) (turn := State.wipeErased b)
    rw [← ht] at frame told
    obtain ⟨-, -, -, -, -, failed, -, -⟩ := frame .wipe (by decide)
    exact ⟨frame.mono, told.store, failed⟩

/-- The wipe's own erase changes the bank's image, moves the progress on, marks COUNTERS and is told (R122, R123, R126). -/
theorem State.Erased.wipe_moves {b : Bank} {good first : Bool} {s u t : State} (erased : State.Erased b good s u)
    (due : s.wpc.step = .erasing b) (busy : u.sto.inFlight.isSome)
    (ht : t = (u.turns true first (State.wipeErased b)).settle) :
    t.wpc.step = .erasing b ∧ t.wpc.last = some (.erased b) ∧ t.wpc.next = b.after ∧ t.wpc.phase = b.phaseAfter ∧
      t.Marked .counters ∧
      (s.pwc.power = .active → t.Notified
        (.wipe b.reportAfter (some (.erased b)) b.after s.wpc.resumed t.wpc.failed.length)) ∧
      (b = .k0 → (∀ r, t.rmg.ranges.get r = (s.rmg.ranges.get r).erased) ∧
        ∀ p, t.rmg.envelopes.get p = (s.rmg.envelopes.get p).filter fun e => e.target == .domain) ∧
      (b ≠ .k0 → t.rmg.ranges = s.rmg.ranges ∧
        ∀ p, t.rmg.envelopes.get p = if envelopeBank p = b then none else s.rmg.envelopes.get p) := by
  obtain ⟨v, w, before, turn, after, -, toldAfter, marked⟩ := State.turns_erased busy ht
  obtain ⟨vStep, -, -, -, vResumed, -, -, -⟩ := before .wipe (by decide)
  obtain ⟨tStep, tPhase, tNext, -, -, tFailed, tLast, -⟩ := after .wipe (by decide)
  have vRanges : v.rmg.ranges = s.rmg.ranges := (erased.frame.append before) .ranges (by decide)
  have vEnvelopes : v.rmg.envelopes = s.rmg.envelopes := (erased.frame.append before) .envelopes (by decide)
  have tRanges : t.rmg.ranges = w.rmg.ranges := after .ranges (by decide)
  have tEnvelopes : t.rmg.envelopes = w.rmg.envelopes := after .envelopes (by decide)
  have erasing : v.wpc.step = .erasing b := by rw [vStep, erased.step, due]
  refine ⟨by rw [tStep, turn.step, erasing], by rw [tLast, turn.last], by rw [tNext, turn.next], by rw [tPhase, turn.phase],
    marked, fun active => ?_, fun k0 => ⟨fun r => ?_, fun p => ?_⟩, fun other => ⟨?_, fun p => ?_⟩⟩
  · have power : v.pwc.power = s.pwc.power := (erased.frame.append before) .power (by decide)
    rw [tFailed.trans turn.failed, ← erased.resumed, ← vResumed]
    exact (turn.notice erasing (State.linkOpen_of_active (power.trans active))).step toldAfter
  · rw [tRanges, turn.ranges, if_pos k0, vRanges]
  · rw [tEnvelopes, turn.envelopes, if_pos k0, vEnvelopes]
  · rw [tRanges, turn.sameRanges other, vRanges]
  · rw [tEnvelopes, turn.envelopes, if_neg other, vEnvelopes]

/-- Settles O58, the write and the erase each by how it ends; after an erase comes WPC's turn, where it had asked for it. -/
theorem storeOperationsEndByTheirVerify : Obligations.StoreOperationsEndByTheirVerify := by
  refine ⟨fun s c retry forWipe first hp hf => ⟨recordWrite_writes hp hf, fun hr => ?_, fun hr => ?_, fun hw => ?_⟩,
    fun s b retry first hp hf => ⟨fun hr => ?_, fun good ends => ?_⟩⟩
  · subst hr
    exact recordWrite_repeats hp hf
  · subst hr
    exact recordWrite_fails hp hf
  · subst hw
    exact recordWrite_answers hp hf
  · subst hr
    exact ⟨_, execBankErase_repeats hp hf, by rw [State.settle_sto]; rfl, by rw [State.settle_sto]; rfl,
      ((s.setOperation_unchanged _).append (State.settle_unchanged _)).mono⟩
  · have erased := s.eraseEnded_spec b good
    obtain ⟨u, hu⟩ : ∃ u, u = s.eraseEnded b good := ⟨_, rfl⟩
    obtain ⟨t, ht⟩ : ∃ t, t = (u.turns (u.wpc.step == .erasing b) first (State.wipeErased b)).settle := ⟨_, rfl⟩
    have run : exec (.bankErase good first) s = .next t := by
      rw [ht, hu, ← State.eraseDone_eq]
      exact execBankErase_ends hp hf ends
    rw [← hu] at erased
    clear hu
    have busy : u.sto.inFlight.isSome := by rw [erased.operation, hf]; rfl
    obtain ⟨frame, told, failed⟩ := State.turns_frame busy ht
    obtain ⟨keys, envelopes, rest⟩ := Records.eraseBank_spec s.sto.records b good
    have records : t.sto.records = s.sto.records.eraseBank b good := by
      have same : t.sto.records = u.sto.records := frame .records (by decide)
      rw [same, erased.records]
    obtain ⟨faulty, gained⟩ := frame .faulty (by decide)
    refine ⟨t, run, by rw [records]; exact keys, by rw [records]; exact envelopes, by rw [records]; exact rest,
      fun hg => ?_, fun hg => ⟨?_, ?_, fun active => ?_⟩, fun due => ?_, fun other => ?_, (erased.frame.append frame).mono⟩
    · rw [faulty, gained, failed]
      exact erased.goodFaulty hg
    · rw [faulty]
      exact erased.badFaulty hg
    · rw [failed]
      exact erased.badFailed hg
    · rw [faulty]
      exact told.notice _ rfl (erased.notice hg active)
    · have asked : (u.wpc.step == .erasing b) = true := by simp [erased.step, due]
      rw [asked] at ht
      exact erased.wipe_moves due busy ht
    · have idle : (u.wpc.step == .erasing b) = false := by simp [erased.step, other]
      rw [idle] at ht
      have turned := (State.turns_none (u := u) (first := first) (turn := State.wipeErased b)).1
      rw [← ht] at turned
      exact ⟨(erased.frame.append turned) .ranges (by decide), (erased.frame.append turned) .envelopes (by decide)⟩

end Sys2Proof.Machine
end

end

section
/-! PROOFS. The statements about spans and verdicts, elaborated one at a time as those before. -/

set_option Elab.async false

section
/-! PROOFS. Spans: the ranges along the medium, the walk of R31, and the runs that it and R32 make of a span. -/

namespace Sys2Proof.Machine

/-! ## The range at an address and the next one above it (R31) -/

theorem State.rangeAt_within {s : State} {p : Nat} (h : s.rangeAt p ≠ 0) :
    ∃ g, (s.rmg.ranges.get (s.rangeAt p)).geometry = some g ∧ g.start ≤ p ∧ p < g.after := by
  unfold State.rangeAt at h ⊢
  cases found : (List.finRange 16).find? fun r =>
    r != 0 && (s.rmg.ranges.get r).geometry.any fun g => g.start ≤ p && p < g.after with
  | none => rw [found] at h; exact absurd rfl h
  | some r =>
    have within := List.find?_some found
    simp only [Bool.and_eq_true, Option.any_eq_true, decide_eq_true_eq] at within
    exact within.2

theorem State.rangeAt_ne_zero {s : State} {p : Nat} {r : RangeIx} {g : Geometry} (hr : r ≠ 0)
    (hg : (s.rmg.ranges.get r).geometry = some g) (hs : g.start ≤ p) (ha : p < g.after) : s.rangeAt p ≠ 0 := by
  unfold State.rangeAt
  cases found : (List.finRange 16).find? fun r =>
    r != 0 && (s.rmg.ranges.get r).geometry.any fun g => g.start ≤ p && p < g.after with
  | none =>
    have := List.find?_eq_none.mp found r (List.mem_finRange r)
    simp [hr, hg, hs, ha] at this
  | some q =>
    have nonzero := List.find?_some found
    simp only [Bool.and_eq_true, bne_iff_ne] at nonzero
    exact nonzero.1

/-- The nearer of two addresses above `p`, as the search of R31 keeps it. -/
def nearer (p : Nat) (best : Option Nat) (q : Nat) : Option Nat :=
  if p < q then some (best.elim q fun b => min b q) else best

/-- The search keeps an address above `p`, none farther than any it has met. -/
theorem foldl_nearer (p : Nat) (l : List Nat) (best : Option Nat) :
    (∀ b, l.foldl (nearer p) best = some b → best = some b ∨ (b ∈ l ∧ p < b)) ∧
      ∀ q, best = some q ∨ (q ∈ l ∧ p < q) → ∃ b, l.foldl (nearer p) best = some b ∧ b ≤ q := by
  induction l generalizing best with
  | nil => exact ⟨fun b => .inl, fun q hq => ⟨q, (hq.resolve_right fun h => nomatch h.1 :), Nat.le_refl q⟩⟩
  | cons a l ih =>
    obtain ⟨from_, least⟩ := ih (nearer p best a)
    refine ⟨fun b hb => ?_, fun q hq => ?_⟩
    · rcases from_ b hb with kept | ⟨hm, above⟩
      · unfold nearer at kept
        split at kept
        · next above =>
          cases best with
          | none => cases kept; exact .inr ⟨List.mem_cons_self, above⟩
          | some c =>
            obtain rfl : min c a = b := Option.some.inj kept
            rcases Nat.le_total c a with le | le
            · exact .inl (by rw [Nat.min_eq_left le])
            · exact .inr (by rw [Nat.min_eq_right le]; exact ⟨List.mem_cons_self, above⟩)
        · exact .inl kept
      · exact .inr ⟨List.mem_cons_of_mem _ hm, above⟩
    · have met : (∃ b, nearer p best a = some b ∧ b ≤ q) ∨ (q ∈ l ∧ p < q) := by
        rcases hq with rfl | ⟨hm, above⟩
        · refine .inl ?_
          unfold nearer
          split
          · exact ⟨_, rfl, Nat.min_le_left _ _⟩
          · exact ⟨q, rfl, Nat.le_refl q⟩
        · rcases List.mem_cons.mp hm with rfl | hm
          · refine .inl ⟨_, if_pos above, ?_⟩
            cases best with
            | none => exact Nat.le_refl q
            | some c => exact Nat.min_le_right c q
          · exact .inr ⟨hm, above⟩
      rcases met with ⟨b, hb, le⟩ | there
      · obtain ⟨c, hc, le'⟩ := least b (.inl hb)
        exact ⟨c, hc, le'.trans le⟩
      · exact least q (.inr there)

/-- The starts of the ranges that have a geometry of their own. -/
def State.starts (s : State) : List Nat :=
  (List.finRange 16).filterMap fun r => if r = 0 then none else (s.rmg.ranges.get r).geometry.map Geometry.start

theorem State.mem_starts {s : State} {q : Nat} :
    q ∈ s.starts ↔ ∃ r g, r ≠ 0 ∧ (s.rmg.ranges.get r).geometry = some g ∧ g.start = q := by
  simp only [State.starts, List.mem_filterMap, List.mem_finRange, true_and, Option.ite_none_left_eq_some,
    Option.map_eq_some_iff]
  exact ⟨fun ⟨r, hr, g, hg, hq⟩ => ⟨r, g, hr, hg, hq⟩, fun ⟨r, g, hr, hg, hq⟩ => ⟨r, hr, g, hg, hq⟩⟩

theorem State.nextStart_eq (s : State) (p : Nat) : s.nextStart p = s.starts.foldl (nearer p) none := by
  unfold State.nextStart State.starts
  congr 1
  funext best q
  cases best <;> rfl

theorem State.nextStart_some {s : State} {p b : Nat} (h : s.nextStart p = some b) :
    p < b ∧ ∃ r g, r ≠ 0 ∧ (s.rmg.ranges.get r).geometry = some g ∧ g.start = b := by
  rw [State.nextStart_eq] at h
  obtain ⟨hm, above⟩ := ((foldl_nearer p s.starts none).1 b h).resolve_left nofun
  exact ⟨above, State.mem_starts.mp hm⟩

theorem State.nextStart_le {s : State} {p : Nat} {r : RangeIx} {g : Geometry} (hr : r ≠ 0)
    (hg : (s.rmg.ranges.get r).geometry = some g) (hp : p < g.start) : ∃ b, s.nextStart p = some b ∧ b ≤ g.start := by
  rw [State.nextStart_eq]
  exact (foldl_nearer p s.starts none).2 g.start (.inr ⟨State.mem_starts.mpr ⟨r, g, hr, hg, rfl⟩, hp⟩)

theorem State.nonzero_of_geometry {s : State} (h : s.RangesSound) {r : RangeIx} {g : Geometry}
    (hg : (s.rmg.ranges.get r).geometry = some g) : r ≠ 0 := by
  rintro rfl
  rw [h.1] at hg
  cases hg

/-! ## How many runs are left (R31) -/

/-- The ranges that end above an address. -/
def State.endingAbove (s : State) (p : Nat) : Finset RangeIx :=
  Finset.univ.filter fun r => (s.rmg.ranges.get r).geometry.any fun g => decide (p < g.after)

theorem State.mem_endingAbove {s : State} {p : Nat} {r : RangeIx} :
    r ∈ s.endingAbove p ↔ ∃ g, (s.rmg.ranges.get r).geometry = some g ∧ p < g.after := by
  simp [State.endingAbove, Option.any_eq_true]

theorem State.endingAbove_subset (s : State) {p q : Nat} (h : p ≤ q) : s.endingAbove q ⊆ s.endingAbove p := by
  intro r hr
  obtain ⟨g, hg, above⟩ := State.mem_endingAbove.mp hr
  exact State.mem_endingAbove.mpr ⟨g, hg, Nat.lt_of_le_of_lt h above⟩

/-- A bound on the runs from an address up: one for each range that ends above it, one before each of these or behind it. -/
def State.runsLeft (s : State) (p : Nat) : Nat :=
  2 * (s.endingAbove p).card + if s.rangeAt p = 0 then 1 else 0

theorem State.runsLeft_pos (s : State) (p : Nat) : 1 ≤ s.runsLeft p := by
  unfold State.runsLeft
  split
  · omega
  · next inside =>
    obtain ⟨g, hg, -, above⟩ := State.rangeAt_within inside
    have := Finset.card_pos.mpr ⟨_, State.mem_endingAbove.mpr ⟨g, hg, above⟩⟩
    omega

/-- Index 0 has no geometry of its own: the fuel of the walk suffices. -/
theorem State.runsLeft_le {s : State} (h : s.RangesSound) (p : Nat) : s.runsLeft p ≤ 32 := by
  have sub : s.endingAbove p ⊆ Finset.univ.erase 0 := fun r hr => by
    obtain ⟨g, hg, -⟩ := State.mem_endingAbove.mp hr
    exact Finset.mem_erase.mpr ⟨State.nonzero_of_geometry h hg, Finset.mem_univ r⟩
  have card : (s.endingAbove p).card ≤ 15 := Finset.card_le_card sub
  unfold State.runsLeft
  split <;> omega

/-! ## One run of the walk (R31) -/

/-- A run from `p` to `e` lies below C, inside the range at `p` or, in the global range, short of every other. -/
structure State.RunTo (s : State) (p e : Nat) : Prop where
  le : p ≤ e
  below : e < s.sto.identity.capacity
  inside : s.rangeAt p ≠ 0 → ∃ g, (s.rmg.ranges.get (s.rangeAt p)).geometry = some g ∧ g.start ≤ p ∧ e < g.after
  between : s.rangeAt p = 0 → ∀ q g, (s.rmg.ranges.get q).geometry = some g → g.after ≤ p ∨ e < g.start

theorem State.RunTo.shorten {s : State} {p e e' : Nat} (h : s.RunTo p e) (hp : p ≤ e') (he : e' ≤ e) : s.RunTo p e' where
  le := hp
  below := Nat.lt_of_le_of_lt he h.below
  inside hr := by
    obtain ⟨g, hg, start, above⟩ := h.inside hr
    exact ⟨g, hg, start, Nat.lt_of_le_of_lt he above⟩
  between hr q g hg := (h.between hr q g hg).imp_right (Nat.lt_of_le_of_lt he)

/-- The end of the range at `p`. -/
theorem State.endOf_inside {s : State} {p : Nat} {g : Geometry} (hr : s.rangeAt p ≠ 0)
    (hg : (s.rmg.ranges.get (s.rangeAt p)).geometry = some g) : s.endOf (s.rangeAt p) p = g.after - 1 := by
  simp [State.endOf, hr, hg]

theorem State.endOf_between {s : State} {p : Nat} (hr : s.rangeAt p = 0) :
    s.endOf (s.rangeAt p) p = (s.nextStart p).getD s.sto.identity.capacity - 1 := by
  rw [State.endOf, if_pos hr]
  cases s.nextStart p <;> rfl

theorem State.endOf_run {s : State} (h : s.RangesSound) {p : Nat} (hp : p < s.sto.identity.capacity) :
    s.RunTo p (s.endOf (s.rangeAt p) p) := by
  obtain ⟨-, bounds, -⟩ := id h
  by_cases hr : s.rangeAt p = 0
  · rw [State.endOf_between hr]
    have outside {q : RangeIx} {g : Geometry} (hg : (s.rmg.ranges.get q).geometry = some g) (hs : g.start ≤ p) :
        g.after ≤ p := by
      by_contra above
      exact State.rangeAt_ne_zero (State.nonzero_of_geometry h hg) hg hs (by omega) hr
    cases hn : s.nextStart p with
    | none =>
      rw [Option.getD_none]
      refine ⟨by omega, by omega, fun k => absurd hr k, fun _ q g hg => ?_⟩
      refine .inl (outside hg ?_)
      by_contra above
      obtain ⟨b, hb, -⟩ := State.nextStart_le (State.nonzero_of_geometry h hg) hg (Nat.not_le.mp above)
      rw [hn] at hb
      cases hb
    | some b =>
      obtain ⟨above, r, g, -, hg, rfl⟩ := State.nextStart_some hn
      have := bounds r g hg
      rw [Option.getD_some]
      refine ⟨by omega, by omega, fun k => absurd hr k, fun _ q k hk => ?_⟩
      by_cases start : k.start ≤ p
      · exact .inl (outside hk start)
      · obtain ⟨c, hc, le⟩ := State.nextStart_le (State.nonzero_of_geometry h hk) hk (Nat.not_le.mp start)
        rw [hn] at hc
        cases hc
        exact .inr (by omega)
  · obtain ⟨g, hg, start, above⟩ := State.rangeAt_within hr
    rw [State.endOf_inside hr hg]
    have end_ : g.after ≤ s.sto.identity.capacity := (bounds _ g hg).2
    exact ⟨by omega, by omega, fun _ => ⟨g, hg, start, by omega⟩, fun k => absurd k hr⟩

/-- The run that ends with its range is followed by another range's, with fewer runs to come. -/
theorem State.after_run {s : State} (h : s.RangesSound) {p : Nat}
    (he : s.endOf (s.rangeAt p) p + 1 < s.sto.identity.capacity) :
    s.rangeAt (s.endOf (s.rangeAt p) p + 1) ≠ s.rangeAt p ∧ s.runsLeft (s.endOf (s.rangeAt p) p + 1) < s.runsLeft p := by
  by_cases hr : s.rangeAt p = 0
  · rw [State.endOf_between hr] at he ⊢
    cases hn : s.nextStart p with
    | none => rw [hn] at he; simp only [Option.getD_none] at he; omega
    | some b =>
      obtain ⟨above, r, g, nonzero, hg, rfl⟩ := State.nextStart_some hn
      have len := (h.2.1 r g hg).1
      have sub := Finset.card_le_card (s.endingAbove_subset above.le)
      rw [Option.getD_some, Nat.sub_add_cancel (by omega)]
      have next := State.rangeAt_ne_zero nonzero hg (Nat.le_refl _) (by rw [Geometry.after]; omega)
      refine ⟨by rwa [hr], ?_⟩
      rw [State.runsLeft, State.runsLeft, if_neg next, if_pos hr]
      omega
  · obtain ⟨g, hg, start, above⟩ := State.rangeAt_within hr
    rw [State.endOf_inside hr hg, Nat.sub_add_cancel (by omega)]
    refine ⟨fun same => ?_, ?_⟩
    · obtain ⟨k, hk, -, beyond⟩ := State.rangeAt_within (s := s) (p := g.after) (by rwa [same])
      rw [same, hg] at hk
      cases hk
      exact Nat.lt_irrefl _ beyond
    · have smaller : (s.endingAbove g.after).card < (s.endingAbove p).card := by
        refine Finset.card_lt_card (Finset.ssubset_iff_of_subset (s.endingAbove_subset above.le) |>.mpr ⟨s.rangeAt p, ?_, ?_⟩)
        · exact State.mem_endingAbove.mpr ⟨g, hg, above⟩
        · rintro there
          obtain ⟨k, hk, beyond⟩ := State.mem_endingAbove.mp there
          rw [hg] at hk
          cases hk
          exact Nat.lt_irrefl _ beyond
      rw [State.runsLeft, State.runsLeft, if_neg hr]
      split <;> omega

/-! ## Runs side by side -/

/-- The blocks of a list of runs. -/
def blocks (ps : List Piece) : Nat := (ps.map Piece.count).sum

@[simp] theorem blocks_nil : blocks [] = 0 := rfl
@[simp] theorem blocks_cons (p : Piece) (ps : List Piece) : blocks (p :: ps) = p.count + blocks ps := by simp [blocks]

/-- Each run begins where the one before it ends, the first at `a`. -/
def Contiguous : Nat → List Piece → Prop
  | _, [] => True
  | a, p :: ps => p.first = a ∧ Contiguous (a + p.count) ps

theorem Contiguous.first {a : Nat} {ps : List Piece} (h : Contiguous a ps) {i : Nat} {p : Piece} (hp : ps[i]? = some p) :
    p.first = a + blocks (ps.take i) := by
  induction ps generalizing a i with
  | nil => cases hp
  | cons q ps ih =>
    obtain ⟨first, rest⟩ := h
    cases i with
    | zero => cases hp; simpa using first
    | succ i =>
      rw [ih rest hp, List.take_succ_cons, blocks_cons]
      omega

theorem Contiguous.snoc {a : Nat} {ps : List Piece} (h : Contiguous a ps) {p : Piece} (hp : p.first = a + blocks ps) :
    Contiguous a (ps ++ [p]) := by
  induction ps generalizing a with
  | nil => exact ⟨hp, trivial⟩
  | cons q ps ih =>
    obtain ⟨first, rest⟩ := h
    exact ⟨first, ih rest (by rw [hp, blocks_cons]; omega)⟩

/-- A run keeps to one range or lies beyond the medium (R31, R32). -/
def State.Holds (s : State) (p : Piece) : Prop :=
  1 ≤ p.count ∧ (p.range = none ↔ s.sto.identity.capacity ≤ p.first) ∧
    ∀ r, p.range = some r → p.first + p.count ≤ s.sto.identity.capacity ∧
      (r ≠ 0 → ∃ g, (s.rmg.ranges.get r).geometry = some g ∧ g.start ≤ p.first ∧ p.first + p.count ≤ g.start + g.length) ∧
      (r = 0 → ∀ q g, (s.rmg.ranges.get q).geometry = some g →
        g.start + g.length ≤ p.first ∨ p.first + p.count ≤ g.start)

/-- A run of the walk keeps to its range. -/
theorem State.RunTo.holds {s : State} {p e : Nat} (h : s.RunTo p e) :
    s.Holds { first := p, count := e + 1 - p, range := some (s.rangeAt p) } := by
  have le := h.le
  have below := h.below
  have end_ : p + (e + 1 - p) = e + 1 := by omega
  refine ⟨show 1 ≤ e + 1 - p by omega, ⟨nofun, fun c => absurd (show s.sto.identity.capacity ≤ p from c) (by omega)⟩, ?_⟩
  rintro r ⟨⟩
  simp only [end_]
  refine ⟨below, fun hr => ?_, fun hr q g hg => h.between hr q g hg⟩
  obtain ⟨g, hg, start, above⟩ := h.inside hr
  exact ⟨g, hg, start, above⟩

/-- The runs cover what lies from `p` up to `stop`, and none joins the next. -/
structure State.Covers (s : State) (p stop : Nat) (ps : List Piece) : Prop where
  contiguous : Contiguous p ps
  blocks : p + blocks ps = stop
  holds : ∀ q ∈ ps, s.Holds q
  apart : ps.IsChain fun q r => q.range ≠ r.range

/-- The walk with fuel for the runs left covers a span below C, from the range at its first block (R31). -/
theorem State.walk_covers {s : State} (h : s.RangesSound) {last fuel p : Nat} (hc : last < s.sto.identity.capacity)
    (hp : p ≤ last + 1) (hf : p ≤ last → s.runsLeft p ≤ fuel) : s.Covers p (last + 1) (s.walk last fuel p) ∧
      (∀ q ∈ s.walk last fuel p, q.range ≠ none) ∧
      ∀ q ∈ (s.walk last fuel p).head?, p ≤ last ∧ q.range = some (s.rangeAt p) := by
  induction fuel generalizing p with
  | zero =>
    have := s.runsLeft_pos p
    have stop : p = last + 1 := by by_contra; have := hf (by omega); omega
    exact ⟨⟨trivial, stop, nofun, .nil⟩, nofun, nofun⟩
  | succ n ih =>
    unfold State.walk
    split
    · next stop => exact ⟨⟨trivial, by simp only [blocks_nil]; omega, nofun, .nil⟩, nofun, nofun⟩
    · next more =>
      have inC : p < s.sto.identity.capacity := by omega
      have full := State.endOf_run h inC
      have run := full.shorten (e' := min (s.endOf (s.rangeAt p) p) last) (by have := full.le; omega) (Nat.min_le_left _ _)
      have after_ := State.after_run h (p := p)
      simp only
      generalize he : min (s.endOf (s.rangeAt p) p) last = e at run ⊢
      have le := run.le
      have whole : e + 1 ≤ last → e = s.endOf (s.rangeAt p) p := by omega
      obtain ⟨rest, inside, head⟩ := ih (p := e + 1) (by omega) fun k => by
        obtain rfl := whole k
        have := (after_ (by omega)).2
        have := hf (by omega)
        omega
      refine ⟨⟨⟨rfl, ?_⟩, ?_, ?_, ?_⟩, ?_, ?_⟩
      · have : p + (e + 1 - p) = e + 1 := by omega
        simpa only [this] using rest.contiguous
      · have := rest.blocks
        rw [blocks_cons]
        simp only
        omega
      · exact List.forall_mem_cons.mpr ⟨run.holds, rest.holds⟩
      · refine List.isChain_cons.mpr ⟨fun q hq => ?_, rest.apart⟩
        obtain ⟨more, range⟩ := head q hq
        obtain rfl := whole more
        rw [range]
        exact fun same => (after_ (by omega)).1 (Option.some.inj same).symm
      · exact List.forall_mem_cons.mpr ⟨nofun, inside⟩
      · intro q hq
        simp only [List.head?_cons, Option.mem_def, Option.some.injEq] at hq
        rw [← hq]
        exact ⟨by omega, rfl⟩

/-! ## The span (R30 to R32) -/

/-- A run may follow a list that does not join it. -/
theorem State.Covers.snoc {s : State} {p stop : Nat} {ps : List Piece} {q : Piece} (h : s.Covers p stop ps)
    (hq : q.first = stop) (hs : s.Holds q) (ha : ∀ r ∈ ps, r.range ≠ q.range) : s.Covers p (stop + q.count) (ps ++ [q]) where
  contiguous := h.contiguous.snoc (by rw [hq, h.blocks])
  blocks := by
    have := h.blocks
    simp only [Machine.blocks, List.map_append, List.sum_append] at this ⊢
    simp only [List.map_cons, List.map_nil, List.sum_cons, List.sum_nil]
    omega
  holds := List.forall_mem_append.mpr ⟨h.holds, by simpa using hs⟩
  apart := List.isChain_append.mpr ⟨h.apart, .singleton _, fun r hr k hk => by
    cases hk
    exact ha r (List.mem_of_mem_getLast? hr)⟩

/-- The segments of the span's part below C. -/
def State.resolvable (s : State) (start last : Nat) : List Piece :=
  if start < s.sto.identity.capacity then s.walk (min last (s.sto.identity.capacity - 1)) 32 start else []

theorem State.pieces_below {s : State} {start n : Nat} (h : start + n - 1 < s.sto.identity.capacity) :
    s.pieces start n = s.resolvable start (start + n - 1) := by
  simp [State.pieces, State.resolvable, Nat.not_le.mpr h]

/-- The run beyond the medium of a span that ends at `last` (R32). -/
def beyondRun (start capacity last : Nat) : Piece :=
  { first := max start capacity, count := last + 1 - max start capacity, range := none }

theorem State.pieces_beyond {s : State} {start n : Nat} (h : s.sto.identity.capacity ≤ start + n - 1) :
    s.pieces start n = s.resolvable start (start + n - 1) ++ [beyondRun start s.sto.identity.capacity (start + n - 1)] := by
  simp [State.pieces, State.resolvable, h, beyondRun]

theorem State.resolvable_none {s : State} {start last : Nat} (h : s.sto.identity.capacity ≤ start) :
    s.resolvable start last = [] := if_neg (Nat.not_lt.mpr h)

/-- What lies below C does not depend on how far the span reaches beyond. -/
theorem State.resolvable_cut {s : State} {start last : Nat} (h : s.sto.identity.capacity ≤ last) :
    s.resolvable start last = s.resolvable start (s.sto.identity.capacity - 1) := by
  unfold State.resolvable
  rw [Nat.min_self, Nat.min_eq_right (by omega)]

theorem State.resolvable_covers {s : State} (h : s.RangesSound) {start last : Nat} (hl : start ≤ last)
    (hs : start < s.sto.identity.capacity) :
    s.Covers start (min last (s.sto.identity.capacity - 1) + 1) (s.resolvable start last) := by
  unfold State.resolvable
  rw [if_pos hs]
  exact (State.walk_covers h (by omega) (by omega) fun _ => State.runsLeft_le h start).1

theorem State.resolvable_inside {s : State} (h : s.RangesSound) {start last : Nat} (hl : start ≤ last) :
    ∀ q ∈ s.resolvable start last, q.range ≠ none := by
  unfold State.resolvable
  split
  · exact (State.walk_covers h (by omega) (by omega) fun _ => State.runsLeft_le h start).2.1
  · exact nofun

theorem State.beyond_holds {s : State} {start last : Nat} (hl : start ≤ last) (hc : s.sto.identity.capacity ≤ last) :
    s.Holds (beyondRun start s.sto.identity.capacity last) :=
  ⟨show 1 ≤ last + 1 - max start s.sto.identity.capacity by omega,
    ⟨fun _ => Nat.le_max_right _ _, fun _ => rfl⟩, nofun⟩

/-- The runs of stages 1 to 3 cover the span. -/
theorem State.pieces_cover {s : State} (h : s.RangesSound) {start n : Nat} (hn : 1 ≤ n) :
    s.Covers start (start + n) (s.pieces start n) := by
  have hl : start ≤ start + n - 1 := by omega
  by_cases below : start + n - 1 < s.sto.identity.capacity
  · rw [State.pieces_below below]
    have covers := State.resolvable_covers h hl (by omega)
    rwa [Nat.min_eq_left (by omega), Nat.sub_add_cancel (by omega)] at covers
  · rw [State.pieces_beyond (by omega)]
    have holds := State.beyond_holds (s := s) hl (by omega)
    have apart : ∀ q ∈ s.resolvable start (start + n - 1),
        q.range ≠ (beyondRun start s.sto.identity.capacity (start + n - 1)).range := State.resolvable_inside h hl
    have stop : max start s.sto.identity.capacity +
        (beyondRun start s.sto.identity.capacity (start + n - 1)).count = start + n := by
      show max start _ + (start + n - 1 + 1 - max start _) = _
      omega
    have below : s.Covers start (max start s.sto.identity.capacity) (s.resolvable start (start + n - 1)) := by
      by_cases inside : start < s.sto.identity.capacity
      · have covers := State.resolvable_covers h hl inside
        rwa [Nat.min_eq_right (by omega), Nat.sub_add_cancel (by omega), ← Nat.max_eq_right inside.le] at covers
      · rw [State.resolvable_none (by omega), Nat.max_eq_left (by omega)]
        exact ⟨trivial, rfl, nofun, .nil⟩
    have all := below.snoc rfl holds apart
    rwa [stop] at all

theorem le_blocks {p : Piece} {ps : List Piece} (h : p ∈ ps) : p.count ≤ blocks ps :=
  List.single_le_sum (fun _ _ => Nat.zero_le _) _ (List.mem_map_of_mem h)

theorem dispose_beyond (kind : Access) (full : Bool) (v : Resolving) {p : Piece} (h : p.range = none) :
    dispose kind full v p = v.add p .beyond := by
  simp [dispose, h]

/-- Settles O47: the walk covers the part below C, and the run beyond follows it. -/
theorem spanRunsCoverTheSpan : Obligations.SpanRunsCoverTheSpan := by
  intro s start n capacity last h hn hcap hlast
  subst hcap hlast
  have hl : start ≤ start + n - 1 := by omega
  have covers := State.pieces_cover h hn (start := start)
  have total : blocks (s.pieces start n) = n := by have := covers.blocks; omega
  refine ⟨fun ends => ⟨s.resolvable start (start + n - 1), ?_, State.resolvable_inside h hl, State.resolvable_none,
      fun inside => ?_⟩,
    fun below => ?_, fun fits p hp => ⟨(covers.holds p hp).1, ?_⟩, fun kind full v p hp => ?_, total, fun i p hp => ?_,
    fun i p q hp hq => ?_⟩
  · have count : start + n - 1 + 1 - max start s.sto.identity.capacity =
        start + n - 1 - max start s.sto.identity.capacity + 1 := by omega
    rw [State.pieces_beyond ends, beyondRun, count]
  · have cut : start + (s.sto.identity.capacity - start) - 1 = s.sto.identity.capacity - 1 := by omega
    rw [State.pieces_below (by omega), cut, State.resolvable_cut ends]
  · rw [State.pieces_below below]
    exact State.resolvable_inside h hl
  · exact (le_blocks hp).trans (by omega)
  · rw [dispose_beyond kind full v hp, Resolving.add, hp]
  · obtain ⟨count, range, inside⟩ := covers.holds p (List.mem_of_getElem? hp)
    exact ⟨covers.contiguous.first hp, count, range, inside⟩
  · obtain ⟨_, rfl⟩ := List.getElem?_eq_some_iff.mp hp
    obtain ⟨long, rfl⟩ := List.getElem?_eq_some_iff.mp hq
    exact covers.apart.getElem i long

end Sys2Proof.Machine
end

section
/-! PROOFS. What the end of a verdict leaves: its deadline, its pins, and the slot of a LOCKING range (R42 to R45, R54). -/

namespace Sys2Proof.Machine

/-! ## Deadlines (R149, R150) -/

/-- The due value of a purpose does not depend on the absence check's entry. -/
theorem State.deadline_eq_other {p : Purpose} (h : p ≠ .absence) (s : State) :
    s.deadline p = (s.tmb.otherDeadlines.find? fun d => d.purpose == p).map Deadline.due := by
  rw [State.deadline, Tmb.otherDeadlines, List.find?_filter]
  congr 2
  funext d
  by_cases hd : d.purpose = p
  · simp [hd, h]
  · simp [hd]

theorem State.taken_iff {p : Purpose} {t : State} : t.Taken p ↔ ∀ d ∈ t.tmb.fallen, d.purpose ≠ p := by
  simp [State.Taken]

theorem State.deadline_eq_none {p : Purpose} {t : State} : t.deadline p = none ↔ ∀ d ∈ t.tmb.deadlines, d.purpose ≠ p := by
  simp [State.deadline]

/-- No deadline of a purpose is in the list or waits to be taken. -/
def State.Ended (p : Purpose) (t : State) : Prop := t.deadline p = none ∧ t.Taken p

/-- What has been taken stays so while the other deadlines stand. -/
theorem State.Taken.of_othersStand {p : Purpose} {mine : Purpose → Bool} {s t : State} (h : s.Taken p)
    (k : s.OthersStand mine t) (hp : mine p = false) (ha : p ≠ .absence) : t.Taken p :=
  State.taken_iff.mpr fun d hd e => by
    subst e
    exact State.taken_iff.mp h d ((k d hp ha).2.mp hd) rfl

/-- So does what has ended. -/
theorem State.Ended.of_othersStand {p : Purpose} {mine : Purpose → Bool} {s t : State} (h : s.Ended p)
    (k : s.OthersStand mine t) (hp : mine p = false) (ha : p ≠ .absence) : t.Ended p := by
  refine ⟨State.deadline_eq_none.mpr fun d hd e => ?_, h.2.of_othersStand k hp ha⟩
  subst e
  exact State.deadline_eq_none.mp h.1 d ((k d hp ha).1.mp hd) rfl

theorem State.OthersStand.mono {mine more : Purpose → Bool} {s t : State} (h : s.OthersStand mine t)
    (hm : ∀ p, mine p = true → more p = true) : s.OthersStand more t := fun d hd =>
  h d (by cases hmine : mine d.purpose with
    | false => rfl
    | true => rw [hm _ hmine] at hd; cases hd)

theorem State.OthersStand.refl (mine : Purpose → Bool) (s : State) : s.OthersStand mine s :=
  fun _ _ _ => ⟨Iff.rfl, Iff.rfl⟩

theorem State.cancel_ended (p : Purpose) (s : State) : (s.cancel p).Ended p := by
  refine ⟨State.deadline_eq_none.mpr fun d hd => ?_, State.taken_iff.mpr fun d hd => ?_⟩
  all_goals simpa using (List.mem_filter.mp hd).2

theorem State.cancel_othersStand (p : Purpose) (s : State) : s.OthersStand (· == p) (s.cancel p) := by
  intro d hd _
  simp_all [State.cancel, State.cancelAll, State.withdrawAll]

/-- The occurrence of a deadline fallen due is taken by its owner (R150). -/
def State.claimed (p : Purpose) (s : State) : State :=
  s.onTmb fun t => { t with fallen := t.fallen.filter fun d => !(d.purpose == p) }

theorem State.claimed_taken (p : Purpose) (s : State) : (s.claimed p).Taken p :=
  State.taken_iff.mpr fun d hd => by simpa using (List.mem_filter.mp hd).2

theorem State.claimed_othersStand (p : Purpose) (s : State) : s.OthersStand (· == p) (s.claimed p) := by
  intro d hd _
  simp_all [State.claimed]

theorem State.claimed_unchanged (p : Purpose) (s : State) : Unchanged [.fallen] s (s.claimed p) := by
  intro q hq; cases q <;> simp_all [Part.same, State.claimed, Tmb.otherDeadlines]

theorem State.takeFallen_eq {p : Purpose} {s : State} (h : s.HasFallen p) : ∃ due, s.takeFallen p = some (s.claimed p, due) := by
  obtain ⟨d, hd⟩ := Option.isSome_iff_exists.mp (List.find?_isSome (p := fun d : Deadline => d.purpose == p).mpr (by
    simpa [State.HasFallen] using h))
  exact ⟨d.due, by rw [State.takeFallen, hd]; rfl⟩

/-! ## A verdict leaves the table -/

/-- The verdict is out of the table, its deadline withdrawn and its pins dropped, the slots unpinned not yet looked at. -/
def State.unlist (v : Verdict) (s : State) : State :=
  ((s.onSrv fun t => { t with verdicts := t.verdicts.filter fun w => !(w.id == v.id) }).cancel (.verdict v.id)).onKln
    fun k => { k with slots := k.slots.imap fun i l =>
      if (passedSlots v.segments).contains i then { l with pins := l.pins - 1 } else l }

theorem State.dropVerdict_eq (v : Verdict) (s : State) :
    s.dropVerdict v = (passedSlots v.segments).foldl (fun s i => s.unpinned i) (s.unlist v) := rfl

theorem State.unlist_slot (v : Verdict) (s : State) (i : SlotIx) : (s.unlist v).kln.slots.get i =
    { s.kln.slots.get i with
      pins := (s.kln.slots.get i).pins - if (passedSlots v.segments).contains i then 1 else 0 } := by
  rw [State.unlist, State.onKln_kln, Table.get_imap]
  split
  · rfl
  · rfl

theorem State.unlist_unchanged (v : Verdict) (s : State) : Unchanged [.verdicts, .slots, .deadlines, .fallen] s (s.unlist v) := by
  have srv (f : Srv → Srv) : Unchanged [.verdicts] s (s.onSrv f) := by
    intro p hp; cases p <;> simp_all [Part.same]
  have slots (f : Table Slot 8 → Table Slot 8) (t : State) :
      Unchanged [.slots] t (t.onKln fun k => { k with slots := f k.slots }) := by
    intro p hp; cases p <;> simp_all [Part.same]
  refine Unchanged.mono (d := [.verdicts] ++ [.deadlines, .fallen] ++ [.slots]) ?_
  exact ((srv _).append (State.cancel_unchanged _ _)).append (slots (Table.imap · _) _)

theorem State.unpins_unchanged (l : List SlotIx) (s : State) : Unchanged Part.clears s (l.foldl (fun s i => s.unpinned i) s) :=
  Unchanged.foldl (fun s i => State.unpinned i s) (fun s i => s.unpinned_unchanged i) l s

theorem State.dropVerdict_srv (v : Verdict) (s : State) : (s.dropVerdict v).srv =
    { s.srv with verdicts := s.srv.verdicts.filter fun w => !(w.id == v.id) } :=
  State.unpins_unchanged _ (s.unlist v) .verdicts (by decide)

theorem State.dropVerdict_ended (v : Verdict) (s : State) : (s.dropVerdict v).Ended (.verdict v.id) := by
  have unlisted : (s.unlist v).Ended (.verdict v.id) := State.cancel_ended _ _
  exact unlisted.of_othersStand ((State.unpins_unchanged _ _).othersStand (mine := fun _ => false)) rfl nofun

theorem State.dropVerdict_othersStand (v : Verdict) (s : State) : s.OthersStand (· == .verdict v.id) (s.dropVerdict v) := by
  have unlisted : s.OthersStand (· == .verdict v.id) (s.unlist v) :=
    State.cancel_othersStand _ (s.onSrv fun t => { t with verdicts := t.verdicts.filter fun w => !(w.id == v.id) })
  exact unlisted.trans (State.unpins_unchanged _ _).othersStand

/-! ## The outbound queue stands -/

theorem openPlainStep_lnk (from_ : LockState → Bool) (acc : State × List RangeIx) (r : RangeIx) :
    (openPlainStep from_ acc r).1.lnk = acc.1.lnk := by
  unfold openPlainStep
  split
  · split
    · rfl
    · dsimp only [State.addFaulty]
      split <;> rfl
  · rfl

theorem openPlainSteps_lnk (from_ : LockState → Bool) (rs : List RangeIx) (acc : State × List RangeIx) :
    (rs.foldl (openPlainStep from_) acc).1.lnk = acc.1.lnk := by
  induction rs generalizing acc with
  | nil => rfl
  | cons r rs ih => rw [List.foldl_cons, ih, openPlainStep_lnk]

theorem State.eagerLoads_lnk (opened : List RangeIx) (s : State) : (s.eagerLoads opened).lnk = s.lnk := by
  unfold State.eagerLoads
  induction List.finRange 16 generalizing s with
  | nil => rfl
  | cons r rs ih =>
    rw [List.foldl_cons, ih]
    split
    · exact s.eagerLoad_lnk r
    · rfl

theorem State.openPlain_lnk (from_ : LockState → Bool) (rs : List RangeIx) (s : State) : (s.openPlain from_ rs).lnk = s.lnk := by
  unfold State.openPlain
  simp only
  split
  · exact openPlainSteps_lnk from_ rs (s, [])
  · rw [State.bump_lnk, State.eagerLoads_lnk]
    exact openPlainSteps_lnk from_ rs (s, [])

theorem State.clearComplete_outbound (i : SlotIx) (s : State) : (s.clearComplete i).lnk.outbound = s.lnk.outbound := by
  unfold State.clearComplete
  split
  · split
    · rw [State.openPlain_lnk, State.bump_lnk]
      rfl
    · rfl
  · rfl

theorem State.clearRequest_outbound (r : RangeIx) (s : State) : (s.clearRequest r).lnk.outbound = s.lnk.outbound := by
  unfold State.clearRequest
  split
  · rfl
  · split
    · rfl
    · split
      · exact State.clearComplete_outbound _ _
      · rfl
    · split <;> rfl
    all_goals rfl

theorem State.unpinned_outbound (i : SlotIx) (s : State) : (s.unpinned i).lnk.outbound = s.lnk.outbound := by
  unfold State.unpinned
  split
  · split
    · exact s.clearRequest_outbound _
    · rfl
  · rfl

theorem State.dropVerdict_outbound (v : Verdict) (s : State) : (s.dropVerdict v).lnk.outbound = s.lnk.outbound := by
  have unpins (l : List SlotIx) (t : State) : (l.foldl (fun s i => s.unpinned i) t).lnk.outbound = t.lnk.outbound := by
    induction l generalizing t with
    | nil => rfl
    | cons i l ih => rw [List.foldl_cons, ih, State.unpinned_outbound]
  exact unpins _ (s.unlist v)

/-! ## With no range LOCKING -/

theorem State.unpinned_of_unlocking {s : State} (h : ∀ r, (s.rmg.ranges.get r).lock ≠ .locking) (i : SlotIx) :
    s.unpinned i = s := by
  unfold State.unpinned
  split
  · exact if_neg (by simp [h])
  · rfl

theorem State.dropVerdict_of_unlocking {s : State} (h : ∀ r, (s.rmg.ranges.get r).lock ≠ .locking) (v : Verdict) :
    s.dropVerdict v = s.unlist v := by
  rw [State.dropVerdict_eq]
  induction passedSlots v.segments with
  | nil => rfl
  | cons i l ih => rw [List.foldl_cons, State.unpinned_of_unlocking (s := s.unlist v) h, ih]

/-! ## The slot of a LOCKING range -/

/-- Range `r` is LOCKING and waits on the clear of slot `i`, which is LOADED or CLEARING; no other range and no other slot is
concerned with either. -/
structure State.AwaitsClear (i : SlotIx) (r : RangeIx) (s : State) : Prop where
  locking : (s.rmg.ranges.get r).lock = .locking
  slot : (s.rmg.ranges.get r).slot = some i
  sole : ∀ q, (s.rmg.ranges.get q).slot = some i → q = r
  occupant : (s.kln.slots.get i).occupant.map Occupant.range = some r
  alone : ∀ j, (s.kln.slots.get j).occupant.map Occupant.range = some r → j = i
  state : (s.kln.slots.get i).state = .loaded ∨ (s.kln.slots.get i).state = .clearing

/-- A step that leaves the wait of `r` on slot `i`, and the slot. -/
def State.Spares (i : SlotIx) (r : RangeIx) (s t : State) : Prop :=
  s.AwaitsClear i r → t.AwaitsClear i r ∧ t.kln.slots.get i = s.kln.slots.get i

section
variable {i : SlotIx} {r : RangeIx} {s t u : State}

theorem State.Spares.refl (s : State) : s.Spares i r s := fun h => ⟨h, rfl⟩

theorem State.Spares.trans (h : s.Spares i r t) (k : t.Spares i r u) : s.Spares i r u := fun w =>
  have ⟨w', e⟩ := h w
  have ⟨w'', e'⟩ := k w'
  ⟨w'', e'.trans e⟩

theorem State.Spares.foldl {α : Type} (f : State → α → State) (h : ∀ (s : State) a, s.Spares i r (f s a)) (l : List α)
    (s : State) : s.Spares i r (l.foldl f s) := by
  induction l generalizing s with
  | nil => exact .refl s
  | cons a l ih => exact (h s a).trans (ih _)

/-- A step that leaves the entry of `r` and slot `i`, and concerns no other range or slot with either. -/
theorem State.Spares.of_get (own : s.AwaitsClear i r → t.rmg.ranges.get r = s.rmg.ranges.get r)
    (sole : ∀ q, q ≠ r → (t.rmg.ranges.get q).slot = some i → (s.rmg.ranges.get q).slot = some i)
    (slot : s.AwaitsClear i r → t.kln.slots.get i = s.kln.slots.get i)
    (alone : ∀ j, (t.kln.slots.get j).occupant.map Occupant.range = some r →
      (s.kln.slots.get j).occupant.map Occupant.range = some r) : s.Spares i r t := fun w => by
  have own := own w
  have slot := slot w
  refine ⟨⟨by rw [own]; exact w.locking, by rw [own]; exact w.slot, fun q hq => ?_, by rw [slot]; exact w.occupant,
    fun j hj => w.alone j (alone j hj), by rw [slot]; exact w.state⟩, slot⟩
  by_contra ne
  exact ne (w.sole q (sole q ne hq))

theorem State.Spares.of_same (hr : t.rmg.ranges = s.rmg.ranges) (hs : t.kln.slots = s.kln.slots) : s.Spares i r t :=
  .of_get (fun _ => by rw [hr]) (fun _ _ h => hr ▸ h) (fun _ => by rw [hs]) (fun _ h => hs ▸ h)

/-- What comes before and leaves the ranges and the slots does not count. -/
theorem State.Spares.from (k : t.Spares i r u) (hr : t.rmg.ranges = s.rmg.ranges := by rfl)
    (hs : t.kln.slots = s.kln.slots := by rfl) : s.Spares i r u := State.Spares.trans (.of_same hr hs) k

/-- Nor does what follows and leaves them. -/
theorem State.Spares.until (h : s.Spares i r t) (hr : u.rmg.ranges = t.rmg.ranges := by rfl)
    (hs : u.kln.slots = t.kln.slots := by rfl) : s.Spares i r u := h.trans (.of_same hr hs)

/-- An update of another range's entry that does not give it slot `i`. -/
theorem State.onRange_spares {q : RangeIx} {f : RangeEntry → RangeEntry} (hq : s.AwaitsClear i r → q ≠ r)
    (hf : ∀ e, q ≠ r → (f e).slot = some i → e.slot = some i) : s.Spares i r (s.onRange q f) := fun w => by
  refine State.Spares.of_get (fun _ => ?_) (fun p hp hs => ?_) (fun _ => rfl) (fun _ h => h) w
  · rw [State.onRange_get, if_neg (hq w)]
  · rw [State.onRange_get] at hs
    split at hs
    · next e => subst e; exact hf _ hp hs
    · exact hs

/-- An update of another slot that does not put the key of `r` there. -/
theorem State.onSlot_spares {j : SlotIx} {f : Slot → Slot} (hj : s.AwaitsClear i r → j ≠ i)
    (hf : ∀ l, (f l).occupant.map Occupant.range = some r → l.occupant.map Occupant.range = some r) :
    s.Spares i r (s.onSlot j f) := by
  refine State.Spares.of_get (fun _ => rfl) (fun _ _ h => h) (fun w => Table.get_set_ne _ _ (hj w)) fun k hk => ?_
  have get : (s.onSlot j f).kln.slots.get k = if j = k then f (s.kln.slots.get j) else s.kln.slots.get k :=
    Table.get_set _ _ _ _
  rw [get] at hk
  split at hk
  · next e => subst e; exact hf _ hk
  · exact hk

theorem State.removeSlotField_spares {q : RangeIx} (j : SlotIx) (hj : j ≠ i) (s : State) :
    s.Spares i r (s.removeSlotField q j) := by
  intro w
  by_cases hq : q = r
  · subst hq
    refine State.Spares.of_same (Table.ext_get fun p => ?_) rfl w
    rw [State.removeSlotField, State.onRange_get]
    split
    · next e =>
      subst e
      exact if_neg (by rw [w.slot]; simpa using hj.symm)
    · rfl
  · refine State.onRange_spares (fun _ => hq) (fun e _ he => ?_) w
    split at he
    · cases he
    · exact he

theorem State.finishLock_spares {q : RangeIx} (hq : q ≠ r) (s : State) : s.Spares i r (s.finishLock q) := by
  have entry : (s.cacheKey q none).Spares i r ((s.cacheKey q none).onRange q fun e => { e with lock := .locked, slot := none }) :=
    State.onRange_spares (fun _ => hq) fun _ _ h => nomatch h
  exact entry.from.until

theorem State.openPlainStep_spares (acc : State × List RangeIx) (q : RangeIx) :
    acc.1.Spares i r (openPlainStep LockState.isLocked acc q).1 := by
  unfold openPlainStep
  split
  · next opens =>
    have other : acc.1.AwaitsClear i r → q ≠ r := by
      rintro w rfl
      simp [State.opensPlain, w.locking, LockState.isLocked] at opens
    split
    · next k _ =>
      intro w
      have entry : (acc.1.cacheKey q (some k)).Spares i r
          ((acc.1.cacheKey q (some k)).onRange q fun e => { e with lock := .opened }) :=
        State.onRange_spares (fun _ => other w) fun _ _ h => h
      have opened : acc.1.Spares i r (acc.1.openWith q k .opened) := entry.from
      exact opened w
    · exact .of_same (State.addFaulty_ranges _ _) (State.addFaulty_unchanged _ acc.1 .slots (by decide))
  · exact .refl _

theorem State.openPlainSteps_spares (qs : List RangeIx) (acc : State × List RangeIx) :
    acc.1.Spares i r (qs.foldl (openPlainStep LockState.isLocked) acc).1 := by
  induction qs generalizing acc with
  | nil => exact .refl _
  | cons q qs ih => exact (State.openPlainStep_spares acc q).trans (ih _)

theorem State.assignSlot_spares {j : SlotIx} {q : RangeIx} (hj : (s.kln.slots.get j).state = .empty) (hq : q ≠ r) :
    s.Spares i r (s.assignSlot j q) := by
  intro w
  have ne : j ≠ i := by
    rintro rfl
    rcases w.state with h | h <;> rw [hj] at h <;> cases h
  have slot : s.Spares i r (s.onSlot j fun _ =>
      { state := .loading, occupant := some (s.occupantOf q), next := none, pins := 0, lastUse := s.tmb.uptime }) :=
    State.onSlot_spares (fun _ => ne) fun _ h => absurd (Option.some.inj h) hq
  unfold State.assignSlot
  exact (slot.until.trans (State.onRange_spares (fun _ => hq) fun _ _ h => absurd (Option.some.inj h) ne)) w

theorem State.eagerLoad_spares (q : RangeIx) (s : State) : s.Spares i r (s.eagerLoad q) := by
  intro w
  unfold State.eagerLoad
  split
  · exact ⟨w, rfl⟩
  · next unslotted =>
    have other : q ≠ r := by
      rintro rfl
      simp [w.slot] at unslotted
    split
    · next j free => exact State.assignSlot_spares (by simpa using (Table.lowest_some free).1) other w
    · exact ⟨w, rfl⟩

theorem State.bump_spares (s : State) : s.Spares i r s.bump :=
  .of_same s.bump_ranges (s.bump_unchanged .slots (by decide))

theorem State.openPlain_spares (qs : List RangeIx) (s : State) : s.Spares i r (s.openPlain LockState.isLocked qs) := by
  have steps := State.openPlainSteps_spares (i := i) (r := r) qs (s, [])
  unfold State.openPlain
  simp only
  split
  · exact steps
  · refine (steps.trans (State.Spares.foldl _ (fun s q => ?_) _ _)).trans (State.bump_spares _)
    split
    · exact s.eagerLoad_spares q
    · exact .refl s

theorem State.clearComplete_spares {j : SlotIx} (hj : j ≠ i) (s : State) : s.Spares i r (s.clearComplete j) := by
  intro w
  unfold State.clearComplete
  split
  · next q found =>
    have other : q ≠ r := by
      rintro rfl
      have names := List.find?_some found
      rw [w.slot] at names
      exact hj.symm (by simpa using names)
    split
    · exact (((s.finishLock_spares other).trans (State.bump_spares _)).trans (State.openPlain_spares _ _)) w
    · exact s.removeSlotField_spares j hj w
  · exact ⟨w, rfl⟩

theorem State.sendClear_spares {j : SlotIx} (hj : j ≠ i) (s : State) : s.Spares i r (s.sendClear j) :=
  State.Spares.trans (State.onSlot_spares (f := fun l => { l with state := .clearing }) (fun _ => hj) fun _ h => h)
    (.of_same rfl rfl)

theorem State.unload_spares {j : SlotIx} {f : Slot → Slot} (hj : j ≠ i)
    (hf : ∀ l, (f l).occupant.map Occupant.range = some r → l.occupant.map Occupant.range = some r) (s : State) :
    s.Spares i r (s.unload j f) :=
  State.Spares.from (t := s.onKln fun k => { k with queue := unqueue .load j k.queue }) (State.onSlot_spares (fun _ => hj) hf)

/-- The clear of another range's slot does not concern slot `i`. -/
theorem State.clearRequest_spares {q : RangeIx} (hq : q ≠ r) (s : State) : s.Spares i r (s.clearRequest q) := by
  intro w
  cases slot : (s.rmg.ranges.get q).slot with
  | none =>
    have keeps : s.clearRequest q = s := by simp [State.clearRequest, slot]
    rw [keeps]
    exact ⟨w, rfl⟩
  | some j =>
    have ne : j ≠ i := fun e => hq (w.sole q (slot.trans (congrArg some e)))
    cases state : (s.kln.slots.get j).state with
    | loaded =>
      rw [State.clearRequest_sends slot (.inl state)]
      exact s.sendClear_spares ne w
    | loading =>
      cases sent : queued .load j s.kln.queue with
      | false =>
        rw [State.clearRequest_sends slot (.inr ⟨state, sent⟩)]
        exact s.sendClear_spares ne w
      | true =>
        rw [State.clearRequest_unqueues slot state sent]
        have emptied : s.Spares i r (s.unload j Slot.emptied) :=
          s.unload_spares ne fun _ (h : Option.map Occupant.range none = some r) => nomatch h
        exact (emptied.trans (State.clearComplete_spares ne _)) w
    | clearing =>
      rw [State.clearRequest_clearing slot state]
      split
      · exact s.unload_spares (f := fun l => { l with next := none }) ne (fun _ h => h) w
      · exact ⟨w, rfl⟩
    | empty =>
      have keeps : s.clearRequest q = s := by simp [State.clearRequest, slot, state]
      rw [keeps]
      exact ⟨w, rfl⟩
    | unknown =>
      have keeps : s.clearRequest q = s := by simp [State.clearRequest, slot, state]
      rw [keeps]
      exact ⟨w, rfl⟩

/-- From `s` to `t` the wait of `r` on slot `i` stands, and so do the slot's pins; its state is as given. -/
structure State.SlotTo (i : SlotIx) (r : RangeIx) (state : SlotState) (s t : State) : Prop where
  awaits : t.AwaitsClear i r
  pins : (t.kln.slots.get i).pins = (s.kln.slots.get i).pins
  state : (t.kln.slots.get i).state = state

/-- The update of slot `i` that leaves its occupant, its state LOADED or CLEARING after it. -/
theorem State.AwaitsClear.onSlot (w : s.AwaitsClear i r) {f : Slot → Slot} (ho : ∀ l, (f l).occupant = l.occupant)
    (hs : (f (s.kln.slots.get i)).state = .loaded ∨ (f (s.kln.slots.get i)).state = .clearing) :
    (s.onSlot i f).AwaitsClear i r := by
  have get (j : SlotIx) : (s.onSlot i f).kln.slots.get j = if i = j then f (s.kln.slots.get i) else s.kln.slots.get j :=
    Table.get_set _ _ _ _
  refine ⟨w.locking, w.slot, w.sole, ?_, fun j hj => w.alone j ?_, ?_⟩
  · rw [get, if_pos rfl, ho]
    exact w.occupant
  · rw [get] at hj
    split at hj
    · next e => subst e; rwa [ho] at hj
    · exact hj
  · rw [get, if_pos rfl]
    exact hs

theorem State.AwaitsClear.of_same (w : s.AwaitsClear i r) (hr : t.rmg.ranges = s.rmg.ranges) (hs : t.kln.slots = s.kln.slots) :
    t.AwaitsClear i r := (State.Spares.of_same hr hs w).1

/-- The clear of its own slot leaves that slot CLEARING. -/
theorem State.AwaitsClear.clearRequest (w : s.AwaitsClear i r) : s.SlotTo i r .clearing (s.clearRequest r) := by
  rcases w.state with loaded | clearing
  · rw [State.clearRequest_sends w.slot (.inl loaded)]
    refine ⟨(w.onSlot (f := fun l => { l with state := .clearing }) (fun _ => rfl) (.inr rfl)).of_same rfl rfl, ?_, ?_⟩
    all_goals simp [State.sendClear, State.onSlot]
  · rw [State.clearRequest_clearing w.slot clearing]
    split
    · have at_ : (s.onKln fun k => { k with queue := unqueue .load i k.queue }).AwaitsClear i r := w.of_same rfl rfl
      refine ⟨at_.onSlot (fun _ => rfl) (.inr clearing), ?_, ?_⟩
      · simp [State.unload, State.onSlot]
      · simpa [State.unload, State.onSlot] using clearing
    · exact ⟨w, rfl, clearing⟩

/-- A look at one slot unpinned: only where it is slot `i`, without pins, does slot `i` change, to CLEARING. -/
theorem State.AwaitsClear.unpinned (w : s.AwaitsClear i r) (j : SlotIx) :
    s.SlotTo i r (if j = i ∧ (s.kln.slots.get i).pins = 0 then .clearing else (s.kln.slots.get i).state) (s.unpinned j) := by
  have stands : s.SlotTo i r (s.kln.slots.get i).state s := ⟨w, rfl, rfl⟩
  cases occupant : (s.kln.slots.get j).occupant with
  | some o =>
    have look : s.unpinned j = if (s.kln.slots.get j).pins = 0 && (s.rmg.ranges.get o.range).lock = .locking
        then s.clearRequest o.range else s := by rw [State.unpinned, occupant]
    rw [look]
    by_cases own : j = i
    · subst own
      obtain rfl : o.range = r := by simpa [occupant] using w.occupant
      by_cases free : (s.kln.slots.get j).pins = 0
      · rw [if_pos (c := j = j ∧ _) ⟨rfl, free⟩, if_pos (by simp [free, w.locking])]
        exact w.clearRequest
      · rw [if_neg (c := j = j ∧ _) (by simp [free]), if_neg (by simp [free])]
        exact stands
    · have other : o.range ≠ r := fun e => own (w.alone j (by simp [occupant, e]))
      simp only [own, false_and, if_false]
      split
      · obtain ⟨w', slot⟩ := s.clearRequest_spares other w
        exact ⟨w', by rw [slot], by rw [slot]⟩
      · exact stands
  | none =>
    have own : j ≠ i := by
      rintro rfl
      have held := w.occupant
      simp [occupant] at held
    have look : s.unpinned j = s := by rw [State.unpinned, occupant]
    rw [look, if_neg (by simp [own])]
    exact stands

theorem State.AwaitsClear.unpins (w : s.AwaitsClear i r) (l : List SlotIx) :
    s.SlotTo i r (if i ∈ l ∧ (s.kln.slots.get i).pins = 0 then .clearing else (s.kln.slots.get i).state)
      (l.foldl (fun s j => s.unpinned j) s) := by
  induction l generalizing s with
  | nil => exact ⟨w, rfl, by simp⟩
  | cons j l ih =>
    obtain ⟨w', pins, state⟩ := w.unpinned j
    obtain ⟨w'', pins', state'⟩ := ih w'
    refine ⟨w'', pins'.trans pins, state'.trans ?_⟩
    rw [pins, state]
    by_cases own : j = i
    · subst own
      by_cases free : (s.kln.slots.get j).pins = 0
      · simp [free]
      · simp [free]
    · simp [own, Ne.symm own]

/-- A verdict that leaves the table takes its pin from slot `i`, and with the last of them the slot is cleared (R45). -/
theorem State.AwaitsClear.dropVerdict (w : s.AwaitsClear i r) (v : Verdict) :
    (s.dropVerdict v).AwaitsClear i r ∧
      ((s.dropVerdict v).kln.slots.get i).pins =
        (s.kln.slots.get i).pins - (if (passedSlots v.segments).contains i then 1 else 0) ∧
      ((s.dropVerdict v).kln.slots.get i).state =
        if (passedSlots v.segments).contains i ∧ (s.kln.slots.get i).pins ≤ 1 then .clearing
        else (s.kln.slots.get i).state := by
  have slot := s.unlist_slot v
  have unlisted : (s.unlist v).AwaitsClear i r := by
    refine ⟨w.locking, w.slot, w.sole, ?_, fun j hj => w.alone j ?_, ?_⟩
    · rw [slot]; exact w.occupant
    · rwa [slot] at hj
    · rw [slot]; exact w.state
  obtain ⟨w', pins, state⟩ := unlisted.unpins (passedSlots v.segments)
  rw [← State.dropVerdict_eq] at w' pins state
  refine ⟨w', pins.trans (by rw [slot]), state.trans ?_⟩
  rw [slot]
  by_cases passed : i ∈ passedSlots v.segments
  · simp [passed, Nat.sub_eq_zero_iff_le]
  · simp [passed]

end

end Sys2Proof.Machine
end

section
/-! PROOFS. RELEASE and VERDICT_EXPIRY (R42, R43, R45). -/

namespace Sys2Proof.Machine

/-! ## One id after another (R43) -/

theorem releaseOne_held {acc : State × List Bool} {id : Nat} {v : Verdict}
    (h : acc.1.srv.verdicts.find? (fun v => v.id == id) = some v) :
    releaseOne acc id = (acc.1.dropVerdict v, acc.2 ++ [true]) := by
  rw [releaseOne, h]

theorem releaseOne_stale {acc : State × List Bool} {id : Nat} (h : acc.1.srv.verdicts.find? (fun v => v.id == id) = none) :
    releaseOne acc id = (acc.1, acc.2 ++ [false]) := by
  rw [releaseOne, h]

/-- The verdicts that a RELEASE of these ids leaves. -/
def State.unreleased (s : State) (ids : List Nat) : List Verdict := s.srv.verdicts.filter fun v => !(ids.contains v.id)

/-- The verdict found under the next id is one of the table, its id not yet named. -/
theorem State.unreleased_some {s : State} {ids : List Nat} {id : Nat} {v : Verdict}
    (h : (s.unreleased ids).find? (fun v => v.id == id) = some v) : v.id = id ∧ v ∈ s.srv.verdicts ∧ id ∉ ids := by
  have found : v.id = id := by simpa using List.find?_some h
  obtain ⟨held, fresh⟩ := List.mem_filter.mp (List.mem_of_find?_eq_some h)
  exact ⟨found, held, by simpa [found] using fresh⟩

theorem State.unreleased_none {s : State} {ids : List Nat} {id : Nat}
    (h : (s.unreleased ids).find? (fun v => v.id == id) = none) {v : Verdict} (hv : v ∈ s.srv.verdicts) (hi : v.id = id) :
    id ∈ ids := by
  by_contra fresh
  have := List.find?_eq_none.mp h v (List.mem_filter.mpr ⟨hv, by simpa [hi] using fresh⟩)
  exact this (by simpa using hi)

theorem State.unreleased_snoc (s : State) (ids : List Nat) (id : Nat) :
    s.unreleased (ids ++ [id]) = (s.unreleased ids).filter fun v => !(v.id == id) := by
  rw [State.unreleased, State.unreleased, List.filter_filter]
  congr 1
  funext v
  simp [Bool.and_comm, ← Bool.beq_eq_decide_eq]

/-- What the ids taken so far have come to (R42, R43). -/
structure State.Released (ids : List Nat) (s : State) (acc : State × List Bool) : Prop where
  srv : acc.1.srv = { s.srv with verdicts := s.unreleased ids }
  length : acc.2.length = ids.length
  result : ∀ (k : Nat) id, ids[k]? = some id →
    acc.2[k]? = some (decide (id ∈ s.srv.verdicts.map Verdict.id ∧ id ∉ ids.take k))
  ended : ∀ id ∈ ids, id ∈ s.srv.verdicts.map Verdict.id → acc.1.Ended (.verdict id)
  others : s.OthersStand (fun p => ids.any fun id => p == .verdict id) acc.1
  frame : Unchanged ([.verdicts, .deadlines, .fallen] ++ Part.clears) s acc.1

/-- A result joins those before it. -/
theorem results_snoc {P : Nat → Nat → Prop} [∀ k id, Decidable (P k id)] {ids : List Nat} {results : List Bool}
    {id : Nat} {b : Bool} (hl : results.length = ids.length)
    (h : ∀ (k : Nat) a, ids[k]? = some a → results[k]? = some (decide (P k a)))
    (hb : b = decide (P ids.length id)) :
    ∀ (k : Nat) a, (ids ++ [id])[k]? = some a → (results ++ [b])[k]? = some (decide (P k a)) := by
  intro k a ha
  rcases Nat.lt_trichotomy k ids.length with lt | rfl | gt
  · rw [List.getElem?_append_left lt] at ha
    rw [List.getElem?_append_left (hl ▸ lt)]
    exact h k a ha
  · rw [List.getElem?_append_right (Nat.le_refl _), Nat.sub_self] at ha
    cases ha
    rw [List.getElem?_append_right (Nat.le_of_eq hl), hl, Nat.sub_self]
    exact congrArg some hb
  · rw [List.getElem?_eq_none (by simpa using gt)] at ha
    cases ha

theorem State.releases (ids : List Nat) (s : State) : s.Released ids (ids.foldl releaseOne (s, [])) := by
  induction ids using List.reverseRecOn with
  | nil =>
    exact ⟨by simp [State.unreleased], rfl, nofun, nofun, .refl _ _, .refl _ _⟩
  | append_singleton ids id ih =>
    rw [List.foldl_concat]
    generalize ids.foldl releaseOne (s, []) = acc at ih ⊢
    have table : acc.1.srv.verdicts = s.unreleased ids := by rw [ih.srv]
    have before {k : Nat} (hk : k ≤ ids.length) : (ids ++ [id]).take k = ids.take k := List.take_append_of_le_length hk
    have results {b : Bool} (hb : b = decide (id ∈ s.srv.verdicts.map Verdict.id ∧ id ∉ ids)) (k : Nat) (a : Nat)
        (ha : (ids ++ [id])[k]? = some a) : (acc.2 ++ [b])[k]? =
          some (decide (a ∈ s.srv.verdicts.map Verdict.id ∧ a ∉ (ids ++ [id]).take k)) := by
      have bound : k ≤ ids.length := by
        obtain ⟨lt, -⟩ := List.getElem?_eq_some_iff.mp ha
        simp at lt
        omega
      rw [before bound]
      exact results_snoc (P := fun k a => a ∈ s.srv.verdicts.map Verdict.id ∧ a ∉ ids.take k) ih.length ih.result
        (by rw [hb, List.take_length]) k a ha
    cases found : acc.1.srv.verdicts.find? (fun v => v.id == id) with
    | some v =>
      rw [releaseOne_held found]
      rw [table] at found
      obtain ⟨rfl, held, fresh⟩ := State.unreleased_some found
      have drop := acc.1.dropVerdict_othersStand v
      refine ⟨?_, by simp [ih.length], results (by simpa [fresh] using ⟨v, held, rfl⟩), fun id hid named => ?_, ?_, ?_⟩
      · rw [State.dropVerdict_srv, ih.srv, State.unreleased_snoc]
      · by_cases same : id = v.id
        · subst same
          exact acc.1.dropVerdict_ended v
        · have earlier : id ∈ ids := by simpa [same] using hid
          exact (ih.ended id earlier named).of_othersStand drop (by simpa using same) nofun
      · refine (ih.others.mono fun p hp => ?_).trans (drop.mono fun p hp => ?_)
        · simp only [List.any_append, hp, Bool.true_or]
        · simp only [List.any_append, List.any_cons, hp, Bool.true_or, Bool.or_true]
      · exact ih.frame.trans (acc.1.dropVerdict_unchanged v) (List.Subset.refl _) (List.Subset.refl _)
    | none =>
      rw [releaseOne_stale found]
      rw [table] at found
      have unnamed (held : id ∈ s.srv.verdicts.map Verdict.id) : id ∈ ids := by
        obtain ⟨v, hv, hid⟩ := List.mem_map.mp held
        exact State.unreleased_none found hv hid
      refine ⟨?_, by simp [ih.length], results ?_, fun a ha held => ?_, ih.others.mono fun p hp => ?_, ih.frame⟩
      · have same : (s.unreleased ids).filter (fun v => !(v.id == id)) = s.unreleased ids :=
          List.filter_eq_self.mpr fun v hv => by simpa using List.find?_eq_none.mp found v hv
        rw [ih.srv, State.unreleased_snoc, same]
      · exact (decide_eq_false fun ⟨held, fresh⟩ => fresh (unnamed held)).symm
      · rcases List.mem_append.mp ha with earlier | last
        · exact ih.ended a earlier held
        · obtain rfl := List.mem_singleton.mp last
          exact ih.ended a (unnamed held) held
      · simp only [List.any_append, hp, Bool.true_or]

theorem releaseOne_outbound (acc : State × List Bool) (id : Nat) : (releaseOne acc id).1.lnk.outbound = acc.1.lnk.outbound := by
  unfold releaseOne
  split
  · exact acc.1.dropVerdict_outbound _
  · rfl

theorem releases_outbound (ids : List Nat) (acc : State × List Bool) :
    (ids.foldl releaseOne acc).1.lnk.outbound = acc.1.lnk.outbound := by
  induction ids generalizing acc with
  | nil => rfl
  | cons id ids ih => rw [List.foldl_cons, ih, releaseOne_outbound]

/-! ## The pins that are freed (R42) -/

/-- The pins that the verdicts of these ids have on slot `i`. -/
def State.freed (s : State) (ids : List Nat) (i : SlotIx) : Nat :=
  (s.srv.verdicts.filter fun v => ids.contains v.id).countP fun v => (passedSlots v.segments).contains i

/-- The pin that a verdict, if there is one, has on slot `i`. -/
def pinOf (i : SlotIx) (v : Option Verdict) : Nat := v.elim 0 fun v => if (passedSlots v.segments).contains i then 1 else 0

/-- One id more counts the one verdict it finds. -/
theorem countP_released_snoc (p : Verdict → Bool) (ids : List Nat) (id : Nat) {l : List Verdict}
    (hn : (l.map Verdict.id).Nodup) :
    (l.filter fun v => (ids ++ [id]).contains v.id).countP p = (l.filter fun v => ids.contains v.id).countP p +
      ((l.filter fun v => !(ids.contains v.id)).find? fun v => v.id == id).elim 0 fun v => if p v then 1 else 0 := by
  induction l with
  | nil => rfl
  | cons v l ih =>
    obtain ⟨other, hn⟩ := List.nodup_cons.mp hn
    have ih := ih hn
    by_cases named : v.id ∈ ids
    · simp only [List.filter_cons, List.contains_eq_mem, List.mem_append, named, true_or, decide_true, if_true, List.countP_cons,
        Bool.not_true, Bool.false_eq_true, if_false] at ih ⊢
      omega
    · by_cases found : v.id = id
      · subst found
        have none_ : (l.filter fun w => !(ids.contains w.id)).find? (fun w => w.id == v.id) = none :=
          List.find?_eq_none.mpr fun w hw same =>
            other (List.mem_map.mpr ⟨w, (List.mem_filter.mp hw).1, by simpa using same⟩)
        rw [none_] at ih
        simpa [named, List.countP_cons] using ih
      · simpa [named, found] using ih

theorem State.freed_snoc {s : State} (h : s.VerdictsSound) (ids : List Nat) (id : Nat) (i : SlotIx) :
    s.freed (ids ++ [id]) i = s.freed ids i + pinOf i ((s.unreleased ids).find? fun v => v.id == id) :=
  countP_released_snoc _ ids id h.2.1

/-- With no range LOCKING each slot loses the pins freed, and nothing else changes but the verdicts and their deadlines. -/
theorem State.releases_unlocking {s : State} (hv : s.VerdictsSound) (h : ∀ r, (s.rmg.ranges.get r).lock ≠ .locking)
    (ids : List Nat) :
    (∀ i, (ids.foldl releaseOne (s, [])).1.kln.slots.get i =
      { s.kln.slots.get i with pins := (s.kln.slots.get i).pins - s.freed ids i }) ∧
    Unchanged [.verdicts, .slots, .deadlines, .fallen] s (ids.foldl releaseOne (s, [])).1 := by
  induction ids using List.reverseRecOn with
  | nil => exact ⟨fun i => by simp [State.freed], .refl _ _⟩
  | append_singleton ids id ih =>
    have table : (ids.foldl releaseOne (s, [])).1.srv.verdicts = s.unreleased ids := by rw [(s.releases ids).srv]
    obtain ⟨slots, frame⟩ := ih
    rw [List.foldl_concat]
    generalize ids.foldl releaseOne (s, []) = acc at table slots frame ⊢
    have ranges : acc.1.rmg.ranges = s.rmg.ranges := frame .ranges (by decide)
    cases found : acc.1.srv.verdicts.find? (fun v => v.id == id) with
    | some v =>
      have freed := fun i => State.freed_snoc hv ids id i
      rw [← table, found] at freed
      rw [releaseOne_held found, State.dropVerdict_of_unlocking (by rwa [ranges])]
      refine ⟨fun i => ?_, frame.trans (acc.1.unlist_unchanged v)⟩
      rw [State.unlist_slot, slots, freed, ← Nat.sub_sub]
      rfl
    | none =>
      have freed := fun i => State.freed_snoc hv ids id i
      rw [← table, found] at freed
      rw [releaseOne_stale found]
      exact ⟨fun i => by rw [slots, freed]; rfl, frame⟩

/-- The slot of a LOCKING range loses the pins freed, and with the last of them it is cleared (R45). -/
theorem State.AwaitsClear.releases {s : State} {i : SlotIx} {r : RangeIx} (hv : s.VerdictsSound) (w : s.AwaitsClear i r)
    (ids : List Nat) :
    (ids.foldl releaseOne (s, [])).1.AwaitsClear i r ∧
    ((ids.foldl releaseOne (s, [])).1.kln.slots.get i).pins = (s.kln.slots.get i).pins - s.freed ids i ∧
    (1 ≤ s.freed ids i → (s.kln.slots.get i).pins ≤ s.freed ids i →
      ((ids.foldl releaseOne (s, [])).1.kln.slots.get i).state = .clearing) ∧
    (s.freed ids i = 0 ∨ s.freed ids i < (s.kln.slots.get i).pins →
      ((ids.foldl releaseOne (s, [])).1.kln.slots.get i).state = (s.kln.slots.get i).state) := by
  induction ids using List.reverseRecOn with
  | nil => exact ⟨w, by simp [State.freed], fun h => by simp [State.freed] at h, fun _ => rfl⟩
  | append_singleton ids id ih =>
    have table : (ids.foldl releaseOne (s, [])).1.srv.verdicts = s.unreleased ids := by rw [(s.releases ids).srv]
    have freed := State.freed_snoc hv ids id i
    obtain ⟨w', pins, clears, stands⟩ := ih
    rw [List.foldl_concat]
    generalize ids.foldl releaseOne (s, []) = acc at table w' pins clears stands ⊢
    rw [← table] at freed
    cases found : acc.1.srv.verdicts.find? (fun v => v.id == id) with
    | some v =>
      rw [found] at freed
      obtain ⟨w'', pins', state⟩ := w'.dropVerdict v
      rw [releaseOne_held found]
      simp only [pinOf, Option.elim_some] at freed
      refine ⟨w'', by rw [pins', pins, freed, Nat.sub_sub], fun some_ all => ?_, fun left => ?_⟩
      · rw [state]
        split at freed
        · next passed => exact if_pos ⟨passed, by omega⟩
        · next passed =>
          rw [if_neg fun h => passed h.1]
          exact clears (by omega) (by omega)
      · rw [state]
        split at freed
        · rw [if_neg fun h => by omega]
          exact stands (by omega)
        · next passed =>
          rw [if_neg fun h => passed h.1]
          exact stands (by omega)
    | none =>
      rw [found] at freed
      rw [releaseOne_stale found, freed]
      exact ⟨w', pins, clears, stands⟩

/-! ## The two ends of a verdict -/

/-- RELEASE taken up: what the ids come to is answered, and no more than that happens (R43). -/
theorem release_ends {s : State} {h : Header} {ids : List Nat} (hs : s.TakesUp (.release h ids)) (some_ : 1 ≤ ids.length)
    (few : ids.length ≤ 16) :
    ∃ t m acc, exec (.release h ids) s = .next t ∧ s.lnk.Taken 1 m ∧ acc = ids.foldl releaseOne (s.onLnk fun _ => m, []) ∧
      s.Replied 0x31 h.tag (okWith (.released acc.2)) t ∧ Unchanged [] acc.1 t := by
  obtain ⟨serves, level, sized⟩ := hs
  have sized : h.sized = true := sized
  obtain ⟨m, taken, run⟩ := State.request_accepts (kind := 0x31) (h := h)
    (checks := fun _ => [(h.sized && 1 ≤ ids.length && ids.length ≤ 16, .badArg)])
    (act := fun s => (ids.foldl releaseOne (s, [])).1.answerOk 0x31 h (.released (ids.foldl releaseOne (s, [])).2))
    serves level fun _ => by simp [judge, sized, some_, few]
  have released := (s.onLnk fun _ => m).releases ids
  refine ⟨_, m, _, run, taken, rfl, State.replied_at_once ?_ ?_, ?_⟩
  · exact (released.frame .waiting (by decide)).trans taken.waiting
  · exact (releases_outbound ids _).trans taken.outbound
  · exact (State.answer_unchanged _ _ _ _).append (State.settle_unchanged _)

/-- What RELEASE leaves of the slots (R42, R45). -/
theorem release_slots {s u t : State} {ids : List Nat} {e : List Part} (hv : s.VerdictsSound) (hu : Unchanged [.waiting] s u)
    (srv : u.srv = s.srv) (ht : Unchanged e (ids.foldl releaseOne (u, [])).1 t) (he : e ⊆ [] := by decide) :
    ((∀ r, (s.rmg.ranges.get r).lock ≠ .locking) →
      (∀ i, t.kln.slots.get i = { s.kln.slots.get i with pins := (s.kln.slots.get i).pins - s.freed ids i }) ∧
      Unchanged [.waiting, .outbound, .verdicts, .slots, .deadlines, .fallen] s t) ∧
    ∀ i r, s.AwaitsClear i r →
      (t.kln.slots.get i).pins = (s.kln.slots.get i).pins - s.freed ids i ∧
      (1 ≤ s.freed ids i → (s.kln.slots.get i).pins ≤ s.freed ids i → (t.kln.slots.get i).state = .clearing) ∧
      (s.freed ids i = 0 ∨ s.freed ids i < (s.kln.slots.get i).pins →
        (t.kln.slots.get i).state = (s.kln.slots.get i).state) := by
  have ht : Unchanged [] _ t := ht.mono he
  have ranges : u.rmg.ranges = s.rmg.ranges := hu .ranges (by decide)
  have slots : u.kln.slots = s.kln.slots := hu .slots (by decide)
  have same : t.kln.slots = (ids.foldl releaseOne (u, [])).1.kln.slots := ht .slots (by decide)
  have hv : u.VerdictsSound := by rwa [State.VerdictsSound, srv]
  have freed (i : SlotIx) : s.freed ids i = u.freed ids i := by rw [State.freed, State.freed, srv]
  refine ⟨fun h => ?_, fun i r w => ?_⟩
  · obtain ⟨pins, frame⟩ := State.releases_unlocking hv (by rwa [ranges]) ids
    exact ⟨fun i => by rw [same, pins, slots, freed], ((hu.append frame).append ht).mono⟩
  · obtain ⟨-, h⟩ := (w.of_same ranges slots).releases hv ids
    rwa [← same, ← freed, slots] at h

/-- A verdict's deadline is taken, and the verdict that has it leaves the table (R42). -/
theorem execVerdictExpiry_held {s : State} {id : Nat} {v : Verdict} (hp : s.pwc.power ≠ .unpowered)
    (hf : s.HasFallen (.verdict id)) (hv : s.srv.verdicts.find? (fun v => v.id == id) = some v) :
    exec (.verdictExpiry id) s = .next ((s.claimed (.verdict id)).dropVerdict v).settle := by
  obtain ⟨due, taken⟩ := State.takeFallen_eq hf
  have run : exec (.verdictExpiry id) s = execVerdictExpiry id s := rfl
  have held : (s.claimed (.verdict id)).srv.verdicts.find? (fun v => v.id == id) = some v := hv
  simp only [run, execVerdictExpiry, State.occur_of_powered (s := s) (by simpa [State.powered] using hp), taken, held]

/-- The deadline of a verdict no longer held is taken, and nothing else happens. -/
theorem execVerdictExpiry_stale {s : State} {id : Nat} (hp : s.pwc.power ≠ .unpowered) (hf : s.HasFallen (.verdict id))
    (hv : s.srv.verdicts.find? (fun v => v.id == id) = none) :
    exec (.verdictExpiry id) s = .next (s.claimed (.verdict id)).settle := by
  obtain ⟨due, taken⟩ := State.takeFallen_eq hf
  have run : exec (.verdictExpiry id) s = execVerdictExpiry id s := rfl
  have stale : (s.claimed (.verdict id)).srv.verdicts.find? (fun v => v.id == id) = none := hv
  simp only [run, execVerdictExpiry, State.occur_of_powered (s := s) (by simpa [State.powered] using hp), taken, stale]

/-- With its last pin the one slot that a verdict passed is cleared where its range is LOCKING, and not before (R45). -/
theorem State.dropVerdict_one {s : State} {v : Verdict} {i : SlotIx} {o : Occupant} (hv : passedSlots v.segments = [i])
    (occupant : (s.kln.slots.get i).occupant = some o) (slot : (s.rmg.ranges.get o.range).slot = some i)
    (loaded : (s.kln.slots.get i).state = .loaded) (locking : (s.rmg.ranges.get o.range).lock = .locking) :
    ((s.kln.slots.get i).pins = 1 → ((s.dropVerdict v).kln.slots.get i).state = .clearing) ∧
      (2 ≤ (s.kln.slots.get i).pins → ((s.dropVerdict v).kln.slots.get i).state = .loaded) := by
  have drop : s.dropVerdict v = (s.unlist v).unpinned i := by rw [State.dropVerdict_eq, hv]; rfl
  have entry : (s.unlist v).kln.slots.get i = { s.kln.slots.get i with pins := (s.kln.slots.get i).pins - 1 } := by
    rw [State.unlist_slot, hv]
    simp
  have look : (s.unlist v).unpinned i =
      if (s.kln.slots.get i).pins - 1 = 0 then (s.unlist v).clearRequest o.range else s.unlist v := by
    have locking : ((s.unlist v).rmg.ranges.get o.range).lock = .locking := locking
    simp [State.unpinned, entry, occupant, locking]
  rw [drop, look]
  refine ⟨fun last => ?_, fun more => ?_⟩
  · rw [if_pos (by omega), State.clearRequest_sends (s := s.unlist v) slot (.inl (by rw [entry]; exact loaded))]
    simp [State.sendClear, State.onSlot]
  · rw [if_neg (by omega), entry]
    exact loaded

/-- The slot of a LOCKING range that O50 speaks of waits on its clear. -/
theorem State.awaitsClear_of_distinct {s : State} {i : SlotIx} {o : Occupant} (occupant : (s.kln.slots.get i).occupant = some o)
    (slot : (s.rmg.ranges.get o.range).slot = some i) (loaded : (s.kln.slots.get i).state = .loaded)
    (locking : (s.rmg.ranges.get o.range).lock = .locking) (distinct : s.SlotsDistinct)
    (alone : ∀ j p, (s.kln.slots.get j).occupant = some p → p.range = o.range → j = i) : s.AwaitsClear i o.range where
  locking := locking
  slot := slot
  sole q hq := distinct q o.range i hq slot
  occupant := by rw [occupant]; rfl
  alone j hj := by
    obtain ⟨p, hp, same⟩ := Option.map_eq_some_iff.mp hj
    exact alone j p hp same
  state := .inl loaded

/-- Settles O50: each id of RELEASE, and each expiry, drops at most one verdict with its deadline and its pins. -/
theorem verdictsEndByReleaseAndExpiry : Obligations.VerdictsEndByReleaseAndExpiry := by
  refine ⟨fun s h ids hs some_ few => ?_, fun s id hp hf => ?_⟩
  · obtain ⟨t, m, acc, run, taken, hacc, replied, after⟩ := release_ends hs some_ few
    have lnk := State.taken_unchanged taken
    have released := (s.onLnk fun _ => m).releases ids
    rw [← hacc] at released
    obtain ⟨srv, length, result, ended, others, frame⟩ := released
    have table : t.srv = { s.srv with verdicts := s.unreleased ids } := (after .verdicts (by decide)).trans srv
    refine ⟨t, acc.2, run, replied, length, result, by rw [table]; rfl, by rw [table], fun id named held => ?_, ?_,
      fun freed sound counts => ?_, ((lnk.append frame).append after).mono⟩
    · exact (ended id named held).of_othersStand (after.othersStand (mine := fun _ => false)) rfl nofun
    · exact (lnk.othersStand.trans others).trans after.othersStand
    · obtain rfl : freed = s.freed ids := funext counts
      obtain ⟨unlocking, waits⟩ := release_slots sound lnk rfl (hacc ▸ after)
      refine ⟨unlocking, fun i o occupant slot loaded locking distinct alone => ?_⟩
      have awaits := waits i o.range (State.awaitsClear_of_distinct occupant slot loaded locking distinct alone)
      rwa [loaded] at awaits
  · have claim := s.claimed_unchanged (.verdict id)
    have claimed := s.claimed_othersStand (.verdict id)
    cases found : s.srv.verdicts.find? (fun v => v.id == id) with
    | none =>
      have after := (s.claimed (.verdict id)).settle_unchanged
      have unheld : s.srv.verdicts.filter (fun v => !(v.id == id)) = s.srv.verdicts :=
        List.filter_eq_self.mpr fun v hv => by simpa using List.find?_eq_none.mp found v hv
      refine ⟨_, execVerdictExpiry_stale hp hf found,
        (s.claimed_taken _).of_othersStand (after.othersStand (mine := fun _ => false)) rfl nofun,
        claimed.trans after.othersStand, ?_, ?_, nofun, nofun, (claim.append after).mono⟩
      · rw [State.settle_srv, unheld]
        rfl
      · rw [State.settle_srv]
        rfl
    | some v =>
      obtain rfl : v.id = id := by simpa using List.find?_some found
      obtain ⟨u, hu⟩ : ∃ u, u = s.claimed (.verdict v.id) := ⟨_, rfl⟩
      have run := execVerdictExpiry_held hp hf found
      rw [← hu] at run claim claimed
      have after := (u.dropVerdict v).settle_unchanged
      have ended : (u.dropVerdict v).settle.Ended (.verdict v.id) :=
        (u.dropVerdict_ended v).of_othersStand (after.othersStand (mine := fun _ => false)) rfl nofun
      have ranges : u.rmg.ranges = s.rmg.ranges := claim .ranges (by decide)
      have slots : u.kln.slots = s.kln.slots := claim .slots (by decide)
      have same : (u.dropVerdict v).settle.kln.slots = (u.dropVerdict v).kln.slots := after .slots (by decide)
      have table : (u.dropVerdict v).settle.srv = { s.srv with verdicts := s.srv.verdicts.filter fun w => !(w.id == v.id) } := by
        rw [State.settle_srv, State.dropVerdict_srv, hu]
        rfl
      refine ⟨_, run, ended.2, (claimed.trans (u.dropVerdict_othersStand v)).trans after.othersStand, by rw [table],
        by rw [table], ?_, ?_, ((claim.append (u.dropVerdict_unchanged v)).append after).mono⟩
      · rintro w ⟨⟩
        refine ⟨ended.1, fun unlocking => ?_⟩
        have unlist := State.dropVerdict_of_unlocking (s := u) (by rwa [ranges]) v
        rw [unlist] at same after ⊢
        refine ⟨fun i => ?_, ((claim.append (u.unlist_unchanged v)).append after).mono⟩
        rw [same, State.unlist_slot, slots]
        by_cases passed : i ∈ passedSlots v.segments
        · simp [passed]
        · simp [passed]
      · rintro w i o ⟨⟩ one occupant slot loaded locking
        rw [same]
        rw [← ranges] at slot locking
        rw [← slots] at occupant loaded ⊢
        exact State.dropVerdict_one one occupant slot loaded locking

end Sys2Proof.Machine
end

section
/-! PROOFS. What one run of a RESOLVE comes to, and what the runs before it have left of slots and ranges (R34 to R37, R52, R53). -/

namespace Sys2Proof.Machine

/-! ## Allocation (R52) -/

/-- A search that keeps what it has or takes what it meets, and takes the first it meets, finds an element where there is one. -/
theorem foldl_keeps_or_takes {α : Type} {f : Option α → α → Option α} (first : ∀ a, f none a = some a)
    (next : ∀ b a, f (some b) a = some b ∨ f (some b) a = some a) (l : List α) :
    (l.foldl f none = none ↔ l = []) ∧ ∀ a, l.foldl f none = some a → a ∈ l := by
  induction l using List.reverseRecOn with
  | nil => exact ⟨⟨fun _ => rfl, fun _ => rfl⟩, nofun⟩
  | append_singleton l a ih =>
    rw [List.foldl_concat]
    cases found : l.foldl f none with
    | none =>
      rw [first]
      exact ⟨by simp, fun b hb => by simpa using Or.inr hb.symm⟩
    | some b =>
      have here := ih.2 b found
      rcases next b a with kept | taken
      · rw [kept]
        refine ⟨by simp, ?_⟩
        rintro c ⟨⟩
        exact List.mem_append_left _ here
      · rw [taken]
        exact ⟨by simp, fun c hc => by simpa using Or.inr hc.symm⟩

theorem Table.mem_positions {α : Type} {n : Nat} {t : Table α n} {p : α → Bool} {i : Fin n} :
    i ∈ t.positions p ↔ p (t.get i) = true := by
  simp [Table.positions]

theorem Table.lowest_none {α : Type} {n : Nat} {t : Table α n} {p : α → Bool} :
    t.lowest p = none ↔ ∀ i, p (t.get i) = false := by
  simp [Table.lowest]

theorem State.oldestCandidate_spec (s : State) :
    (s.oldestCandidate = none ↔ ∀ i, (s.kln.slots.get i).evictable = false) ∧
      ∀ i, s.oldestCandidate = some i → (s.kln.slots.get i).evictable = true := by
  obtain ⟨none_, some_⟩ := foldl_keeps_or_takes (f := fun (best : Option SlotIx) i => match best with
    | none => some i
    | some b => if (s.kln.slots.get i).lastUse < (s.kln.slots.get b).lastUse then some i else some b) (fun _ => rfl)
    (fun b a => by dsimp only; split <;> simp) (s.kln.slots.positions Slot.evictable)
  refine ⟨none_.trans ?_, fun i hi => Table.mem_positions.mp (some_ i hi)⟩
  simp [List.eq_nil_iff_forall_not_mem, Table.mem_positions]

/-- An allocation takes a slot that is EMPTY, or LOADED without pins. -/
def Slot.takable (l : Slot) : Prop := l.state = .empty ∨ (l.state = .loaded ∧ l.pins = 0)

theorem Slot.evictable_iff {l : Slot} : l.evictable = true ↔ l.state = .loaded ∧ l.pins = 0 := by
  simp [Slot.evictable]

/-- What an allocation is, where it succeeds. -/
theorem State.allocate_some {r : RangeIx} {s t : State} (h : s.allocate r = some t) :
    ∃ i, ((s.kln.slots.get i).state = .empty ∧ t = s.assignSlot i r) ∨
      ((s.kln.slots.get i).evictable = true ∧ t = s.evict i r) := by
  unfold State.allocate at h
  split at h
  · next i free =>
    cases h
    exact ⟨i, .inl ⟨by simpa using (Table.lowest_some free).1, rfl⟩⟩
  · split at h
    · next i oldest =>
      cases h
      exact ⟨i, .inr ⟨s.oldestCandidate_spec.2 i oldest, rfl⟩⟩
    · cases h

theorem State.allocate_none {r : RangeIx} {s : State} : s.allocate r = none ↔ ∀ i, ¬ (s.kln.slots.get i).takable := by
  have free : s.emptySlot = none ↔ ∀ i, (s.kln.slots.get i).state ≠ .empty := by
    rw [State.emptySlot, Table.lowest_none]
    simp
  have oldest := s.oldestCandidate_spec.1
  unfold State.allocate
  cases hf : s.emptySlot with
  | some i =>
    refine ⟨nofun, fun h => ?_⟩
    exact absurd (.inl (by simpa using (Table.lowest_some hf).1)) (h i)
  | none =>
    have full := free.mp hf
    cases ho : s.oldestCandidate with
    | some i =>
      refine ⟨nofun, fun h => ?_⟩
      exact absurd (.inr (Slot.evictable_iff.mp (s.oldestCandidate_spec.2 i ho))) (h i)
    | none =>
      refine ⟨fun _ i => ?_, fun _ => rfl⟩
      rintro (empty | loaded)
      · exact full i empty
      · have := oldest.mp ho i
        rw [Slot.evictable_iff.mpr loaded] at this
        cases this

/-! ## Stage 5 for one run (R34, R35) -/

/-- What a run of the range given comes to: its disposition, the state, and the slots pinned, from `t` with `pinned`. -/
inductive Judged (kind : Access) (full : Bool) (t : State) (pinned : List SlotIx) :
    Option RangeIx → Disposition → State → List SlotIx → Prop
  | beyond : Judged kind full t pinned none .beyond t pinned
  | tabled {r : RangeIx} {d : Disposition} (table : t.tabled r kind = some d) : Judged kind full t pinned (some r) d t pinned
  | noRoom {r : RangeIx} {i : SlotIx} (table : t.tabled r kind = none) (slot : (t.rmg.ranges.get r).slot = some i)
      (loaded : (t.kln.slots.get i).state = .loaded) (room : full = true) :
      Judged kind full t pinned (some r) (.wait .verdictsFull) t pinned
  | again {r : RangeIx} {i : SlotIx} (table : t.tabled r kind = none) (slot : (t.rmg.ranges.get r).slot = some i)
      (loaded : (t.kln.slots.get i).state = .loaded) (room : full = false) (held : i ∈ pinned) :
      Judged kind full t pinned (some r) (.pass i) t pinned
  | pass {r : RangeIx} {i : SlotIx} (table : t.tabled r kind = none) (slot : (t.rmg.ranges.get r).slot = some i)
      (loaded : (t.kln.slots.get i).state = .loaded) (room : full = false) (fresh : i ∉ pinned) :
      Judged kind full t pinned (some r) (.pass i) (t.pin i) (pinned ++ [i])
  | loading {r : RangeIx} {i : SlotIx} (table : t.tabled r kind = none) (slot : (t.rmg.ranges.get r).slot = some i)
      (unloaded : (t.kln.slots.get i).state ≠ .loaded) : Judged kind full t pinned (some r) (.wait .loading) t pinned
  | allocated {r : RangeIx} {u : State} (table : t.tabled r kind = none) (slot : (t.rmg.ranges.get r).slot = none)
      (taken : t.allocate r = some u) : Judged kind full t pinned (some r) (.wait .loading) u pinned
  | refused {r : RangeIx} (table : t.tabled r kind = none) (slot : (t.rmg.ranges.get r).slot = none)
      (none_ : t.allocate r = none) : Judged kind full t pinned (some r) (.wait .slotsPinned) t pinned

/-- The segment that a run with this disposition is. -/
def Piece.judged (p : Piece) (d : Disposition) : Segment :=
  { first := p.first, count := p.count, range := p.range, disposition := d }

theorem Resolving.add_eq (v : Resolving) (p : Piece) (d : Disposition) :
    v.add p d = { v with segments := v.segments ++ [p.judged d] } := rfl

theorem Resolving.slot_judged {kind : Access} {v : Resolving} {p : Piece} {r : RangeIx} (full : Bool) (hr : p.range = some r)
    (table : v.state.tabled r kind = none) : ∃ d u pinned, Judged kind full v.state v.pinned p.range d u pinned ∧
      v.slot full p r = { state := u, segments := v.segments ++ [p.judged d], pinned := pinned } := by
  rw [hr]
  cases slot : (v.state.rmg.ranges.get r).slot with
  | some i =>
    by_cases loaded : (v.state.kln.slots.get i).state = .loaded
    · cases full with
      | true => exact ⟨_, _, _, .noRoom table slot loaded rfl, by simp [Resolving.slot, slot, loaded, Resolving.add_eq]⟩
      | false =>
        by_cases held : i ∈ v.pinned
        · exact ⟨_, _, _, .again table slot loaded rfl held, by simp [Resolving.slot, slot, loaded, held, Resolving.add_eq]⟩
        · exact ⟨_, _, _, .pass table slot loaded rfl held, by simp [Resolving.slot, slot, loaded, held, Resolving.add_eq]⟩
    · exact ⟨_, _, _, .loading table slot loaded, by simp [Resolving.slot, slot, loaded, Resolving.add_eq]⟩
  | none =>
    cases taken : v.state.allocate r with
    | some u => exact ⟨_, _, _, .allocated table slot taken, by simp [Resolving.slot, slot, taken, Resolving.add_eq]⟩
    | none => exact ⟨_, _, _, .refused table slot taken, by simp [Resolving.slot, slot, taken, Resolving.add_eq]⟩

theorem dispose_judged (kind : Access) (full : Bool) (v : Resolving) (p : Piece) :
    ∃ d u pinned, Judged kind full v.state v.pinned p.range d u pinned ∧
      dispose kind full v p = { state := u, segments := v.segments ++ [p.judged d], pinned := pinned } := by
  cases hr : p.range with
  | none => exact ⟨_, _, _, .beyond, by simp [dispose, hr, Resolving.add_eq]⟩
  | some r =>
    cases table : v.state.tabled r kind with
    | some d => exact ⟨_, _, _, .tabled table, by simp [dispose, hr, table, Resolving.add_eq]⟩
    | none =>
      obtain ⟨d, u, pinned, judged, eq⟩ := v.slot_judged full hr table
      exact ⟨d, u, pinned, hr ▸ judged, by simp [dispose, hr, table, eq]⟩

/-! ## What the runs before have left -/

/-- An allocation between `s` and `t` has taken slot `i`. -/
def State.Took (s t : State) (i : SlotIx) : Prop :=
  ((s.kln.slots.get i).state = .empty ∨
    ((s.kln.slots.get i).state = .loaded ∧ (s.kln.slots.get i).pins = 0 ∧ (t.kln.slots.get i).pins = 0)) ∧
  ((t.kln.slots.get i).state = .loading ∨ (t.kln.slots.get i).state = .clearing)

/-- Slot `i` stands from `s` to `t`, but for the pin it has where it is among `pinned`. -/
def State.Left (s t : State) (pinned : List SlotIx) (i : SlotIx) : Prop :=
  t.kln.slots.get i = if i ∈ pinned then
      { s.kln.slots.get i with pins := (s.kln.slots.get i).pins + 1, lastUse := s.tmb.uptime }
    else s.kln.slots.get i

/-- What the runs of a RESOLVE have left of the state `s` that it found, having pinned these slots. -/
structure State.Resolves (s t : State) (pinned : List SlotIx) : Prop where
  frame : Unchanged [.ranges, .slots, .lane] s t
  lnk : t.lnk = s.lnk
  entry : ∀ r, { t.rmg.ranges.get r with slot := none } = { s.rmg.ranges.get r with slot := none }
  loaded : ∀ i ∈ pinned, (s.kln.slots.get i).state = .loaded
  slot : ∀ i, s.Left t pinned i ∨ (i ∉ pinned ∧ s.Took t i)
  gained : ∀ r i, (t.rmg.ranges.get r).slot = some i → (s.rmg.ranges.get r).slot = some i ∨ s.Took t i
  lost : ∀ r i, (s.rmg.ranges.get r).slot = some i →
    (t.rmg.ranges.get r).slot = some i ∨ ((s.kln.slots.get i).state = .loaded ∧ s.Took t i)

/-- No allocation has taken place between `s` and `t`. -/
def State.Idle (s t : State) (pinned : List SlotIx) : Prop := t.rmg.ranges = s.rmg.ranges ∧ ∀ i, s.Left t pinned i

section
variable {s t u : State} {pinned : List SlotIx} {i : SlotIx} {r : RangeIx} {kind : Access}

theorem State.Resolves.refl (s : State) : s.Resolves s [] where
  frame := .refl _ _
  lnk := rfl
  entry _ := rfl
  loaded := nofun
  slot i := .inl (by simp [State.Left])
  gained _ _ h := .inl h
  lost _ _ h := .inl h

theorem State.Idle.refl (s : State) : s.Idle s [] := ⟨rfl, fun i => by simp [State.Left]⟩

/-- The state of a slot that stands. -/
theorem State.Left.state (h : s.Left t pinned i) : (t.kln.slots.get i).state = (s.kln.slots.get i).state := by
  rw [State.Left] at h
  rw [h]
  split <;> rfl

theorem State.Took.not_loaded (h : s.Took t i) : (t.kln.slots.get i).state ≠ .loaded := by
  rcases h.2 with h | h <;> simp [h]

theorem State.Took.not_takable (h : s.Took t i) : ¬ (t.kln.slots.get i).takable := by
  rcases h.2 with h | h <;> simp [Slot.takable, h]

/-- A slot found LOADED stands. -/
theorem State.Resolves.left_of_loaded (h : s.Resolves t pinned) (loaded : (t.kln.slots.get i).state = .loaded) :
    s.Left t pinned i :=
  (h.slot i).resolve_right fun took => took.2.not_loaded loaded

/-- A slot that an allocation can take is one that it could take in `s`, and has no pin of this RESOLVE. -/
theorem State.Resolves.left_of_takable (h : s.Resolves t pinned) (takable : (t.kln.slots.get i).takable) :
    i ∉ pinned ∧ t.kln.slots.get i = s.kln.slots.get i := by
  have left : s.Left t pinned i := (h.slot i).resolve_right fun took => took.2.not_takable takable
  have fresh : i ∉ pinned := fun held => by
    have loaded := h.loaded i held
    rw [State.Left, if_pos held] at left
    rw [Slot.takable, left, loaded] at takable
    rcases takable with empty | ⟨-, pins⟩
    · cases empty
    · exact Nat.succ_ne_zero _ pins
  rw [State.Left, if_neg fresh] at left
  exact ⟨fresh, left⟩

/-- The table of R34 does not see slots. -/
theorem State.tabled_of_entry (he : { t.rmg.ranges.get r with slot := none } = { s.rmg.ranges.get r with slot := none })
    (hl : t.thm.level = s.thm.level) : t.tabled r kind = s.tabled r kind := by
  obtain ⟨x, entry⟩ : ∃ x, t.rmg.ranges.get r = { s.rmg.ranges.get r with slot := x } :=
    ⟨(t.rmg.ranges.get r).slot, congrArg (fun e : RangeEntry => { e with slot := (t.rmg.ranges.get r).slot }) he⟩
  unfold State.tabled State.concealed
  rw [entry, hl]

theorem State.Resolves.tabled (h : s.Resolves t pinned) (r : RangeIx) (kind : Access) : t.tabled r kind = s.tabled r kind :=
  State.tabled_of_entry (h.entry r) (h.frame .level (by decide))

/-! A pin (R39, R51). -/

theorem State.pin_get (i j : SlotIx) (t : State) : (t.pin i).kln.slots.get j =
    if i = j then { t.kln.slots.get i with pins := (t.kln.slots.get i).pins + 1, lastUse := t.tmb.uptime }
    else t.kln.slots.get j := Table.get_set _ _ _ _

theorem State.Took.pin (h : s.Took t i) {j : SlotIx} (hj : j ≠ i) : s.Took (t.pin j) i := by
  rw [State.Took, State.pin_get, if_neg hj]
  exact h

theorem State.Left.pin {j : SlotIx} (h : s.Left t pinned i) (same : t.tmb.uptime = s.tmb.uptime) (fresh : j ∉ pinned) :
    s.Left (t.pin j) (pinned ++ [j]) i := by
  rw [State.Left] at h ⊢
  rw [State.pin_get]
  by_cases hj : j = i
  · subst hj
    rw [if_neg fresh] at h
    simp [h, same]
  · simp [hj, Ne.symm hj, h]

theorem State.Resolves.pin (h : s.Resolves t pinned) (loaded : (t.kln.slots.get i).state = .loaded) (fresh : i ∉ pinned) :
    s.Resolves (t.pin i) (pinned ++ [i]) := by
  have uptime : t.tmb.uptime = s.tmb.uptime := h.frame .uptime (by decide)
  have other {j : SlotIx} (took : s.Took t j) : i ≠ j := by
    rintro rfl
    exact took.not_loaded loaded
  have took {j : SlotIx} (took : s.Took t j) : s.Took (t.pin i) j := took.pin (other took)
  refine ⟨(h.frame.append (t.onSlot_unchanged i _)).mono, h.lnk, h.entry, fun j hj => ?_, fun j => ?_,
    fun r j hs => (h.gained r j hs).imp_right took, fun r j hs => (h.lost r j hs).imp_right fun ⟨l, k⟩ => ⟨l, took k⟩⟩
  · rcases List.mem_append.mp hj with earlier | last
    · exact h.loaded j earlier
    · obtain rfl := List.mem_singleton.mp last
      rw [← (h.left_of_loaded loaded).state]
      exact loaded
  · rcases h.slot j with left | ⟨notHeld, taken⟩
    · exact .inl (left.pin uptime fresh)
    · exact .inr ⟨by simp [notHeld, Ne.symm (other taken)], took taken⟩

theorem State.Idle.pin (h : s.Idle t pinned) (same : t.tmb.uptime = s.tmb.uptime) (fresh : i ∉ pinned) :
    s.Idle (t.pin i) (pinned ++ [i]) := ⟨h.1, fun j => (h.2 j).pin same fresh⟩

/-! An allocation (R52, R53). -/

/-- From `t` to `u` slot `i` is taken for range `r`, which had none; another range may lose it. -/
structure State.Takes (i : SlotIx) (r : RangeIx) (t u : State) : Prop where
  frame : Unchanged [.ranges, .slots, .lane] t u
  lnk : u.lnk = t.lnk
  entry : ∀ q, { u.rmg.ranges.get q with slot := none } = { t.rmg.ranges.get q with slot := none }
  takable : (t.kln.slots.get i).takable
  slot : (u.rmg.ranges.get r).slot = some i
  other : ∀ q, q ≠ r → (u.rmg.ranges.get q).slot = (t.rmg.ranges.get q).slot ∨
    ((t.rmg.ranges.get q).slot = some i ∧ (t.kln.slots.get i).state = .loaded ∧ (u.rmg.ranges.get q).slot = none)
  busy : (u.kln.slots.get i).state = .loading ∨ (u.kln.slots.get i).state = .clearing
  pins : (u.kln.slots.get i).pins = 0
  others : ∀ j, j ≠ i → u.kln.slots.get j = t.kln.slots.get j

theorem State.assignSlot_takes (empty : (t.kln.slots.get i).state = .empty) : State.Takes i r t (t.assignSlot i r) := by
  have entry (q : RangeIx) : (t.assignSlot i r).rmg.ranges.get q =
      if r = q then { t.rmg.ranges.get r with slot := some i } else t.rmg.ranges.get q :=
    State.onRange_get r q (fun e => { e with slot := some i }) _
  have slot (j : SlotIx) : (t.assignSlot i r).kln.slots.get j = if i = j then
      { state := .loading, occupant := some (t.occupantOf r), next := none, pins := 0, lastUse := t.tmb.uptime }
      else t.kln.slots.get j := Table.get_set _ _ _ _
  refine ⟨t.assignSlot_unchanged i r |>.mono, rfl, fun q => ?_, .inl empty, by rw [entry, if_pos rfl], fun q hq => .inl ?_,
    .inl ?_, ?_, fun j hj => ?_⟩
  · rw [entry]
    split
    · next e => rw [e]
    · rfl
  · rw [entry, if_neg (Ne.symm hq)]
  · rw [slot, if_pos rfl]
  · rw [slot, if_pos rfl]
  · rw [slot, if_neg (Ne.symm hj)]

/-- The range whose key slot `i` holds is left without the slot (R53). -/
def State.vacate (i : SlotIx) (t : State) : State :=
  match (t.kln.slots.get i).occupant with
  | some old => t.removeSlotField old.range i
  | none => t

theorem State.vacate_kln (i : SlotIx) (t : State) : (t.vacate i).kln = t.kln := by
  unfold State.vacate
  split <;> rfl

theorem State.vacate_get (i : SlotIx) (t : State) (q : RangeIx) : (t.vacate i).rmg.ranges.get q = t.rmg.ranges.get q ∨
    ((t.rmg.ranges.get q).slot = some i ∧ (t.vacate i).rmg.ranges.get q = { t.rmg.ranges.get q with slot := none }) := by
  unfold State.vacate
  split
  · next old _ =>
    rw [State.removeSlotField, State.onRange_get]
    split
    · next e =>
      subst e
      split
      · next own => exact .inr ⟨own, rfl⟩
      · exact .inl rfl
    · exact .inl rfl
  · exact .inl rfl

theorem State.evict_ranges (i : SlotIx) (r : RangeIx) (t : State) : (t.evict i r).rmg.ranges =
    (t.vacate i).rmg.ranges.set r { (t.vacate i).rmg.ranges.get r with slot := some i } := rfl

theorem State.evict_slots (i : SlotIx) (r : RangeIx) (t : State) : (t.evict i r).kln.slots =
    (t.vacate i).kln.slots.set i { (t.vacate i).kln.slots.get i with
      state := .clearing, next := some (t.occupantOf r), lastUse := t.tmb.uptime } := rfl

theorem State.evict_lnk (i : SlotIx) (r : RangeIx) (t : State) : (t.evict i r).lnk = t.lnk := by
  have same : (t.evict i r).lnk = (t.vacate i).lnk := rfl
  rw [same]
  unfold State.vacate
  split <;> rfl

theorem State.evict_takes (evictable : (t.kln.slots.get i).evictable = true) : State.Takes i r t (t.evict i r) := by
  obtain ⟨loaded, free⟩ := Slot.evictable_iff.mp evictable
  have entry (q : RangeIx) : (t.evict i r).rmg.ranges.get q =
      if r = q then { (t.vacate i).rmg.ranges.get r with slot := some i } else (t.vacate i).rmg.ranges.get q := by
    rw [State.evict_ranges, Table.get_set]
  have slot (j : SlotIx) : (t.evict i r).kln.slots.get j = if i = j then
      { t.kln.slots.get i with state := .clearing, next := some (t.occupantOf r), lastUse := t.tmb.uptime }
      else t.kln.slots.get j := by
    rw [State.evict_slots, State.vacate_kln, Table.get_set]
  refine ⟨t.evict_unchanged i r |>.mono, t.evict_lnk i r, fun q => ?_, .inr ⟨loaded, free⟩, by rw [entry, if_pos rfl],
    fun q hq => ?_, .inr ?_, ?_, fun j hj => ?_⟩
  · have vacated : { (t.vacate i).rmg.ranges.get q with slot := none } = { t.rmg.ranges.get q with slot := none } := by
      rcases t.vacate_get i q with same | ⟨-, same⟩ <;> rw [same]
    rw [entry, ← vacated]
    split
    · next e => rw [e]
    · rfl
  · rw [entry, if_neg (Ne.symm hq)]
    rcases t.vacate_get i q with same | ⟨own, same⟩
    · exact .inl (by rw [same])
    · exact .inr ⟨own, loaded, by rw [same]⟩
  · rw [slot, if_pos rfl]
  · rw [slot, if_pos rfl]
    exact free
  · rw [slot, if_neg (Ne.symm hj)]

/-- An allocation that succeeds takes a slot. -/
theorem State.allocate_takes (h : t.allocate r = some u) : ∃ i, State.Takes i r t u := by
  obtain ⟨i, ⟨empty, rfl⟩ | ⟨evictable, rfl⟩⟩ := State.allocate_some h
  · exact ⟨i, State.assignSlot_takes empty⟩
  · exact ⟨i, State.evict_takes evictable⟩

theorem State.Took.takes {j : SlotIx} (h : s.Took t j) (k : State.Takes i r t u) : s.Took u j := by
  have ne : j ≠ i := by
    rintro rfl
    exact h.not_takable k.takable
  rw [State.Took, k.others j ne]
  exact h

theorem State.Takes.took (k : State.Takes i r t u) (h : s.Resolves t pinned) : s.Took u i := by
  obtain ⟨-, same⟩ := h.left_of_takable k.takable
  have takable := k.takable
  rw [same] at takable
  exact ⟨takable.imp_right fun ⟨loaded, pins⟩ => ⟨loaded, pins, k.pins⟩, k.busy⟩

theorem State.Resolves.takes (h : s.Resolves t pinned) (k : State.Takes i r t u) (unslotted : (t.rmg.ranges.get r).slot = none) :
    s.Resolves u pinned := by
  obtain ⟨fresh, same⟩ := h.left_of_takable k.takable
  have took : s.Took u i := k.took h
  refine ⟨(h.frame.append k.frame).mono, k.lnk.trans h.lnk, fun q => (k.entry q).trans (h.entry q), h.loaded, fun j => ?_,
    fun q j hs => ?_, fun q j hs => ?_⟩
  · by_cases hj : j = i
    · subst hj
      exact .inr ⟨fresh, took⟩
    · refine (h.slot j).imp (fun left => ?_) fun ⟨notHeld, taken⟩ => ⟨notHeld, taken.takes k⟩
      rw [State.Left, k.others j hj]
      exact left
  · by_cases hq : q = r
    · subst hq
      rw [k.slot] at hs
      cases hs
      exact .inr took
    · rcases k.other q hq with stands | ⟨-, -, gone⟩
      · rw [stands] at hs
        exact (h.gained q j hs).imp_right fun taken => taken.takes k
      · rw [gone] at hs
        cases hs
  · rcases h.lost q j hs with stands | ⟨loaded, taken⟩
    · have hq : q ≠ r := by
        rintro rfl
        rw [unslotted] at stands
        cases stands
      rcases k.other q hq with kept | ⟨own, loaded, -⟩
      · exact .inl (kept.trans stands)
      · rw [stands] at own
        cases own
        exact .inr ⟨by rwa [same] at loaded, took⟩
    · exact .inr ⟨loaded, taken.takes k⟩

end

end Sys2Proof.Machine
end

section
/-! PROOFS. Stage 5 of a RESOLVE, run by run: what each segment's disposition says of the state that the RESOLVE found (R34 to R37). -/

namespace Sys2Proof.Machine

/-! ## Segments -/

theorem mem_passedSlots {segments : List Segment} {i : SlotIx} :
    i ∈ passedSlots segments ↔ ∃ g ∈ segments, g.disposition = .pass i := by
  simp [passedSlots]

theorem mem_passedSlots_snoc {segments : List Segment} {g : Segment} {i : SlotIx} :
    i ∈ passedSlots (segments ++ [g]) ↔ i ∈ passedSlots segments ∨ g.disposition = .pass i := by
  simp only [mem_passedSlots, List.mem_append, List.mem_singleton]
  constructor
  · rintro ⟨e, he | rfl, pass⟩
    · exact .inl ⟨e, he, pass⟩
    · exact .inr pass
  · rintro (⟨e, he, pass⟩ | pass)
    · exact ⟨e, .inl he, pass⟩
    · exact ⟨g, .inr rfl, pass⟩

/-- The table of R34 passes nothing. -/
theorem State.tabled_refuses {s : State} {r : RangeIx} {kind : Access} {d : Disposition} (h : s.tabled r kind = some d)
    (i : SlotIx) : d ≠ .pass i := by
  rintro rfl
  unfold State.tabled at h
  dsimp only at h
  split at h
  · cases kind <;> cases h
  · split at h
    · cases kind <;> cases h
    · split at h <;> cases h

/-- Every permitted range of the segments but the one exempt has a slot as the RESOLVE finds it. -/
def State.SlottedBut (s : State) (kind : Access) (exempt : Option RangeIx) (segments : List Segment) : Prop :=
  ∀ e ∈ segments, ∀ q, e.range = some q → exempt ≠ some q → s.tabled q kind = none → (s.rmg.ranges.get q).slot.isSome

/-- What a segment's disposition says of the state that the RESOLVE found, with the segments before it. -/
structure State.Judges (s : State) (kind : Access) (full : Bool) (before : List Segment) (g : Segment) : Prop where
  beyond : g.range = none → g.disposition = .beyond
  tabled : ∀ r d, g.range = some r → s.tabled r kind = some d → g.disposition = d
  pass : ∀ i, g.disposition = .pass i → ∃ r, g.range = some r ∧ s.tabled r kind = none ∧
    (s.rmg.ranges.get r).slot = some i ∧ (s.kln.slots.get i).state = .loaded ∧ full = false
  loaded : ∀ r, g.range = some r → s.tabled r kind = none → ∀ i, (s.rmg.ranges.get r).slot = some i →
    (s.kln.slots.get i).state = .loaded → (1 ≤ (s.kln.slots.get i).pins ∨ s.SlottedBut kind none before) →
    g.disposition = if full then .wait .verdictsFull else .pass i
  unloaded : ∀ r, g.range = some r → s.tabled r kind = none → ∀ i, (s.rmg.ranges.get r).slot = some i →
    (s.kln.slots.get i).state ≠ .loaded → g.disposition = .wait .loading
  unslotted : ∀ r, g.range = some r → s.tabled r kind = none → (s.rmg.ranges.get r).slot = none →
    (g.disposition = .wait .loading ∨ g.disposition = .wait .slotsPinned) ∧
      (s.SlottedBut kind (some r) before → (g.disposition = .wait .loading ↔
        ∃ i, (s.kln.slots.get i).state = .empty ∨
          ((s.kln.slots.get i).state = .loaded ∧ (s.kln.slots.get i).pins = 0 ∧ i ∉ passedSlots before)))

/-- The judgement of a permitted range's segment. -/
structure State.JudgesPermitted (s : State) (kind : Access) (full : Bool) (before : List Segment) (r : RangeIx) (d : Disposition) :
    Prop where
  pass : ∀ i, d = .pass i → (s.rmg.ranges.get r).slot = some i ∧ (s.kln.slots.get i).state = .loaded ∧ full = false
  loaded : ∀ i, (s.rmg.ranges.get r).slot = some i → (s.kln.slots.get i).state = .loaded →
    (1 ≤ (s.kln.slots.get i).pins ∨ s.SlottedBut kind none before) → d = if full then .wait .verdictsFull else .pass i
  unloaded : ∀ i, (s.rmg.ranges.get r).slot = some i → (s.kln.slots.get i).state ≠ .loaded → d = .wait .loading
  unslotted : (s.rmg.ranges.get r).slot = none → (d = .wait .loading ∨ d = .wait .slotsPinned) ∧
    (s.SlottedBut kind (some r) before → (d = .wait .loading ↔
      ∃ i, (s.kln.slots.get i).state = .empty ∨
        ((s.kln.slots.get i).state = .loaded ∧ (s.kln.slots.get i).pins = 0 ∧ i ∉ passedSlots before)))

theorem State.JudgesPermitted.judges {s : State} {kind : Access} {full : Bool} {before : List Segment} {p : Piece} {r : RangeIx}
    {d : Disposition} (h : s.JudgesPermitted kind full before r d) (hr : p.range = some r) (table : s.tabled r kind = none) :
    s.Judges kind full before (p.judged d) where
  beyond hn := by rw [show p.range = none from hn] at hr; cases hr
  tabled q e hq he := by
    rw [show p.range = some q from hq] at hr
    cases hr
    rw [table] at he
    cases he
  pass i hi := ⟨r, hr, table, h.pass i hi⟩
  loaded q hq _ := by
    rw [show p.range = some q from hq] at hr
    cases hr
    exact h.loaded
  unloaded q hq _ := by
    rw [show p.range = some q from hq] at hr
    cases hr
    exact h.unloaded
  unslotted q hq _ := by
    rw [show p.range = some q from hq] at hr
    cases hr
    exact h.unslotted

/-- What the runs disposed of so far have come to. -/
structure State.Disposed (kind : Access) (full : Bool) (s : State) (v : Resolving) : Prop where
  resolves : s.Resolves v.state v.pinned
  pinned : ∀ i, i ∈ v.pinned ↔ i ∈ passedSlots v.segments
  quiet : ∀ exempt, s.SlottedBut kind exempt v.segments → s.Idle v.state v.pinned ∨
    ∃ r j, exempt = some r ∧ (v.state.rmg.ranges.get r).slot = some j ∧ s.Took v.state j
  judged : ∀ (k : Nat) g, v.segments[k]? = some g → s.Judges kind full (v.segments.take k) g

section
variable {s : State} {kind : Access} {full : Bool} {v : Resolving} {t : State} {pinned : List SlotIx} {r : RangeIx} {i : SlotIx}

/-- The slot that a permitted run finds LOADED is its range's slot as the RESOLVE finds it, and LOADED then. -/
theorem State.Resolves.found (h : s.Resolves t pinned) (slot : (t.rmg.ranges.get r).slot = some i)
    (loaded : (t.kln.slots.get i).state = .loaded) :
    (s.rmg.ranges.get r).slot = some i ∧ (s.kln.slots.get i).state = .loaded :=
  ⟨(h.gained r i slot).resolve_right fun took => took.not_loaded loaded, by rw [← (h.left_of_loaded loaded).state]; exact loaded⟩

/-- A slot that an allocation took has no pin of this RESOLVE. -/
theorem State.Resolves.not_pinned (h : s.Resolves t pinned) (took : s.Took t i) : i ∉ pinned := fun held => by
  rcases h.slot i with left | ⟨fresh, -⟩
  · exact took.not_loaded (left.state.trans (h.loaded i held))
  · exact fresh held

/-- A slot that an allocation took is one that it could take as the RESOLVE found it. -/
theorem State.Took.takable (h : s.Took t i) : (s.kln.slots.get i).takable :=
  h.1.imp_right fun ⟨loaded, pins, _⟩ => ⟨loaded, pins⟩

/-- A LOADED slot of a pinned range, or where no allocation has taken place, is not taken. -/
theorem State.Disposed.not_took (h : s.Disposed kind full v) (loaded : (s.kln.slots.get i).state = .loaded)
    (hp : 1 ≤ (s.kln.slots.get i).pins ∨ s.SlottedBut kind none v.segments) : ¬ s.Took v.state i := by
  intro took
  rcases hp with pins | slotted
  · rcases took.takable with empty | ⟨-, free⟩
    · rw [loaded] at empty
      cases empty
    · omega
  · rcases h.quiet none slotted with idle | ⟨_, _, none_, -⟩
    · exact took.not_loaded ((idle.2 i).state.trans loaded)
    · cases none_

/-- So a range that has such a slot still has it, LOADED. -/
theorem State.Disposed.stands (h : s.Disposed kind full v) (slot : (s.rmg.ranges.get r).slot = some i)
    (loaded : (s.kln.slots.get i).state = .loaded) (hp : 1 ≤ (s.kln.slots.get i).pins ∨ s.SlottedBut kind none v.segments) :
    (v.state.rmg.ranges.get r).slot = some i ∧ (v.state.kln.slots.get i).state = .loaded := by
  have untaken := h.not_took loaded hp
  refine ⟨(h.resolves.lost r i slot).resolve_right fun lost => untaken lost.2, ?_⟩
  exact ((h.resolves.slot i).resolve_right fun taken => untaken taken.2).state.trans loaded

/-- A slot that is not LOADED stays with its range, and does not become LOADED. -/
theorem State.Resolves.stands_unloaded (h : s.Resolves t pinned) (slot : (s.rmg.ranges.get r).slot = some i)
    (unloaded : (s.kln.slots.get i).state ≠ .loaded) :
    (t.rmg.ranges.get r).slot = some i ∧ (t.kln.slots.get i).state ≠ .loaded :=
  ⟨(h.lost r i slot).resolve_right fun lost => unloaded lost.1, fun loaded => unloaded (by
    rw [← (h.left_of_loaded loaded).state]
    exact loaded)⟩

/-- Where an allocation took a slot, there was one to take. -/
theorem State.Disposed.offered (h : s.Disposed kind full v) (takable : (s.kln.slots.get i).takable) (fresh : i ∉ v.pinned) :
    ∃ i, (s.kln.slots.get i).state = .empty ∨
      ((s.kln.slots.get i).state = .loaded ∧ (s.kln.slots.get i).pins = 0 ∧ i ∉ passedSlots v.segments) := by
  rw [h.pinned] at fresh
  exact ⟨i, takable.imp_right fun ⟨loaded, pins⟩ => ⟨loaded, pins, fresh⟩⟩

/-- While no allocation has taken place, a slot offered as the RESOLVE found it is there to take. -/
theorem State.Disposed.takable (h : s.Disposed kind full v) (idle : s.Idle v.state v.pinned)
    (offered : (s.kln.slots.get i).state = .empty ∨
      ((s.kln.slots.get i).state = .loaded ∧ (s.kln.slots.get i).pins = 0 ∧ i ∉ passedSlots v.segments)) :
    (v.state.kln.slots.get i).takable := by
  have left := idle.2 i
  have fresh : i ∉ v.pinned := fun held => by
    rcases offered with empty | ⟨-, -, fresh⟩
    · rw [h.resolves.loaded i held] at empty
      cases empty
    · exact fresh ((h.pinned i).mp held)
  rw [State.Left, if_neg fresh] at left
  rw [left]
  exact offered.imp_right fun ⟨loaded, pins, _⟩ => ⟨loaded, pins⟩

/-- What a run comes to is what its judgement says of the state that the RESOLVE found. -/
theorem State.Disposed.judges (h : s.Disposed kind full v) {p : Piece} {d : Disposition} {u : State}
    (judged : Judged kind full v.state v.pinned p.range d u pinned) : s.Judges kind full v.segments (p.judged d) := by
  have R := h.resolves
  generalize hr : p.range = range at judged
  cases judged with
  | beyond =>
    have outside {q : RangeIx} (hq : (p.judged .beyond).range = some q) : False := by
      rw [show p.range = some q from hq] at hr
      cases hr
    exact ⟨fun _ => rfl, fun q _ hq => (outside hq).elim, nofun, fun q hq => (outside hq).elim, fun q hq => (outside hq).elim,
      fun q hq => (outside hq).elim⟩
  | @tabled r d table =>
    rw [R.tabled] at table
    have other {q : RangeIx} (hq : (p.judged d).range = some q) : s.tabled q kind = some d := by
      rw [show p.range = some q from hq] at hr
      cases hr
      exact table
    have refused {q : RangeIx} (hq : (p.judged d).range = some q) (permitted : s.tabled q kind = none) : False := by
      rw [other hq] at permitted
      cases permitted
    refine ⟨fun hn => ?_, fun q e hq he => ?_, fun i pass => absurd pass (State.tabled_refuses table i),
      fun q hq permitted => (refused hq permitted).elim, fun q hq permitted => (refused hq permitted).elim,
      fun q hq permitted => (refused hq permitted).elim⟩
    · rw [show p.range = none from hn] at hr
      cases hr
    · rw [other hq] at he
      exact Option.some.inj he
  | @noRoom r i table slot loaded room =>
    rw [R.tabled] at table
    obtain ⟨slot', loaded'⟩ := R.found slot loaded
    refine State.JudgesPermitted.judges ⟨nofun, fun _ _ _ _ => by simp [room], fun j hj unloaded => ?_, fun hn => ?_⟩ hr table
    · rw [slot'] at hj
      cases hj
      exact absurd loaded' unloaded
    · rw [slot'] at hn
      cases hn
  | @again r i table slot loaded room held =>
    rw [R.tabled] at table
    obtain ⟨slot', loaded'⟩ := R.found slot loaded
    refine State.JudgesPermitted.judges ⟨?_, ?_, fun j hj unloaded => ?_, fun hn => ?_⟩ hr table
    · rintro j ⟨⟩
      exact ⟨slot', loaded', room⟩
    · intro j hj _ _
      rw [slot'] at hj
      cases hj
      simp [room]
    · rw [slot'] at hj
      cases hj
      exact absurd loaded' unloaded
    · rw [slot'] at hn
      cases hn
  | @pass r i table slot loaded room fresh =>
    rw [R.tabled] at table
    obtain ⟨slot', loaded'⟩ := R.found slot loaded
    refine State.JudgesPermitted.judges ⟨?_, ?_, fun j hj unloaded => ?_, fun hn => ?_⟩ hr table
    · rintro j ⟨⟩
      exact ⟨slot', loaded', room⟩
    · intro j hj _ _
      rw [slot'] at hj
      cases hj
      simp [room]
    · rw [slot'] at hj
      cases hj
      exact absurd loaded' unloaded
    · rw [slot'] at hn
      cases hn
  | @loading r i table slot unloaded =>
    rw [R.tabled] at table
    refine State.JudgesPermitted.judges ⟨nofun, fun j hj loaded hp => ?_, fun _ _ _ => rfl,
      fun hn => ⟨.inl rfl, fun _ => ?_⟩⟩ hr table
    · obtain ⟨slot', loaded'⟩ := h.stands hj loaded hp
      rw [slot] at slot'
      cases slot'
      exact absurd loaded' unloaded
    · have took : s.Took v.state i := (R.gained r i slot).resolve_left (by simp [hn])
      exact iff_of_true rfl (h.offered took.takable (R.not_pinned took))
  | @allocated r u table slot taken =>
    rw [R.tabled] at table
    obtain ⟨i, takes⟩ := State.allocate_takes taken
    refine State.JudgesPermitted.judges ⟨nofun, fun j hj loaded hp => ?_, fun _ _ _ => rfl,
      fun _ => ⟨.inl rfl, fun _ => ?_⟩⟩ hr table
    · obtain ⟨slot', -⟩ := h.stands hj loaded hp
      rw [slot] at slot'
      cases slot'
    · obtain ⟨fresh, same⟩ := R.left_of_takable takes.takable
      exact iff_of_true rfl (h.offered (same ▸ takes.takable) fresh)
  | @refused r table slot none_ =>
    rw [R.tabled] at table
    refine State.JudgesPermitted.judges ⟨nofun, fun j hj loaded hp => ?_, fun j hj unloaded => ?_,
      fun _ => ⟨.inr rfl, fun slotted => iff_of_false nofun ?_⟩⟩ hr table
    · obtain ⟨slot', -⟩ := h.stands hj loaded hp
      rw [slot] at slot'
      cases slot'
    · obtain ⟨slot', -⟩ := R.stands_unloaded hj unloaded
      rw [slot] at slot'
      cases slot'
    · rintro ⟨i, offered⟩
      rcases h.quiet (some r) slotted with idle | ⟨q, j, own, held, -⟩
      · exact State.allocate_none.mp none_ i (h.takable idle offered)
      · cases own
        rw [slot] at held
        cases held

/-! ## From run to run -/

/-- What a run leaves of the state that the RESOLVE found. -/
theorem State.Resolves.judged (h : s.Resolves t pinned) {range : Option RangeIx} {d : Disposition} {u : State} {held : List SlotIx}
    (judged : Judged kind full t pinned range d u held) : s.Resolves u held := by
  cases judged with
  | pass _ _ loaded _ fresh => exact h.pin loaded fresh
  | allocated _ slot taken =>
    obtain ⟨i, takes⟩ := State.allocate_takes taken
    exact h.takes takes slot
  | _ => exact h

/-- A run pins the slot that it passes, and no other. -/
theorem Judged.mem_pinned {range : Option RangeIx} {d : Disposition} {u : State} {held : List SlotIx}
    (judged : Judged kind full t pinned range d u held) (i : SlotIx) : i ∈ held ↔ i ∈ pinned ∨ d = .pass i := by
  cases judged with
  | tabled table => simp [State.tabled_refuses table i]
  | again _ _ _ _ there =>
    refine ⟨.inl, ?_⟩
    rintro (earlier | same)
    · exact earlier
    · exact Disposition.pass.inj same ▸ there
  | pass => simp [eq_comm]
  | _ => simp

/-- A run leaves a slot that was taken before with the range that took it. -/
theorem Judged.keeps_took {range : Option RangeIx} {d : Disposition} {u : State} {held : List SlotIx} {j : SlotIx}
    (judged : Judged kind full t pinned range d u held) (slot : (t.rmg.ranges.get r).slot = some j) (took : s.Took t j) :
    (u.rmg.ranges.get r).slot = some j ∧ s.Took u j := by
  cases judged with
  | @pass q i _ _ loaded =>
    refine ⟨slot, took.pin ?_⟩
    rintro rfl
    exact took.not_loaded loaded
  | @allocated q _ _ unslotted taken =>
    obtain ⟨i, takes⟩ := State.allocate_takes taken
    have other : r ≠ q := by
      rintro rfl
      rw [unslotted] at slot
      cases slot
    refine ⟨?_, took.takes takes⟩
    rcases takes.other r other with same | ⟨own, loaded, -⟩
    · exact same.trans slot
    · rw [slot] at own
      cases own
      exact absurd loaded took.not_loaded
  | _ => exact ⟨slot, took⟩

/-- While no allocation has taken place, only a run of a permitted range without a slot makes one, for itself. -/
theorem State.Idle.judged (idle : s.Idle t pinned) (R : s.Resolves t pinned) {range : Option RangeIx} {d : Disposition} {u : State}
    {held : List SlotIx} (judged : Judged kind full t pinned range d u held) :
    s.Idle u held ∨ ∃ r j, range = some r ∧ (s.rmg.ranges.get r).slot = none ∧ s.tabled r kind = none ∧
      (u.rmg.ranges.get r).slot = some j ∧ s.Took u j := by
  cases judged with
  | pass _ _ _ _ fresh => exact .inl (idle.pin (R.frame .uptime (by decide)) fresh)
  | @allocated r _ table unslotted taken =>
    obtain ⟨i, takes⟩ := State.allocate_takes taken
    rw [R.tabled] at table
    rw [idle.1] at unslotted
    exact .inr ⟨r, i, rfl, unslotted, table, takes.slot, takes.took R⟩
  | _ => exact .inl idle

theorem State.SlottedBut.of_snoc {exempt : Option RangeIx} {segments : List Segment} {g : Segment}
    (h : s.SlottedBut kind exempt (segments ++ [g])) : s.SlottedBut kind exempt segments := fun e he =>
  h e (List.mem_append_left _ he)

/-- A property of each element with those before it, and of one element more. -/
theorem forall_take_snoc {α : Type} {P : List α → α → Prop} {l : List α} {a : α}
    (h : ∀ (k : Nat) b, l[k]? = some b → P (l.take k) b) (ha : P l a) :
    ∀ (k : Nat) b, (l ++ [a])[k]? = some b → P ((l ++ [a]).take k) b := by
  intro k b hb
  rcases Nat.lt_trichotomy k l.length with lt | rfl | gt
  · rw [List.getElem?_append_left lt] at hb
    rw [List.take_append_of_le_length lt.le]
    exact h k b hb
  · rw [List.getElem?_append_right (Nat.le_refl _), Nat.sub_self] at hb
    cases hb
    rw [List.take_append_of_le_length (Nat.le_refl _), List.take_length]
    exact ha
  · rw [List.getElem?_eq_none (by simpa using gt)] at hb
    cases hb

theorem State.Disposed.dispose (h : s.Disposed kind full v) (p : Piece) : s.Disposed kind full (dispose kind full v p) := by
  obtain ⟨d, u, held, judged, eq⟩ := dispose_judged kind full v p
  rw [eq]
  refine ⟨h.resolves.judged judged, fun i => ?_, fun exempt slotted => ?_, forall_take_snoc h.judged (h.judges judged)⟩
  · rw [judged.mem_pinned, h.pinned, mem_passedSlots_snoc]
    rfl
  · rcases h.quiet exempt slotted.of_snoc with idle | ⟨r, j, own, slot, took⟩
    · refine (idle.judged h.resolves judged).imp_right ?_
      rintro ⟨r, j, range, unslotted, table, slot, took⟩
      refine ⟨r, j, ?_, slot, took⟩
      by_contra other
      have slotted := slotted (p.judged d) (List.mem_append_right _ (List.mem_singleton_self _)) r range other table
      rw [unslotted] at slotted
      cases slotted
    · exact .inr ⟨r, j, own, judged.keeps_took slot took⟩

/-- The runs of a RESOLVE, disposed of in their order. -/
theorem State.disposed (s : State) (kind : Access) (full : Bool) (ps : List Piece) :
    s.Disposed kind full (ps.foldl (Machine.dispose kind full) { state := s, segments := [], pinned := [] }) := by
  induction ps using List.reverseRecOn with
  | nil => exact ⟨.refl s, fun i => by simp [mem_passedSlots], fun _ _ => .inl (.refl s), nofun⟩
  | append_singleton ps p ih =>
    rw [List.foldl_concat]
    exact ih.dispose p

theorem disposed_segments (kind : Access) (full : Bool) (ps : List Piece) (v : Resolving) :
    (ps.foldl (Machine.dispose kind full) v).segments.map (fun g => (g.first, g.count, g.range)) =
      v.segments.map (fun g => (g.first, g.count, g.range)) ++ ps.map fun p => (p.first, p.count, p.range) := by
  induction ps generalizing v with
  | nil => simp
  | cons p ps ih =>
    obtain ⟨d, u, held, -, eq⟩ := dispose_judged kind full v p
    rw [List.foldl_cons, ih, eq]
    simp [Piece.judged]

end

end Sys2Proof.Machine
end

section
/-! PROOFS. RESOLVE taken up: the id of its verdict, the verdict entered, and the statement (R28 to R41). -/

namespace Sys2Proof.Machine

/-! ## Ids (R38) -/

theorem nextId_bounds (id : Nat) : 1 ≤ nextId id ∧ nextId id ≤ 65535 := by
  unfold nextId
  split <;> omega

/-- The ids that follow one another go round 1 to 65,535. -/
theorem nextId_iterate (id k : Nat) : nextId^[k + 1] id = (nextId id - 1 + k) % 65535 + 1 := by
  have bounds := nextId_bounds id
  induction k with
  | zero =>
    rw [Function.iterate_one]
    omega
  | succ k ih =>
    rw [Function.iterate_succ_apply', ih, nextId]
    split <;> omega

theorem freeId_bounds (held : List Nat) (fuel id : Nat) : 1 ≤ freeId held fuel id ∧ freeId held fuel id ≤ 65535 := by
  induction fuel generalizing id with
  | zero => exact nextId_bounds id
  | succ n ih =>
    unfold freeId
    split
    · exact ih _
    · exact nextId_bounds id

/-- The search ends at a free id, or it has met held ids alone. -/
theorem freeId_free_or (held : List Nat) (fuel id : Nat) :
    freeId held fuel id ∉ held ∨ ∀ k ≤ fuel, nextId^[k + 1] id ∈ held := by
  induction fuel generalizing id with
  | zero =>
    by_cases there : nextId id ∈ held
    · refine .inr fun k hk => ?_
      obtain rfl := Nat.le_zero.mp hk
      exact there
    · exact .inl there
  | succ n ih =>
    unfold freeId
    split
    · next there =>
      refine (ih (nextId id)).imp_right fun all k hk => ?_
      cases k with
      | zero => simpa using there
      | succ k => exact all k (by omega)
    · next free => exact .inl (by simpa using free)

/-- With at most as many ids held as the search may skip, the id found is free. -/
theorem freeId_free {held : List Nat} {fuel : Nat} (few : held.length ≤ fuel) (bound : fuel < 65535) (id : Nat) :
    freeId held fuel id ∉ held := by
  refine (freeId_free_or held fuel id).resolve_right fun all => ?_
  have distinct : Set.InjOn (fun k => nextId^[k + 1] id) (Finset.range (fuel + 1)) := by
    intro j hj k hk same
    have hj : j < fuel + 1 := Finset.mem_range.mp hj
    have hk : k < fuel + 1 := Finset.mem_range.mp hk
    simp only [nextId_iterate] at same
    omega
  have inside : (Finset.range (fuel + 1)).image (fun k => nextId^[k + 1] id) ⊆ held.toFinset := by
    intro a ha
    obtain ⟨k, hk, rfl⟩ := Finset.mem_image.mp ha
    exact List.mem_toFinset.mpr (all k (Nat.lt_succ_iff.mp (Finset.mem_range.mp hk)))
  have card := Finset.card_le_card inside
  rw [Finset.card_image_of_injOn distinct, Finset.card_range] at card
  have := held.toFinset_card_le
  omega

/-! ## The verdict entered (R38, R39, R41) -/

theorem mem_insertDeadline {d e : Deadline} {l : List Deadline} : e ∈ insertDeadline d l ↔ e = d ∨ e ∈ l := by
  induction l with
  | nil => simp [insertDeadline]
  | cons a l ih =>
    unfold insertDeadline
    split
    · simp
    · simp only [List.mem_cons, ih]
      tauto

theorem find?_insertDeadline {d : Deadline} {l : List Deadline} (h : ∀ e ∈ l, e.purpose ≠ d.purpose) :
    (insertDeadline d l).find? (fun e => e.purpose == d.purpose) = some d := by
  induction l with
  | nil => simp [insertDeadline]
  | cons a l ih =>
    obtain ⟨ha, hl⟩ := List.forall_mem_cons.mp h
    unfold insertDeadline
    split
    · simp
    · simp [ha, ih hl]

theorem State.enter_deadline (p : Purpose) (due : Nat) (s : State) : (s.enter p due).deadline p = some due := by
  have found := find?_insertDeadline (d := { purpose := p, due := due })
    (l := s.tmb.deadlines.filter fun d => !(d.purpose == p)) fun e he => by simpa using (List.mem_filter.mp he).2
  exact congrArg (Option.map Deadline.due) found

theorem State.enter_othersStand (p : Purpose) (due : Nat) (s : State) : s.OthersStand (· == p) (s.enter p due) := by
  intro d hd _
  have other : d.purpose ≠ p := by simpa using hd
  have ne : d ≠ { purpose := p, due := due } := fun e => other (e ▸ rfl)
  refine ⟨?_, Iff.rfl⟩
  have list : (s.enter p due).tmb.deadlines =
      insertDeadline { purpose := p, due := due } (s.tmb.deadlines.filter fun d => !(d.purpose == p)) := rfl
  rw [list, mem_insertDeadline, List.mem_filter]
  simp [other, ne]

/-- A verdict's deadline at the end of an occurrence. -/
theorem Unchanged.deadline {e : List Part} {p : Purpose} {s t : State} (h : Unchanged e s t) (hp : p ≠ .absence)
    (he : Part.deadlines ∉ e := by decide) : t.deadline p = s.deadline p := by
  have same : t.tmb.otherDeadlines = s.tmb.otherDeadlines := h .deadlines he
  rw [State.deadline_eq_other hp, State.deadline_eq_other hp, same]

theorem State.issue_unchanged (id : Nat) (segments : List Segment) (s : State) :
    Unchanged [.verdicts, .deadlines, .fallen] s (s.issue id segments) := by
  have srv (f : Srv → Srv) : Unchanged [.verdicts] s (s.onSrv f) := by
    intro p hp; cases p <;> simp_all [Part.same]
  exact ((srv _).append (State.enter_unchanged _ _ _)).mono

/-! ## RESOLVE -/

/-- What stage 5 comes to over the runs kept (R33 to R37). -/
def State.kept (start n : Nat) (kind : Access) (s : State) : Resolving :=
  ((s.pieces start n).take 8).foldl (dispose kind (decide (32 ≤ s.srv.verdicts.length)))
    { state := s, segments := [], pinned := [] }

theorem State.kept_disposed (start n : Nat) (kind : Access) (s : State) :
    s.Disposed kind (decide (32 ≤ s.srv.verdicts.length)) (s.kept start n kind) := s.disposed _ _ _

theorem State.kept_segments (start n : Nat) (kind : Access) (s : State) :
    (s.kept start n kind).segments.map (fun g => (g.first, g.count, g.range)) =
      ((s.pieces start n).take 8).map fun p => (p.first, p.count, p.range) := disposed_segments _ _ _ _

/-- The id and the lifetime that a RESOLVE answers, and the state with its verdict, if it passes (R38 to R41). -/
structure State.Issues (s u : State) (segments : List Segment) (id : Nat) (lifetime : Option Nat) (t : State) : Prop where
  none_ : segments.any Segment.passes = false → id = 0 ∧ lifetime = none ∧ t = u
  some_ : segments.any Segment.passes = true → 1 ≤ id ∧ id ≤ 65535 ∧ id ∉ s.srv.verdicts.map Verdict.id ∧
    lifetime = some s.sto.policy.verdictLifetime ∧ t = u.issue id segments

theorem State.resolve_issues {s : State} (hv : s.VerdictsSound) (h : Header) (start n : Nat) (kind : Access) :
    ∃ t id lifetime, s.Issues (s.kept start n kind).state (s.kept start n kind).segments id lifetime t ∧
      s.resolve h start n kind = t.answerOk 0x30 h (.resolved s.rmg.mapGen id lifetime
        (((s.pieces start n).drop 8).head?.map Piece.first) (s.kept start n kind).segments) := by
  obtain ⟨few, -, -⟩ := hv
  unfold State.resolve
  change ∃ t id lifetime, _ ∧ (if (s.kept start n kind).segments.any Segment.passes then _ else _) = _
  cases passes : (s.kept start n kind).segments.any Segment.passes with
  | true =>
    obtain ⟨least, most⟩ := freeId_bounds (s.srv.verdicts.map Verdict.id) 32 s.srv.lastId
    have free := freeId_free (held := s.srv.verdicts.map Verdict.id) (fuel := 32) (by simpa using few) (by omega) s.srv.lastId
    exact ⟨_, _, _, ⟨fun h => by simp [passes] at h, fun _ => ⟨least, most, free, rfl, rfl⟩⟩, rfl⟩
  | false => exact ⟨_, _, _, ⟨fun _ => ⟨rfl, rfl, rfl⟩, fun h => by simp [passes] at h⟩, rfl⟩

section
variable {s u t : State} {segments : List Segment} {id : Nat} {lifetime : Option Nat}

theorem State.Issues.cases (h : s.Issues u segments id lifetime t) : t = u ∨ t = u.issue id segments := by
  cases passes : segments.any Segment.passes with
  | true => exact .inr (h.some_ passes).2.2.2.2
  | false => exact .inl (h.none_ passes).2.2

theorem State.Issues.unchanged (h : s.Issues u segments id lifetime t) : Unchanged [.verdicts, .deadlines, .fallen] u t := by
  rcases h.cases with rfl | rfl
  · exact .refl _ _
  · exact u.issue_unchanged id segments

theorem State.Issues.lnk (h : s.Issues u segments id lifetime t) : t.lnk = u.lnk := by
  rcases h.cases with rfl | rfl <;> rfl

theorem State.Issues.othersStand (h : s.Issues u segments id lifetime t) : u.OthersStand (· == .verdict id) t := by
  rcases h.cases with rfl | rfl
  · exact .refl _ _
  · exact State.enter_othersStand _ _ (u.onSrv _)

end

/-- The pins of a slot that a RESOLVE passes (R39, R51). -/
theorem State.Resolves.passed {s t : State} {pinned : List SlotIx} (h : s.Resolves t pinned) {i : SlotIx} (hi : i ∈ pinned) :
    (t.kln.slots.get i).pins = (s.kln.slots.get i).pins + 1 ∧ (t.kln.slots.get i).lastUse = s.tmb.uptime ∧
      (t.kln.slots.get i).state = .loaded := by
  have left : s.Left t pinned i := (h.slot i).resolve_right fun taken => taken.1 hi
  refine ⟨?_, ?_, left.state.trans (h.loaded i hi)⟩
  all_goals rw [State.Left, if_pos hi] at left; rw [left]

/-- The pins of any other slot that is not EMPTY. -/
theorem State.Resolves.unpassed {s t : State} {pinned : List SlotIx} (h : s.Resolves t pinned) {i : SlotIx} (hi : i ∉ pinned)
    (filled : (s.kln.slots.get i).state ≠ .empty) : (t.kln.slots.get i).pins = (s.kln.slots.get i).pins := by
  rcases h.slot i with left | ⟨-, took⟩
  · rw [State.Left, if_neg hi] at left
    rw [left]
  · obtain ⟨-, before, after⟩ := took.1.resolve_left filled
    rw [before, after]

/-! The request taken, LNK aside, is the state as it was found. -/

theorem State.walk_onLnk (s : State) (f : Lnk → Lnk) (last fuel p : Nat) :
    (s.onLnk f).walk last fuel p = s.walk last fuel p := by
  induction fuel generalizing p with
  | zero => rfl
  | succ n ih =>
    unfold State.walk
    simp only [ih]
    rfl

theorem State.pieces_onLnk (s : State) (f : Lnk → Lnk) (start n : Nat) : (s.onLnk f).pieces start n = s.pieces start n := by
  simp only [State.pieces, State.walk_onLnk]
  rfl

theorem State.Judges.of_onLnk {s : State} {f : Lnk → Lnk} {kind : Access} {full : Bool} {before : List Segment} {g : Segment}
    (h : (s.onLnk f).Judges kind full before g) : s.Judges kind full before g :=
  ⟨h.beyond, h.tabled, h.pass, h.loaded, h.unloaded, h.unslotted⟩

/-- Whether the verdict table is full, said either way (R37). -/
theorem ite_full {α : Type} (n : Nat) (a b : α) : (if decide (32 ≤ n) then a else b) = if n < 32 then b else a := by
  by_cases few : n < 32
  · rw [if_pos few, if_neg (by simpa using few)]
  · rw [if_neg few, if_pos (by simpa using few)]

/-- RESOLVE taken up: stage 5 comes to `v`, and what that issues is answered (R28). -/
theorem resolve_ends {s : State} {h : Header} {start n : Nat} {kind : Access} (hs : s.TakesUp (.resolve h start n (some kind)))
    (hv : s.VerdictsSound) :
    ∃ m v t u id lifetime, s.lnk.Taken 1 m ∧ v = (s.onLnk fun _ => m).kept start (n + 1) kind ∧
      exec (.resolve h start n (some kind)) s = .next t ∧ (s.onLnk fun _ => m).Issues v.state v.segments id lifetime u ∧
      s.Replied 0x30 h.tag (okWith (.resolved s.rmg.mapGen id lifetime
        (((s.pieces start (n + 1)).drop 8).head?.map Piece.first) v.segments)) t ∧ Unchanged [] u t := by
  obtain ⟨serves, level, sized⟩ := hs
  have sized : h.sized = true := sized
  obtain ⟨m, taken, run⟩ := State.request_accepts (kind := 0x30) (h := h)
    (checks := fun _ => [(h.sized && (some kind).isSome, .badArg)])
    (act := fun s => s.resolve h start (n + 1) kind) serves level fun _ => by simp [judge, sized]
  obtain ⟨u, id, lifetime, issues, eq⟩ := State.resolve_issues (s := s.onLnk fun _ => m) hv h start (n + 1) kind
  rw [eq, State.pieces_onLnk] at run
  have lnk : u.lnk = m := issues.lnk.trans (State.kept_disposed _ _ _ _).resolves.lnk
  refine ⟨m, _, _, u, id, lifetime, taken, rfl, run, issues, State.replied_at_once ?_ ?_, ?_⟩
  · rw [lnk, taken.waiting]
  · rw [lnk, taken.outbound]
  · exact (State.answer_unchanged _ _ _ _).append (State.settle_unchanged _)

/-- Settles O48: stage 5 run by run, and the verdict that a RESOLVE issues if it passes one. -/
theorem resolveIssuesVerdictsForPasses : Obligations.ResolveIssuesVerdictsForPasses := by
  intro s h start n kind hs hv
  obtain ⟨m, v, t, u, id, lifetime, taken, hkept, run, issues, replied, after⟩ := resolve_ends hs hv
  have disposed := (s.onLnk fun _ => m).kept_disposed start (n + 1) kind
  have kept := (s.onLnk fun _ => m).kept_segments start (n + 1) kind
  rw [← hkept] at disposed kept
  rw [State.pieces_onLnk] at kept
  have resolves := disposed.resolves
  have judges {g : Segment} (hg : g ∈ v.segments) :
      ∃ k, s.Judges kind (decide (32 ≤ s.srv.verdicts.length)) (v.segments.take k) g := by
    obtain ⟨k, hk⟩ := List.mem_iff_getElem?.mp hg
    exact ⟨k, (disposed.judged k g hk).of_onLnk⟩
  have lnk := State.taken_unchanged taken
  have all : Unchanged [.verdicts, .deadlines, .fallen] v.state t := issues.unchanged.trans after
  have slots : t.kln.slots = v.state.kln.slots := all .slots (by decide)
  have ranges : t.rmg.ranges = v.state.rmg.ranges := all .ranges (by decide)
  have srv : t.srv = u.srv := after .verdicts (by decide)
  have uptime : v.state.tmb.uptime = s.tmb.uptime := resolves.frame .uptime (by decide)
  have policy : v.state.sto.policy = s.sto.policy := resolves.frame .policy (by decide)
  have verdicts : v.state.srv = s.srv := resolves.frame .verdicts (by decide)
  refine ⟨t, id, lifetime, v.segments, run, replied, kept, fun g hg => ?_, fun g hg => ?_, fun g hg i pass => ?_,
    fun k g r hk hr table => ?_, fun no => ?_, fun yes => ?_, fun i hi => ?_, fun i hi filled => ?_, fun r => ?_,
    fun no => ?_, ?_, ?_⟩
  · obtain ⟨k, judged⟩ := judges hg
    exact judged.beyond
  · obtain ⟨k, judged⟩ := judges hg
    exact judged.tabled
  · obtain ⟨k, judged⟩ := judges hg
    obtain ⟨r, range, table, slot, loaded, few⟩ := judged.pass i pass
    exact ⟨r, range, table, slot, loaded, by simpa using few⟩
  · have judged := (disposed.judged k g hk).of_onLnk
    refine ⟨fun i slot loaded hp => ?_, judged.unloaded r hr table, fun unslotted => ?_⟩
    · rw [← ite_full]
      exact judged.loaded r hr table i slot loaded
        (hp.imp_right fun slotted e he q hq _ => slotted e (List.mem_of_mem_take he) q hq)
    · obtain ⟨waits, iff_⟩ := judged.unslotted r hr table unslotted
      exact ⟨waits, fun slotted => iff_ fun e he q hq other =>
        slotted e (List.mem_of_mem_take he) q hq fun same => other (congrArg some same.symm)⟩
  · obtain ⟨zero, none_, rfl⟩ := issues.none_ no
    exact ⟨zero, none_, srv.trans verdicts⟩
  · obtain ⟨least, most, free, life, rfl⟩ := issues.some_ yes
    refine ⟨least, most, free, life, ?_, ?_⟩
    · have entered : (v.state.issue id v.segments).srv.verdicts = v.state.srv.verdicts ++
          [{ id := id, issued := v.state.tmb.uptime
             expiry := v.state.tmb.uptime + v.state.sto.policy.verdictLifetime * 1024, segments := v.segments }] := rfl
      rw [srv, entered, verdicts, uptime, policy]
    · rw [after.deadline (p := .verdict id) nofun, State.issue, State.enter_deadline, uptime, policy]
  · rw [slots]
    exact resolves.passed ((disposed.pinned i).mpr hi)
  · rw [slots]
    exact resolves.unpassed (fun held => hi ((disposed.pinned i).mp held)) filled
  · rw [ranges]
    exact resolves.entry r
  · obtain ⟨-, -, rfl⟩ := issues.none_ no
    exact ((lnk.append resolves.frame).append after).mono
  · exact ((lnk.othersStand.trans resolves.frame.othersStand).trans issues.othersStand).trans after.othersStand
  · exact ((lnk.append resolves.frame).append all).mono

end Sys2Proof.Machine
end

end

section
/-! PROOFS. The statements about the key lane and the listings, elaborated one at a time as those before. -/

set_option Elab.async false

section
/-! PROOFS. The lane's faults and the purge that each of them brings (R48, R60 to R64). -/

namespace Sys2Proof.Machine

/-! ## Up to a purge -/

/-- What a purge and the lane's work before it in the same occurrence concern while every LOCKING range stays locked. -/
def Part.shutPurges : List Part :=
  [.outbound, .pendingSet, .period, .deferred, .ranges, .rangeKeys, .mapGen, .verdicts, .slots, .badRun, .purgePulse, .lane,
    .deadlines, .fallen]

/-- From `s` to `u` the lane's work before a purge: locks under way may complete, and no deadline goes that a purge would leave. -/
structure State.ToPurge (s u : State) : Prop where
  step : s.LockStep u
  locks : ∀ q, ((u.rmg.ranges.get q).lock = (s.rmg.ranges.get q).lock ∧ u.rmg.rangeKeys.get q = s.rmg.rangeKeys.get q) ∨
    ((s.rmg.ranges.get q).lock = .locking ∧ (u.rmg.ranges.get q).lock = .locked ∧ u.rmg.rangeKeys.get q = none)
  others : s.OthersStand Purpose.purged u
  frame : Unchanged Part.shutPurges s u

section
variable {s t u : State}

theorem State.ToPurge.refl (s : State) : s.ToPurge s := ⟨.refl s, fun _ => .inl ⟨rfl, rfl⟩, .refl _ _, .refl _ _⟩

theorem State.ToPurge.trans (h : s.ToPurge t) (k : t.ToPurge u) : s.ToPurge u := by
  refine ⟨h.step.trans k.step, fun q => ?_, h.others.trans k.others, h.frame.trans k.frame⟩
  rcases h.locks q with ⟨lock, key⟩ | ⟨locking, locked, gone⟩
  · rw [← lock, ← key]
    exact k.locks q
  · rcases k.locks q with ⟨lock, key⟩ | ⟨again, -, -⟩
    · exact .inr ⟨locking, lock.trans locked, key.trans gone⟩
    · rw [locked] at again
      cases again

theorem State.LockStep.flags (h : s.LockStep u) (q : RangeIx) : (u.rmg.ranges.get q).flags = (s.rmg.ranges.get q).flags := by
  have same := congrArg RangeEntry.flags (h.material q)
  exact same

theorem State.ToPurge.stays (h : s.ToPurge u) (stay : s.LockingStayLocked) : u.LockingStayLocked := by
  intro q locking
  rw [h.step.flags]
  rcases h.locks q with ⟨lock, -⟩ | ⟨-, locked, -⟩
  · exact stay q (lock ▸ locking)
  · rw [locked] at locking
    cases locking

theorem State.onKln_unchanged {f : Kln → Kln} (hf : ∀ k, (f k).hold = k.hold) (s : State) :
    Unchanged [.slots, .badRun, .purgePulse, .lane] s (s.onKln f) := by
  intro p hp; cases p <;> simp_all [Part.same]

theorem State.onKln_toPurge {f : Kln → Kln} (hf : ∀ k, (f k).hold = k.hold := by intro; rfl) : s.ToPurge (s.onKln f) :=
  ⟨.of_same rfl rfl rfl, fun _ => .inl ⟨rfl, rfl⟩, .refl _ _, (s.onKln_unchanged hf).mono⟩

theorem State.claimed_toPurge : s.ToPurge (s.claimed .laneAck) :=
  ⟨.of_same rfl rfl rfl, fun _ => .inl ⟨rfl, rfl⟩,
    (s.claimed_othersStand _).mono fun p hp => by rw [eq_of_beq hp]; rfl, (s.claimed_unchanged _).mono⟩

theorem State.answered_toPurge : s.ToPurge s.answered :=
  State.ToPurge.trans (t := s.cancel .laneAck)
    ⟨.of_same rfl rfl rfl, fun _ => .inl ⟨rfl, rfl⟩,
      (s.cancel_othersStand _).mono fun p hp => by rw [eq_of_beq hp]; rfl, (s.cancel_unchanged _).mono⟩
    State.onKln_toPurge

/-- A step over the slot fields alone. -/
theorem State.ToPurge.of_fields (hr : ∀ q, ∃ x, u.rmg.ranges.get q = { s.rmg.ranges.get q with slot := x })
    (keys : u.rmg.rangeKeys = s.rmg.rangeKeys) (mapGen : u.rmg.mapGen = s.rmg.mapGen) (lnk : u.lnk = s.lnk)
    (model : u.model = s.model) (frame : Unchanged [.ranges] s u) : s.ToPurge u := by
  refine ⟨.of_ranges (fun q => ?_) (by rw [lnk]) mapGen model, fun q => .inl ⟨?_, by rw [keys]⟩, frame.othersStand, frame.mono⟩
  · obtain ⟨x, entry⟩ := hr q
    rw [entry]
    rfl
  · obtain ⟨x, entry⟩ := hr q
    rw [entry]

theorem State.removeSlotField_get (r q : RangeIx) (i : SlotIx) (s : State) : (s.removeSlotField r i).rmg.ranges.get q =
    if r = q ∧ (s.rmg.ranges.get q).slot = some i then { s.rmg.ranges.get q with slot := none } else s.rmg.ranges.get q := by
  rw [State.removeSlotField, State.onRange_get]
  by_cases h : r = q
  · subst h
    simp
  · simp [h]

theorem State.removeSlotField_toPurge (r : RangeIx) (i : SlotIx) : s.ToPurge (s.removeSlotField r i) := by
  refine .of_fields (fun q => ?_) rfl rfl rfl rfl (s.removeSlotField_unchanged r i)
  rw [State.removeSlotField_get]
  split <;> exact ⟨_, rfl⟩

theorem State.dropSlotField_get (i : SlotIx) (q : RangeIx) (s : State) : (s.dropSlotField i).rmg.ranges.get q =
    if (s.rmg.ranges.get q).slot = some i then { s.rmg.ranges.get q with slot := none } else s.rmg.ranges.get q :=
  Table.get_imap _ _ _

theorem State.dropSlotField_unchanged (i : SlotIx) (s : State) : Unchanged [.ranges] s (s.dropSlotField i) := by
  intro p hp; cases p <;> simp_all [Part.same, State.dropSlotField]

theorem State.dropSlotField_toPurge (i : SlotIx) : s.ToPurge (s.dropSlotField i) := by
  refine .of_fields (fun q => ?_) rfl rfl rfl rfl (s.dropSlotField_unchanged i)
  rw [State.dropSlotField_get]
  split <;> exact ⟨_, rfl⟩

theorem State.opensPlain_enabled {from_ : LockState → Bool} {r : RangeIx} (h : (s.rmg.ranges.get r).flags.lockEnabled = true) :
    s.opensPlain from_ r = false := by
  simp [State.opensPlain, h]

theorem State.finishLock_toPurge {r : RangeIx} (locking : (s.rmg.ranges.get r).lock = .locking) : s.ToPurge (s.finishLock r) := by
  have frame := s.finishLock_unchanged r
  refine ⟨s.finishLock_lockStep r, fun q => ?_, frame.othersStand, frame.mono⟩
  have key : (s.finishLock r).rmg.rangeKeys.get q = if r = q then none else s.rmg.rangeKeys.get q := Table.get_set _ _ _ _
  rw [State.finishLock_get, key]
  by_cases h : r = q
  · subst h
    exact .inr ⟨locking, by simp⟩
  · exact .inl (by simp [h])

theorem State.bump_toPurge : s.ToPurge s.bump :=
  ⟨s.bump_lockStep, fun q => .inl ⟨by rw [State.bump_ranges], by rw [State.bump_keys]⟩, s.bump_unchanged.othersStand,
    s.bump_unchanged.mono⟩

theorem State.clearComplete_toPurge (i : SlotIx) (stay : s.LockingStayLocked) : s.ToPurge (s.clearComplete i) := by
  unfold State.clearComplete
  split
  · next r _ =>
    split
    · next locking =>
      have done : s.ToPurge (s.finishLock r).bump := (State.finishLock_toPurge locking).trans State.bump_toPurge
      rw [State.openPlain_closed (State.opensPlain_enabled (by rw [done.step.flags]; exact stay r locking))]
      exact done
    · exact State.removeSlotField_toPurge r i
  · exact .refl s

end

/-! ## The purge while every LOCKING range stays locked (R47, R48, R64) -/

/-- The state in which a purge has emptied the lane queue, the slots, the slot fields and the verdict table and left the lane in `lane`, no
lock yet completed. -/
def State.sweptTo (lane : Lane) (s : State) : State := s.swept.onKln fun k => { k with lane := lane }

/-- Where a purge leaves the lane. -/
def Lane.afterPurge (toFault : Bool) : Lane := if toFault then .fault else .idle

/-- From `s` to `t` one occurrence with a purge: the lane left in `lane`, the map generation incremented once, and every LOCKING range
LOCKED without its key. -/
structure State.PurgesTo (lane : Lane) (cause : VoidCause) (s t : State) : Prop where
  lane : t.kln.lane = lane
  purged : t.Purged
  mapGen : t.rmg.mapGen = nextMapGen s.rmg.mapGen
  notified : s.pwc.power = .active → t.Notified (.void t.rmg.mapGen cause)
  locks : ∀ r, if (s.rmg.ranges.get r).lock = .locking then
      (t.rmg.ranges.get r).lock = .locked ∧ t.rmg.rangeKeys.get r = none
    else (t.rmg.ranges.get r).lock = (s.rmg.ranges.get r).lock ∧ t.rmg.rangeKeys.get r = s.rmg.rangeKeys.get r
  others : s.OthersStand Purpose.purged t
  frame : Unchanged Part.shutPurges s t

section
variable {s t u : State}

/-- No range opens at the purge: it comes to the sweep and the locks completed. -/
theorem State.purgeEffects_shut (stay : u.LockingStayLocked) (toFault : Bool) :
    u.purgeEffects toFault = (u.sweptTo (Lane.afterPurge toFault)).finishLocks u.lockingRanges := by
  have opened : u.purgeEffects toFault =
      ((u.sweptTo (Lane.afterPurge toFault)).finishLocks u.lockingRanges).openPlain LockState.isLocked u.lockingRanges := rfl
  rw [opened, State.openPlain, openPlainSteps_closed]
  · rfl
  · intro q hq
    have entry : (u.sweptTo (Lane.afterPurge toFault)).rmg.ranges.get q = { u.rmg.ranges.get q with slot := none } := u.swept_get q
    refine State.opensPlain_enabled ?_
    rw [State.finishLocks_get, entry, if_pos hq]
    exact stay q (State.mem_lockingRanges.mp hq)

theorem State.swept_unchanged (s : State) :
    Unchanged [.slots, .lane, .badRun, .purgePulse, .deadlines, .fallen, .verdicts, .ranges] s s.swept := by
  have kln := (s.onKln_unchanged (f := fun k =>
    { k with
      slots := k.slots.imap fun _ l => l.emptied
      queue := [], lane := .idle, badRun := 0, purgePulse := true }) fun _ => rfl)
  have tables (t : State) : Unchanged [.verdicts, .ranges] t ((t.onSrv fun v => { v with verdicts := [] }).onRmg fun m =>
      { m with ranges := m.ranges.imap fun _ e => { e with slot := none } }) := by
    intro p hp; cases p <;> simp_all [Part.same]
  exact ((kln.append (State.cancelAll_unchanged Purpose.purged _)).append (tables _)).mono

/-- What a purge leaves, with the lane's work before it and the occurrence's end. -/
theorem State.ToPurge.purges {cause : VoidCause} {toFault : Bool} (h : s.ToPurge u) (stay : s.LockingStayLocked)
    (fresh : s.model.bumped = false) (ht : t = (u.purge cause toFault).settle) :
    s.PurgesTo (Lane.afterPurge toFault) cause t := by
  obtain ⟨v, hv⟩ : ∃ v, v = u.sweptTo (Lane.afterPurge toFault) := ⟨_, rfl⟩
  obtain ⟨p, hp⟩ : ∃ p, p = v.finishLocks u.lockingRanges := ⟨_, rfl⟩
  obtain ⟨n, hn⟩ : ∃ n, n = Notice.void p.bump.rmg.mapGen cause := ⟨_, rfl⟩
  have done : t = (p.bump.notify n).settle := by
    rw [ht, State.purge, State.purgeEffects_shut (h.stays stay), ← hv, ← hp, hn]
  have pKln : p.kln = v.kln := hp ▸ State.finishLocks_kln _ _
  have kln : t.kln = v.kln := by
    have same : (p.bump.notify n).kln = v.kln := by rw [State.notify_kln, State.bump_kln, pKln]
    have pulse : v.kln.purgePulse = true := hv ▸ rfl
    rw [done, State.settle_kln_of_pulse (by rw [same, pulse]), same]
  have locked : Unchanged [.rangeKeys, .ranges, .deferred] v p := hp ▸ State.finishLocks_unchanged _ _
  have told : Unchanged (.mapGen :: Part.notices) p t :=
    done ▸ (((State.bump_unchanged p).append (State.notify_unchanged _ _)).append (State.settle_unchanged _)).mono
  have after := locked.append told
  have swept : Unchanged [.slots, .lane, .badRun, .purgePulse, .deadlines, .fallen, .verdicts, .ranges] u v :=
    hv ▸ (u.swept_unchanged.append (State.onKln_unchanged (f := fun k => { k with lane := Lane.afterPurge toFault })
      (fun _ => rfl) _)).mono
  have rmg : t.rmg = p.bump.rmg := by rw [done, State.settle_rmg, State.notify_rmg]
  have ranges (q : RangeIx) : t.rmg.ranges.get q = { u.rmg.ranges.get q with
      slot := none, lock := if (u.rmg.ranges.get q).lock = .locking then .locked else (u.rmg.ranges.get q).lock } := by
    rw [rmg, State.bump_ranges, ← u.sweptLocks_get q, hp, hv, State.finishLocks_get, State.finishLocks_get]
    rfl
  have keys (q : RangeIx) : t.rmg.rangeKeys.get q =
      if (u.rmg.ranges.get q).lock = .locking then none else u.rmg.rangeKeys.get q := by
    rw [rmg, State.bump_keys, ← u.sweptLocks_key q, hp, hv, State.finishLocks_key, State.finishLocks_key]
    rfl
  have deadlines {d : Deadline} (hd : d ∈ t.tmb.deadlines ∨ d ∈ t.tmb.fallen) : d.purpose.purged = false := by
    by_cases absence : d.purpose = .absence
    · rw [absence]
      rfl
    · obtain ⟨listed, fallen⟩ := (after.othersStand : v.OthersStand (fun _ => false) t) d rfl absence
      rw [listed, fallen, hv] at hd
      exact State.swept_deadline (s := u) hd
  refine ⟨?_, ⟨fun i => ?_, ?_, ?_, ?_, ?_, fun d => deadlines, fun r => by rw [ranges]⟩, ?_, fun active => ?_, fun r => ?_, ?_,
    h.frame.trans ((swept.append after).mono (e := Part.shutPurges))⟩
  · rw [kln, hv]
    rfl
  · have slot : t.kln.slots.get i = (u.kln.slots.get i).emptied := by
      rw [kln, hv]
      exact Table.get_imap _ _ _
    rw [slot]
    exact ⟨rfl, rfl, rfl, rfl⟩
  · rw [kln, hv]
    rfl
  · rw [kln, hv]
    rfl
  · have same : t.srv = v.srv := after .verdicts (by decide)
    rw [same, hv]
    rfl
  · rw [kln, hv]
    rfl
  · have before : u.Counted s.rmg.mapGen := h.step.counted _ (by rw [State.Counted, fresh]; rfl)
    have step : v.LockStep p := hp ▸ .foldl _ (fun s r => s.finishLock_lockStep r) _ _
    have counted : p.bump.Counted s.rmg.mapGen :=
      p.bump_lockStep.counted _ (step.counted _ (by rw [hv]; exact u.swept_lockStep.counted _ before))
    rw [rmg, counted, State.bump_bumped]
    rfl
  · have power : p.bump.pwc.power = s.pwc.power :=
      (h.frame.append (swept.append (locked.append p.bump_unchanged))) .power (by decide)
    have notified := State.notified_notify (n := n) (s := p.bump) (by rw [State.linkOpen, power, active]; rfl)
    rw [rmg, ← hn, done]
    exact notified.step (State.settle_keepsTold _)
  · rw [ranges, keys]
    rcases h.locks r with ⟨lock, key⟩ | ⟨locking, locked, gone⟩
    · rw [lock, key]
      by_cases hr : (s.rmg.ranges.get r).lock = .locking <;> simp [hr]
    · simp [locking, locked, gone]
  · refine (h.others.trans ?_).trans after.othersStand
    rw [hv]
    exact u.swept_othersStand

end

/-! ## The answers as they are taken (R58 to R61) -/

/-- A slot is changed, and nothing else. -/
theorem State.onSlot_toPurge {s : State} {i : SlotIx} {f : Slot → Slot} : s.ToPurge (s.onSlot i f) := State.onKln_toPurge

/-- What a LOAD answered bad makes of its slot, before the bad-load run is counted (R60). -/
def State.unloaded (i : SlotIx) (s : State) : State :=
  match (s.kln.slots.get i).state with
  | .clearing => ((s.emptySlotAt i).onKln fun k => { k with queue := unqueue .clear i k.queue }).clearComplete i
  | .empty | .loading | .loaded | .unknown => (s.emptySlotAt i).dropSlotField i

/-- A LOAD answered bad, its run counted, before the fault of a third in a row (R60). -/
def State.badLoad (i : SlotIx) (s : State) : State := (s.unloaded i).onKln fun k => { k with badRun := s.kln.badRun + 1 }

theorem State.loadBad_eq (i : SlotIx) (s : State) :
    s.loadBad i = if 3 ≤ s.kln.badRun + 1 then (s.badLoad i).laneFault i .loadBad else s.badLoad i := rfl

section
variable {s : State} {f : LaneFrame}

theorem Lane.awaited_self {op : LaneOp} (h : f.op = op) : (Lane.awaitAck f).awaited op = some f := if_pos h

theorem execLoadAck_awaited (hp : s.pwc.power ≠ .unpowered) (lane : s.kln.lane = .awaitAck f) (op : f.op = .load) (good : Bool) :
    exec (.loadAck good) s = .next (if good then s.answered.loadGood f.slot else s.answered.loadBad f.slot).settle := by
  show execLoadAck good s = _
  rw [execLoadAck, State.occur_of_powered (State.powered_of_ne hp), lane, Lane.awaited_self op]

theorem execClearAck_awaited (hp : s.pwc.power ≠ .unpowered) (lane : s.kln.lane = .awaitAck f) (op : f.op = .clear) (good : Bool) :
    exec (.clearAck good) s =
      .next (if good then s.answered.clearGood f.slot else s.answered.laneFault f.slot .clearBad).settle := by
  show execClearAck good s = _
  rw [execClearAck, State.occur_of_powered (State.powered_of_ne hp), lane, Lane.awaited_self op]

theorem execAckTimeout_awaited (hp : s.pwc.power ≠ .unpowered) (lane : s.kln.lane = .awaitAck f) (due : s.HasFallen .laneAck) :
    exec .ackTimeout s = .next ((s.claimed .laneAck).laneFault f.slot .ackTimeout).settle := by
  show execAckTimeout s = _
  obtain ⟨d, taken⟩ := State.takeFallen_eq due
  have same : (s.claimed .laneAck).kln.lane = .awaitAck f := lane
  rw [execAckTimeout, State.occur_of_powered (State.powered_of_ne hp), taken]
  simp only [same]

theorem execSyncError_inFlight (hp : s.pwc.power ≠ .unpowered) (lane : s.kln.lane = .sending f ∨ s.kln.lane = .awaitAck f) :
    exec .syncError s = .next (s.laneFault f.slot .syncError).settle := by
  show execSyncError s = _
  have inFlight : s.kln.lane.inFlight = some f := by rcases lane with h | h <;> rw [h] <;> rfl
  rw [execSyncError, State.occur_of_powered (State.powered_of_ne hp), inFlight]

end

/-! ## The faults (R60 to R63) -/

/-- The slot of a frame whose fault has come, before the purge (R62, R63). -/
def State.unknownAt (i : SlotIx) (s : State) : State :=
  (match (s.kln.slots.get i).next with
    | some o => s.removeSlotField o.range i
    | none => s).onSlot i fun l => { l with state := .unknown, next := none }

theorem State.laneFault_eq (i : SlotIx) (fault : LaneFault) (s : State) :
    s.laneFault i fault = (s.unknownAt i).purge (.laneFault fault) true := rfl

section
variable {s u : State}

theorem State.unknownAt_toPurge (i : SlotIx) : s.ToPurge (s.unknownAt i) := by
  unfold State.unknownAt
  split
  · exact (State.removeSlotField_toPurge _ _).trans State.onSlot_toPurge
  · exact State.onSlot_toPurge

theorem State.unloaded_toPurge (i : SlotIx) (stay : s.LockingStayLocked) : s.ToPurge (s.unloaded i) := by
  have emptied : s.ToPurge (s.emptySlotAt i) := State.onSlot_toPurge
  unfold State.unloaded
  split
  · have unqueued := emptied.trans (State.onKln_toPurge (f := fun k => { k with queue := unqueue .clear i k.queue }))
    exact unqueued.trans (State.clearComplete_toPurge i (unqueued.stays stay))
  all_goals exact emptied.trans (State.dropSlotField_toPurge i)

theorem State.badLoad_toPurge (i : SlotIx) (stay : s.LockingStayLocked) : s.ToPurge (s.badLoad i) :=
  (State.unloaded_toPurge i stay).trans State.onKln_toPurge

/-- A fault of the lane after its work `u` of the same occurrence. -/
theorem State.ToPurge.faults (h : s.ToPurge u) (stay : s.LockingStayLocked) (fresh : s.model.bumped = false) (i : SlotIx)
    (fault : LaneFault) : s.PurgesTo .fault (.laneFault fault) (u.laneFault i fault).settle :=
  (h.trans (State.unknownAt_toPurge i)).purges (toFault := true) stay fresh (congrArg State.settle (u.laneFault_eq i fault))

theorem State.Purged.ended (h : u.Purged) : u.deadline .laneAck = none ∧ u.Taken .laneAck := by
  obtain ⟨-, -, -, -, -, deadlines, -⟩ := h
  refine ⟨State.deadline_eq_none.mpr fun d hd e => ?_, State.taken_iff.mpr fun d hd e => ?_⟩
  · have kept := deadlines d (.inl hd)
    rw [e] at kept
    cases kept
  · have kept := deadlines d (.inr hd)
    rw [e] at kept
    cases kept

end

/-- Settles O52: each fault comes after work of the lane that leaves a purge to do what it does from the state as it was found. -/
theorem laneFaultsPurge : Obligations.LaneFaultsPurge := by
  intro c s f fault hp fresh stay cause
  have fault_ : ∃ u, s.ToPurge u ∧ exec c s = .next (u.laneFault f.slot fault).settle := by
    rcases cause with ⟨rfl, lane, op, run, rfl⟩ | ⟨rfl, lane, op, rfl⟩ | ⟨rfl, lane, due, rfl⟩ | ⟨rfl, lane, rfl⟩
    · have answered : s.ToPurge s.answered := State.answered_toPurge
      have third : 3 ≤ s.answered.kln.badRun + 1 := Nat.succ_le_succ run
      refine ⟨s.answered.badLoad f.slot, answered.trans (State.badLoad_toPurge _ (answered.stays stay)), ?_⟩
      rw [execLoadAck_awaited hp lane op, State.loadBad_eq, if_pos third]
      rfl
    · exact ⟨s.answered, State.answered_toPurge, execClearAck_awaited hp lane op false⟩
    · exact ⟨s.claimed .laneAck, State.claimed_toPurge, execAckTimeout_awaited hp lane due⟩
    · exact ⟨s, .refl s, execSyncError_inFlight hp lane⟩
  obtain ⟨u, before, run⟩ := fault_
  have purges := before.faults stay fresh f.slot fault
  obtain ⟨ended, taken⟩ := purges.purged.ended
  exact ⟨_, run, purges.lane, purges.purged, ended, taken, purges.others, purges.mapGen, purges.notified, purges.locks,
    purges.frame⟩

end Sys2Proof.Machine
end

section
/-! PROOFS. The end of the purge pulse, and HALT (R63 to R67). -/

namespace Sys2Proof.Machine

theorem State.onPins_unchanged (f : Pins → Pins) (s : State) : Unchanged [.pins] s (s.onPins f) := by
  intro p hp; cases p <;> simp_all [Part.same]

/-- The lane that stands IDLE at the end of an occurrence runs on. -/
theorem State.settle_laneRuns {s : State} (idle : s.kln.lane = .idle) : s.settle.LaneRuns s.kln.queue :=
  State.laneRuns_of_same (s.settle_unchanged .lane (by decide)) idle

theorem execPurgePulseEnd_pulsing {s : State} (hp : s.pwc.power ≠ .unpowered) (pulse : s.kln.purgePulse = true) :
    exec .purgePulseEnd s = .next (s.onKln fun k => { k with purgePulse := false, lane := k.lane.afterPulse }).settle := by
  show execPurgePulseEnd s = _
  rw [execPurgePulseEnd, State.occur_of_powered (State.powered_of_ne hp), if_pos pulse]

/-- HALT has risen and its trigger is raised. -/
def State.halted (s : State) : State := (s.onPins fun p => { p with halt := true }).raiseTrigger .halt

theorem State.halted_unchanged (s : State) : Unchanged [.raised, .pins] s s.halted :=
  ((s.onPins_unchanged _).append (State.raiseTrigger_unchanged _ _)).mono

theorem execHaltRise_active {s : State} (active : s.pwc.power = .active) (done : s.pwc.stage = .done)
    (low : s.pins.halt = false) : exec .haltRise s = .next s.halted.haltAction.settle := by
  obtain ⟨u, hu⟩ : ∃ u, u = s.onPins fun p => { p with halt := true } := ⟨_, rfl⟩
  have powered : u.powered = true := by rw [hu]; exact State.powered_of_active active
  have observed : u.haltObserved = true := by rw [hu, State.haltObserved, State.onPins_pwc, done]
  have open_ : (u.raiseTrigger .halt).linkOpen = true := by rw [hu]; exact State.linkOpen_of_active active
  show execHaltRise s = _
  rw [execHaltRise, if_neg (by simp [low]), State.halted, ← hu, State.occur_of_powered powered]
  simp only [observed, open_, if_true]

theorem execHaltFall_high {s : State} (hp : s.pwc.power ≠ .unpowered) (high : s.pins.halt = true) : exec .haltFall s =
    .next ((s.onPins fun p => { p with halt := false }).onKln fun k => { k with hold := false }).settle := by
  show execHaltFall s = _
  rw [execHaltFall, if_pos high, State.occur_of_powered (s := s.onPins _) (State.powered_of_ne hp)]

/-- The policy that purges at a rise of HALT (R66). -/
def State.haltPurges (s : State) : Prop :=
  s.sto.policy.haltPolicy = .purge ∨ (s.sto.policy.haltPolicy = .ignore ∧ s.aut.lifecycle ≠ .unprovisioned)

section
variable {s : State}

theorem State.haltAction_purges (h : s.haltPurges) : s.haltAction = s.purge .halt false := by
  unfold State.haltAction
  rcases h with policy | ⟨policy, provisioned⟩
  · rw [policy]
  · rw [policy]
    exact if_neg provisioned

theorem State.haltAction_holds (policy : s.sto.policy.haltPolicy = .finish) :
    s.haltAction = s.onKln fun k => { k with hold := true } := by
  unfold State.haltAction
  rw [policy]

theorem State.haltAction_ignores (policy : s.sto.policy.haltPolicy = .ignore) (blank : s.aut.lifecycle = .unprovisioned) :
    s.haltAction = s := by
  unfold State.haltAction
  rw [policy]
  exact if_pos blank

theorem State.setHold_unchanged (b : Bool) (s : State) : Unchanged [.hold] s (s.onKln fun k => { k with hold := b }) := by
  intro p hp; cases p <;> simp_all [Part.same]

theorem State.settle_hold (s : State) : s.settle.kln.hold = s.kln.hold := s.settle_unchanged .hold (by decide)

end

/-- What a rise of HALT concerns. -/
def Part.halts : List Part := .hold :: .raised :: .pins :: Part.shutPurges

/-- What holds after a rise of HALT, whichever policy stands. -/
structure State.HaltRises (s t : State) : Prop where
  pins : t.pins = { s.pins with halt := true }
  raised : t.thm.raised = s.thm.raised ++ [.halt]
  others : s.OthersStand Purpose.purged t
  frame : Unchanged Part.halts s t

/-- KLN's action leaves the line and the trigger as they are. -/
theorem State.haltRises {e : List Part} {s t : State} (act : Unchanged e s.halted t) (he : e ⊆ Part.halts)
    (others : s.halted.OthersStand Purpose.purged t) (h : Part.pins ∉ e ∧ Part.raised ∉ e := by decide) : s.HaltRises t where
  pins := act .pins h.1
  raised := act .raised h.2
  others := s.halted_unchanged.othersStand.trans others
  frame := s.halted_unchanged.trans act (by decide) he

/-- A rise of HALT that purges. -/
theorem State.haltRises_purging {s : State} (purges : s.haltPurges) (fresh : s.model.bumped = false) (stay : s.LockingStayLocked) :
    s.HaltRises s.halted.haltAction.settle ∧ s.halted.PurgesTo .idle .halt s.halted.haltAction.settle := by
  have purged : s.halted.PurgesTo .idle .halt s.halted.haltAction.settle :=
    (State.ToPurge.refl s.halted).purges (toFault := false) stay fresh (congrArg State.settle (State.haltAction_purges purges))
  exact ⟨State.haltRises purged.frame (by decide) purged.others, purged⟩

/-- A rise of HALT that holds the lane. -/
theorem State.haltRises_holding {s : State} (policy : s.sto.policy.haltPolicy = .finish) :
    s.HaltRises s.halted.haltAction.settle ∧ s.halted.haltAction.settle.kln.hold = true ∧
      Unchanged [.hold] s.halted s.halted.haltAction.settle := by
  have act : s.halted.haltAction = s.halted.onKln fun k => { k with hold := true } := State.haltAction_holds policy
  have held : Unchanged [.hold] s.halted s.halted.haltAction.settle := by
    rw [act]
    exact (s.halted.setHold_unchanged true).append (State.settle_unchanged _)
  refine ⟨State.haltRises held (by decide) held.othersStand, ?_, held⟩
  rw [act]
  exact State.settle_hold _

/-- A rise of HALT that leaves the lane. -/
theorem State.haltRises_ignored {s : State} (policy : s.sto.policy.haltPolicy = .ignore)
    (blank : s.aut.lifecycle = .unprovisioned) :
    s.HaltRises s.halted.haltAction.settle ∧ Unchanged [] s.halted s.halted.haltAction.settle := by
  have left : Unchanged [] s.halted s.halted.haltAction.settle := by
    rw [State.haltAction_ignores (s := s.halted) policy blank]
    exact State.settle_unchanged _
  exact ⟨State.haltRises left (by decide) left.othersStand, left⟩

/-- Settles O53: the pulse's end and the fall of HALT each in one step; the rise by the action that the policy asks for. -/
theorem pulseAndHaltGovernTheLane : Obligations.PulseAndHaltGovernTheLane := by
  refine ⟨fun s hp pulse lane => ⟨_, execPurgePulseEnd_pulsing hp pulse, ?_, ?_, ?_⟩, fun s active done low fresh stay => ?_,
    fun s hp high => ⟨_, execHaltFall_high hp high, State.settle_pins _, State.settle_hold _, ?_⟩⟩
  · exact State.settle_unchanged _ .purgePulse (by decide)
  · exact State.settle_laneRuns (s := s.onKln fun k => { k with purgePulse := false, lane := k.lane.afterPulse })
      (by rcases lane with h | h <;> simp [h, Lane.afterPulse])
  · refine Unchanged.trans (d := [.purgePulse, .lane]) ?_ (State.settle_unchanged _)
    intro p hp; cases p <;> simp_all [Part.same]
  · refine ⟨_, execHaltRise_active active done low, ?_⟩
    have halted := s.halted_unchanged
    cases policy : s.sto.policy.haltPolicy with
    | purge =>
      obtain ⟨rises, purged⟩ := State.haltRises_purging (.inl policy) fresh stay
      exact ⟨rises.pins, rises.raised, rises.others,
        fun _ => ⟨purged.purged, purged.lane, purged.mapGen, purged.notified active⟩, nofun, nofun, rises.frame.mono⟩
    | finish =>
      obtain ⟨rises, hold, held⟩ := State.haltRises_holding policy
      refine ⟨rises.pins, rises.raised, rises.others, fun purges => ?_, fun _ => ⟨hold, (halted.append held).mono⟩, nofun,
        rises.frame.mono⟩
      rcases purges with purge | ⟨ignore, -⟩
      · cases purge
      · cases ignore
    | ignore =>
      by_cases blank : s.aut.lifecycle = .unprovisioned
      · obtain ⟨rises, left⟩ := State.haltRises_ignored policy blank
        refine ⟨rises.pins, rises.raised, rises.others, fun purges => ?_, nofun, fun _ _ => (halted.append left).mono,
          rises.frame.mono⟩
        rcases purges with purge | ⟨-, provisioned⟩
        · cases purge
        · exact absurd blank provisioned
      · obtain ⟨rises, purged⟩ := State.haltRises_purging (.inr ⟨policy, blank⟩) fresh stay
        exact ⟨rises.pins, rises.raised, rises.others,
          fun _ => ⟨purged.purged, purged.lane, purged.mapGen, purged.notified active⟩, nofun, fun _ h => absurd h blank,
          rises.frame.mono⟩
  · exact ((s.onPins_unchanged _).append ((State.setHold_unchanged false _).append (State.settle_unchanged _))).mono

end Sys2Proof.Machine
end

section
/-! PROOFS. What the lane's answers leave: the lane, the acknowledgement deadline, and a lock that completes with the clear of its slot
(R16, R19, R58 to R61). -/

namespace Sys2Proof.Machine

/-! ## What waits on a lock that completes (R19, R21) -/

/-- A request that waits for writes beside the lock of `r` no longer waits on that lock as it completes. -/
theorem State.finishLock_deferred_writes {s : State} {r : RangeIx} {i : DeferIx} {d : Deferred} {ws : List Wait} {done fault : Reply}
    (hd : s.lnk.deferred.get i = some d) (h : d.state = .working (.writes ws (some r) done fault)) :
    (s.finishLock r).lnk.deferred.get i = some { d with state := writesState ws none done fault } := by
  have get : (s.finishLock r).lnk.deferred.get i = _ := Table.get_imap _ _ _
  rw [get]
  show Option.map _ (s.lnk.deferred.get i) = _
  rw [hd]
  obtain ⟨kind, tag, owner, range, state⟩ := d
  subst h
  simp [lockDone]

theorem State.finishLock_lockTold (r : RangeIx) (s : State) : s.LockTold r (s.finishLock r) := by
  intro i d hd
  refine ⟨fun waits => .inl (State.finishLock_deferred_lock hd waits), fun ws done fault waits => ?_⟩
  have entry := State.finishLock_deferred_writes hd waits
  refine ⟨?_, fun some_ => ?_⟩
  · rintro rfl
    exact .inl entry
  · rw [entry]
    simp [writesState, some_]

/-- What has been told stays told, and what still waits goes on waiting. -/
theorem State.LockTold.settle {r : RangeIx} {s u : State} (h : s.LockTold r u) : s.LockTold r u.settle := by
  intro i d hd
  obtain ⟨lock, writes⟩ := h i d hd
  refine ⟨fun waits => (lock waits).step u.settle_keepsTold, fun ws done fault waits => ?_⟩
  obtain ⟨none_, some_⟩ := writes ws done fault waits
  refine ⟨fun empty => (none_ empty).step u.settle_keepsTold, fun left => ?_⟩
  have entry := some_ left
  rw [State.settle_lnk, u.grantLink_granted.deferred i (by rw [entry]; rfl), entry]

theorem State.LockTold.of_lnk {r : RangeIx} {s u v : State} (h : s.LockTold r u) (same : v.lnk = u.lnk) : s.LockTold r v := by
  intro i d hd
  obtain ⟨lock, writes⟩ := h i d hd
  unfold State.Finishes at *
  rw [same]
  exact ⟨lock, writes⟩

/-! ## A lock that completes with the clear of its slot (R16, R19) -/

/-- The lock of `r`, under way in `b`, has completed in `c`, before R16. -/
structure State.LockDone (r : RangeIx) (b c : State) : Prop where
  ranges : c.rmg.ranges = b.rmg.ranges.set r { b.rmg.ranges.get r with lock := .locked, slot := none }
  keys : c.rmg.rangeKeys = b.rmg.rangeKeys.set r none
  mapGen : c.rmg.mapGen = nextMapGen b.rmg.mapGen
  kln : c.kln = b.kln
  thm : c.thm = b.thm
  bumped : c.model.bumped = true
  told : b.LockTold r c
  frame : Unchanged [.rangeKeys, .ranges, .deferred, .mapGen] b c

theorem State.lockDone {b : State} (fresh : b.model.bumped = false) (r : RangeIx) : b.LockDone r (b.finishLock r).bump where
  ranges := State.bump_ranges _
  keys := State.bump_keys _
  mapGen := State.bump_mapGen (s := b.finishLock r) fresh
  kln := State.bump_kln _
  thm := State.bump_thm _
  bumped := State.bump_bumped _
  told := (b.finishLock_lockTold r).of_lnk (State.bump_lnk _)
  frame := ((b.finishLock_unchanged r).append (State.bump_unchanged _)).mono

theorem Table.set_set {α : Type} {n : Nat} (t : Table α n) (i : Fin n) (a b : α) : (t.set i a).set i b = t.set i b := by
  refine Table.ext_get fun j => ?_
  simp only [Table.get_set]
  split <;> rfl

/-- A device wrap that yields no key leaves the range shut, its RANGE KEY record faulty (R16). -/
theorem State.openPlain_fails {from_ : LockState → Bool} {r : RangeIx} {s : State} (h : s.opensPlain from_ r = true)
    (hk : unwrap (s.rmg.ranges.get r).deviceWrap (some .device) = none) :
    s.openPlain from_ [r] = s.addFaulty (.rangeKey r) := by
  simp [State.openPlain, openPlainStep, h, hk]

theorem unwrap_device {w : Wrapped} (intact : w.intact = true) (under : w.under = .device) :
    unwrap (some w) (some .device) = some w.holds := by
  simp [unwrap, intact, under]

theorem unwrap_device_none {w : Wrapped} (h : w.intact = false ∨ w.under ≠ .device) : unwrap (some w) (some .device) = none := by
  rcases h with broken | other
  · simp [unwrap, broken]
  · simp [unwrap, other]

section
variable {r : RangeIx} {b c t : State} (h : b.LockDone r c)
include h

theorem State.LockDone.get (q : RangeIx) : c.rmg.ranges.get q =
    if r = q then { b.rmg.ranges.get r with lock := .locked, slot := none } else b.rmg.ranges.get q := by
  rw [h.ranges, Table.get_set]

/-- Where R16 opens nothing, the range is LOCKED, and the slots and the lane queue stand. -/
theorem State.LockDone.shut {e : List Part} (frame : Unchanged e c t) (idle : b.kln.lane = .idle)
    (he : Part.ranges ∉ e ∧ Part.rangeKeys ∉ e ∧ Part.slots ∉ e ∧ Part.lane ∉ e := by decide) :
    t.rmg.ranges = b.rmg.ranges.set r { b.rmg.ranges.get r with lock := .locked, slot := none } ∧
      t.rmg.rangeKeys = b.rmg.rangeKeys.set r none ∧ t.kln.slots = b.kln.slots ∧ t.LaneRuns b.kln.queue := by
  obtain ⟨noRanges, noKeys, noSlots, noLane⟩ := he
  have ranges : t.rmg.ranges = c.rmg.ranges := frame .ranges noRanges
  have keys : t.rmg.rangeKeys = c.rmg.rangeKeys := frame .rangeKeys noKeys
  have slots : t.kln.slots = c.kln.slots := frame .slots noSlots
  have lane := State.laneRuns_of_same (frame .lane noLane) (by rw [h.kln, idle])
  rw [h.kln] at slots lane
  exact ⟨ranges.trans h.ranges, keys.trans h.keys, slots, lane⟩

/-- When R16 lets the range open. -/
theorem State.LockDone.opensPlain : c.opensPlain LockState.isLocked r = true ↔
    b.defined r = true ∧ (b.rmg.ranges.get r).flags.lockEnabled = false ∧ (b.rmg.ranges.get r).keyState = .keyed ∧
      (b.rmg.ranges.get r).deviceWrap.isSome = true ∧ b.thm.level.opensPlain = true := by
  simp only [State.opensPlain, State.defined, h.get, h.thm, if_true, LockState.isLocked]
  simp [and_assoc]

/-- R16 opens the range with the key its device wrap yields. -/
theorem State.LockDone.opened {w : Wrapped} (opens : c.opensPlain LockState.isLocked r = true)
    (wrap : (b.rmg.ranges.get r).deviceWrap = some w) (intact : w.intact = true) (under : w.under = .device)
    (idle : b.kln.lane = .idle) (frame : Unchanged [.badRun] (c.openPlain LockState.isLocked [r]) t) :
    t.rmg.ranges = b.rmg.ranges.set r { b.rmg.ranges.get r with lock := .opened, slot := (t.rmg.ranges.get r).slot } ∧
      t.rmg.rangeKeys = b.rmg.rangeKeys.set r (some w.holds) ∧ t.Loads [r] b.kln.slots b.kln.queue .idle ∧
      t.sto.faulty = b.sto.faulty := by
  have own : c.rmg.ranges.get r = { b.rmg.ranges.get r with lock := .locked, slot := none } := by rw [h.get, if_pos rfl]
  rw [State.openPlain_opens opens (by rw [own]; exact wrap ▸ unwrap_device intact under)] at frame
  have o := c.opened r w.holds .opened
  have ranges : t.rmg.ranges = _ := frame .ranges (by decide)
  have keys : t.rmg.rangeKeys = _ := frame .rangeKeys (by decide)
  refine ⟨Table.ext_get fun q => ?_, ?_, ?_, ?_⟩
  · rw [Table.get_set, ranges]
    by_cases hq : r = q
    · subst hq
      rw [if_pos rfl, o.entry, own]
    · rw [if_neg hq, o.others q (Ne.symm hq), h.get, if_neg hq]
  · rw [keys, o.keys, h.keys, Table.set_set]
  · have loads := o.loads (by rw [own]) _ t frame (by decide)
    rw [h.kln, idle] at loads
    exact loads
  · exact (((h.frame.append o.frame).append frame) .faulty (by decide)).1

/-- The completion of a lock with `lock_enabled` false (R16, R19). -/
theorem State.LockDone.lockOpens (plain : (b.rmg.ranges.get r).flags.lockEnabled = false) (idle : b.kln.lane = .idle)
    (frame : Unchanged [.badRun] (c.openPlain LockState.isLocked [r]) t) :
    b.LockOpens r b.kln.slots b.kln.queue t := by
  have opens := h.opensPlain
  have own : c.rmg.ranges.get r = { b.rmg.ranges.get r with lock := .locked, slot := none } := by rw [h.get, if_pos rfl]
  refine ⟨fun w defined keyed wrap level => ?_, fun shut => ?_⟩
  · have open_ : c.opensPlain LockState.isLocked r = true := by
      refine opens.mpr ⟨defined, plain, keyed, by rw [wrap]; rfl, ?_⟩
      rcases level with calm | wary
      · rw [calm]
        rfl
      · rw [wary]
        rfl
    refine ⟨fun ⟨intact, under⟩ => h.opened open_ wrap intact under idle frame, fun fails => ?_⟩
    rw [State.openPlain_fails open_ (by rw [own]; exact wrap ▸ unwrap_device_none fails)] at frame
    have faulty : t.sto.faulty = (c.addFaulty (.rangeKey r)).sto.faulty := (frame .faulty (by decide)).1
    have before : c.sto.faulty = b.sto.faulty := (h.frame .faulty (by decide)).1
    refine ⟨h.shut ((c.addFaulty_unchanged _).append frame) idle, fun q => ?_⟩
    rw [faulty, State.mem_addFaulty, before]
  · have closed : c.opensPlain LockState.isLocked r = false := by
      rw [← Bool.not_eq_true, opens]
      rintro ⟨defined, -, keyed, wrap, level⟩
      rcases shut with undefined | erased | none_ | alarm | wiping
      · rw [undefined] at defined
        cases defined
      · rw [erased] at keyed
        cases keyed
      · rw [none_] at wrap
        cases wrap
      · rw [alarm] at level
        cases level
      · rw [wiping] at level
        cases level
    rw [State.openPlain_closed closed] at frame
    exact ⟨h.shut frame idle, ((h.frame.append frame) .faulty (by decide)).1⟩

/-- The map generation and what waits on the lock, whatever R16 makes of the range. -/
theorem State.LockDone.common {u : State} (step : Unchanged [.badRun] (c.openPlain LockState.isLocked [r]) u)
    (lnk : u.lnk = (c.openPlain LockState.isLocked [r]).lnk) (ht : t = u.settle) :
    t.rmg.mapGen = nextMapGen b.rmg.mapGen ∧ b.LockTold r t := by
  have counted : (c.openPlain LockState.isLocked [r]).Counted b.rmg.mapGen :=
    (State.openPlain_lockStep _ _ c).counted _ (by rw [State.Counted, h.bumped, h.mapGen]; rfl)
  have bumped := (State.openPlain_lockStep LockState.isLocked [r] c).bumped h.bumped
  have mapGen : u.rmg.mapGen = _ := step .mapGen (by decide)
  refine ⟨?_, ht ▸ (h.told.of_lnk (lnk.trans (State.openPlain_lnk _ _ _))).settle⟩
  rw [ht, State.settle_rmg, mapGen, counted, bumped]
  rfl

end

end Sys2Proof.Machine
end

section
/-! PROOFS. LANE_FRAME_SENT, LOAD_ACK and CLEAR_ACK (R16, R19, R58 to R61). -/

namespace Sys2Proof.Machine

/-! ## An answer taken (R58, R59) -/

theorem State.setLane_unchanged (l : Lane) (s : State) : Unchanged [.lane] s (s.onKln fun k => { k with lane := l }) := by
  intro p hp; cases p <;> simp_all [Part.same]

theorem State.setBadRun_unchanged (n : Nat) (s : State) : Unchanged [.badRun] s (s.onKln fun k => { k with badRun := n }) := by
  intro p hp; cases p <;> simp_all [Part.same]

theorem State.answered_unchanged (s : State) : Unchanged [.lane, .deadlines, .fallen] s s.answered :=
  ((s.cancel_unchanged _).append (State.setLane_unchanged _ _)).mono

theorem execLaneFrameSent_sending {s : State} {f : LaneFrame} (hp : s.pwc.power ≠ .unpowered) (lane : s.kln.lane = .sending f) :
    exec .laneFrameSent s =
      .next ((s.enter .laneAck (s.tmb.uptime + 4)).onKln fun k => { k with lane := .awaitAck f }).settle := by
  show execLaneFrameSent s = _
  rw [execLaneFrameSent, State.occur_of_powered (State.powered_of_ne hp), lane]

section
variable {e : List Part} {s u t : State}

/-- The acknowledgement deadline is gone after an answer, and no other. -/
theorem State.answered_ends (step : Unchanged e s.answered u) (ht : t = u.settle)
    (he : Part.deadlines ∉ e ∧ Part.fallen ∉ e := by decide) :
    t.deadline .laneAck = none ∧ s.OthersStand (· == .laneAck) t := by
  have all : Unchanged e s.answered t := ht ▸ step.trans u.settle_unchanged (List.Subset.refl _) (List.nil_subset _)
  have gone : s.answered.deadline .laneAck = none := (State.cancel_ended .laneAck s).1
  have others : s.OthersStand (· == .laneAck) s.answered := s.cancel_othersStand .laneAck
  exact ⟨(all.deadline (p := .laneAck) nofun he.1).trans gone, others.trans (all.othersStand he)⟩

/-- An occurrence's end lets the IDLE lane run on (R58). -/
theorem State.laneRuns_settle {q : List LaneFrame} (idle : u.kln.lane = .idle) (queue : u.kln.queue = q) (ht : t = u.settle) :
    t.LaneRuns q := by
  rw [ht, ← queue]
  exact State.settle_laneRuns idle

theorem State.settle_slots (u : State) : u.settle.kln.slots = u.kln.slots := u.settle_unchanged .slots (by decide)

theorem State.settle_badRun (u : State) : u.settle.kln.badRun = u.kln.badRun := u.settle_unchanged .badRun (by decide)

/-- From `s` to `t` the lane's frame is answered: its deadline is gone, the slots are `slots`, and the lane runs on with `queue`. -/
structure State.AnswerMoves (slots : Table Slot 8) (queue : List LaneFrame) (e : List Part) (s t : State) : Prop where
  ended : t.deadline .laneAck = none
  others : s.OthersStand (· == .laneAck) t
  lane : t.LaneRuns queue
  slots : t.kln.slots = slots
  frame : Unchanged e s t

theorem State.answerMoves {slots : Table Slot 8} {queue : List LaneFrame} (step : Unchanged e s.answered u)
    (idle : u.kln.lane = .idle) (hq : u.kln.queue = queue) (hs : u.kln.slots = slots)
    (he : Part.deadlines ∉ e ∧ Part.fallen ∉ e := by decide) :
    s.AnswerMoves slots queue ([.lane, .deadlines, .fallen] ++ e) u.settle where
  ended := (State.answered_ends step rfl he).1
  others := (State.answered_ends step rfl he).2
  lane := State.laneRuns_settle idle hq rfl
  slots := (State.settle_slots u).trans hs
  frame := (s.answered_unchanged.append step).trans u.settle_unchanged (List.Subset.refl _) (List.nil_subset _)

/-! ## A slot emptied by an answer (R60, R61) -/

/-- The answer is taken, slot `i` is EMPTY and the lane queue is what `g` makes of it. -/
def State.vacated (i : SlotIx) (g : List LaneFrame → List LaneFrame) (s : State) : State :=
  (s.answered.emptySlotAt i).onKln fun k => { k with queue := g k.queue }

theorem State.vacated_unchanged (i : SlotIx) (g : List LaneFrame → List LaneFrame) (s : State) :
    Unchanged [.slots, .lane, .deadlines, .fallen] s (s.vacated i g) :=
  ((s.answered_unchanged.append (State.onSlot_unchanged i _ _)).append (State.onLane_unchanged g _)).mono

/-- From the answer on, only the slot and the queue have changed. -/
theorem State.vacated_step (i : SlotIx) (g : List LaneFrame → List LaneFrame) (s : State) :
    Unchanged [.slots, .lane] s.answered (s.vacated i g) :=
  (State.onSlot_unchanged i _ _).append (State.onLane_unchanged g _)

theorem State.loadBad_loading {i : SlotIx} (loading : (s.kln.slots.get i).state = .loading) (run : s.kln.badRun ≤ 1) :
    s.answered.loadBad i = ((s.vacated i id).dropSlotField i).onKln fun k => { k with badRun := s.kln.badRun + 1 } := by
  have state : (s.answered.kln.slots.get i).state = .loading := loading
  have short : ¬ 3 ≤ s.answered.kln.badRun + 1 := by
    show ¬ 3 ≤ s.kln.badRun + 1
    omega
  rw [State.loadBad_eq, if_neg short, State.badLoad, State.unloaded, state]
  rfl

theorem State.loadBad_clearing {i : SlotIx} (clearing : (s.kln.slots.get i).state = .clearing) (run : s.kln.badRun ≤ 1) :
    s.answered.loadBad i =
      ((s.vacated i (unqueue .clear i)).clearComplete i).onKln fun k => { k with badRun := s.kln.badRun + 1 } := by
  have state : (s.answered.kln.slots.get i).state = .clearing := clearing
  have short : ¬ 3 ≤ s.answered.kln.badRun + 1 := by
    show ¬ 3 ≤ s.kln.badRun + 1
    omega
  rw [State.loadBad_eq, if_neg short, State.badLoad, State.unloaded, state]
  rfl

theorem State.clearGood_next {i : SlotIx} {o : Occupant} (next : (s.kln.slots.get i).next = some o) : s.answered.clearGood i =
    s.answered.onSlot i fun l => { l with state := .loading, occupant := some o, next := none } := by
  have same : (s.answered.kln.slots.get i).next = some o := next
  rw [State.clearGood, same]

theorem State.clearGood_none {i : SlotIx} (next : (s.kln.slots.get i).next = none) :
    s.answered.clearGood i = (s.vacated i id).clearComplete i := by
  have same : (s.answered.kln.slots.get i).next = none := next
  rw [State.clearGood, same]
  rfl

/-- The clear of a slot that no LOCKING range names takes the slot field away that names it, where there is one. -/
theorem State.clearComplete_open {i : SlotIx}
    (open_ : ∀ q, (s.rmg.ranges.get q).slot = some i → (s.rmg.ranges.get q).lock ≠ .locking) :
    (∃ q, (s.rmg.ranges.get q).slot = some i ∧ s.clearComplete i = s.removeSlotField q i) ∨
      ((∀ q, (s.rmg.ranges.get q).slot ≠ some i) ∧ s.clearComplete i = s) := by
  unfold State.clearComplete
  split
  · next q found =>
    have names : (s.rmg.ranges.get q).slot = some i := by simpa using List.find?_some found
    exact .inl ⟨q, names, if_neg (open_ q names)⟩
  · next nobody =>
    refine .inr ⟨fun q names => ?_, rfl⟩
    have := List.find?_eq_none.mp nobody q (List.mem_finRange q)
    simp [names] at this

theorem State.clearComplete_open_frame {i : SlotIx}
    (open_ : ∀ q, (s.rmg.ranges.get q).slot = some i → (s.rmg.ranges.get q).lock ≠ .locking) :
    Unchanged [.ranges] s (s.clearComplete i) ∧ (s.clearComplete i).kln = s.kln := by
  rcases State.clearComplete_open open_ with ⟨q, -, same⟩ | ⟨-, same⟩
  · rw [same]
    exact ⟨s.removeSlotField_unchanged q i, rfl⟩
  · rw [same]
    exact ⟨.refl _ _, rfl⟩

theorem State.clearComplete_sole {i : SlotIx} {r : RangeIx} (names : (s.rmg.ranges.get r).slot = some i)
    (sole : ∀ q, (s.rmg.ranges.get q).slot = some i → q = r) (open_ : (s.rmg.ranges.get r).lock ≠ .locking) :
    (s.clearComplete i).rmg.ranges = s.rmg.ranges.set r { s.rmg.ranges.get r with slot := none } := by
  rcases State.clearComplete_open fun q hq => by rw [sole q hq]; exact open_ with ⟨q, hq, same⟩ | ⟨nobody, -⟩
  · obtain rfl := sole q hq
    rw [same]
    exact congrArg (s.rmg.ranges.set q) (if_pos hq)
  · exact absurd names (nobody r)

/-! ## The lock that waits on the clear of the slot (R16, R19) -/

section
variable {i : SlotIx} {r : RangeIx} {g : List LaneFrame → List LaneFrame} (names : (s.rmg.ranges.get r).slot = some i)
  (sole : ∀ q, (s.rmg.ranges.get q).slot = some i → q = r) (locking : (s.rmg.ranges.get r).lock = .locking)
include names sole locking

theorem State.vacated_completes : (s.vacated i g).clearComplete i =
    ((s.vacated i g).finishLock r).bump.openPlain LockState.isLocked [r] :=
  State.clearComplete_locking (s := s.vacated i g) names sole locking

/-- The completed lock of a range with `lock_enabled` true (R19). -/
theorem State.vacated_shut (enabled : (s.rmg.ranges.get r).flags.lockEnabled = true) (fresh : s.model.bumped = false)
    (step : Unchanged [.badRun] ((s.vacated i g).clearComplete i) u) (lnk : u.lnk = ((s.vacated i g).clearComplete i).lnk)
    (ht : t = u.settle) :
    (t.kln.slots = s.kln.slots.set i (s.kln.slots.get i).emptied ∧ t.LaneRuns (g s.kln.queue)) ∧
      (t.rmg.ranges = s.rmg.ranges.set r { s.rmg.ranges.get r with lock := .locked, slot := none } ∧
        t.rmg.rangeKeys = s.rmg.rangeKeys.set r none ∧ t.rmg.mapGen = nextMapGen s.rmg.mapGen ∧ s.LockTold r t) ∧
      Unchanged [.rangeKeys, .ranges, .deferred, .mapGen] (s.vacated i g) ((s.vacated i g).clearComplete i) := by
  have done := State.lockDone (b := s.vacated i g) fresh r
  rw [State.vacated_completes names sole locking] at step lnk ⊢
  obtain ⟨mapGen, told⟩ := done.common step lnk ht
  have closed : ((s.vacated i g).finishLock r).bump.opensPlain LockState.isLocked r = false := by
    refine State.opensPlain_enabled ?_
    rw [done.get, if_pos rfl]
    exact enabled
  rw [State.openPlain_closed closed] at step ⊢
  obtain ⟨ranges, keys, slots, lane⟩ := done.shut (t := t) (ht ▸ step.append u.settle_unchanged) rfl
  exact ⟨⟨slots, lane⟩, ⟨ranges, keys, mapGen, told⟩, done.frame⟩

/-- The completed lock of a range with `lock_enabled` false (R16, R19). -/
theorem State.vacated_opens (plain : (s.rmg.ranges.get r).flags.lockEnabled = false) (fresh : s.model.bumped = false)
    (step : Unchanged [.badRun] ((s.vacated i g).clearComplete i) u) (lnk : u.lnk = ((s.vacated i g).clearComplete i).lnk)
    (ht : t = u.settle) :
    s.LockOpens r (s.kln.slots.set i (s.kln.slots.get i).emptied) (g s.kln.queue) t ∧
      t.rmg.mapGen = nextMapGen s.rmg.mapGen ∧ s.LockTold r t := by
  have done := State.lockDone (b := s.vacated i g) fresh r
  rw [State.vacated_completes names sole locking] at step lnk
  exact ⟨done.lockOpens plain rfl (ht ▸ step.append u.settle_unchanged), done.common step lnk ht⟩

end

end

/-! ## Where each answer ends -/

/-- The last bit of a frame is sent (R58, R59). -/
theorem State.awaited_settle {s u : State} (f : LaneFrame)
    (hu : u = (s.enter .laneAck (s.tmb.uptime + 4)).onKln fun k => { k with lane := .awaitAck f }) :
    u.settle.kln.lane = .awaitAck f ∧ u.settle.kln.queue = s.kln.queue ∧ u.settle.kln.ldo = s.kln.ldo ∧
      u.settle.deadline .laneAck = some (s.tmb.uptime + 4) ∧ s.OthersStand (· == .laneAck) u.settle ∧
      Unchanged [.lane, .deadlines, .fallen] s u.settle := by
  have entered : Unchanged [.lane, .deadlines, .fallen] s u :=
    hu ▸ ((s.enter_unchanged _ _).append (State.setLane_unchanged _ _)).mono
  have others : s.OthersStand (· == .laneAck) u := hu ▸ s.enter_othersStand .laneAck _
  have due : u.deadline .laneAck = some (s.tmb.uptime + 4) := hu ▸ s.enter_deadline .laneAck _
  have waits : u.kln.lane = .awaitAck f := hu ▸ rfl
  have queue : u.kln.queue = s.kln.queue := hu ▸ rfl
  have ldo : u.kln.ldo = s.kln.ldo := hu ▸ rfl
  clear hu
  have after := u.settle_unchanged
  rcases after .lane (by decide) with ⟨lane', queue', ldo'⟩ | ⟨idle, -⟩
  · exact ⟨lane'.trans waits, queue'.trans queue, ldo'.trans ldo, (after.deadline (p := .laneAck) nofun).trans due,
      others.trans after.othersStand, (entered.append after).mono⟩
  · rw [waits] at idle
    cases idle

/-- A LOAD answered good (R60). -/
theorem State.loadGood_moves (i : SlotIx) (s : State) : s.AnswerMoves
    (s.kln.slots.set i (if (s.kln.slots.get i).state = .loading then { s.kln.slots.get i with state := .loaded }
      else s.kln.slots.get i)) s.kln.queue [.lane, .deadlines, .fallen, .slots, .badRun] (s.answered.loadGood i).settle :=
  State.answerMoves ((State.onSlot_unchanged i _ s.answered).append (State.setBadRun_unchanged 0 _)) rfl rfl rfl

/-- A LOAD answered bad on a LOADING slot (R60). -/
theorem State.unloaded_moves {i : SlotIx} {n : Nat} {s u : State}
    (hu : u = ((s.vacated i id).dropSlotField i).onKln fun k => { k with badRun := n }) :
    s.AnswerMoves (s.kln.slots.set i (s.kln.slots.get i).emptied) s.kln.queue
      [.lane, .deadlines, .fallen, .slots, .lane, .ranges, .badRun] u.settle := by
  have step : Unchanged [.slots, .lane, .ranges, .badRun] s.answered u :=
    hu ▸ (((s.vacated_step i id).append (State.dropSlotField_unchanged i _)).append (State.setBadRun_unchanged _ _)).mono
  exact State.answerMoves step (hu ▸ rfl) (hu ▸ rfl) (hu ▸ rfl)

/-- A CLEAR answered good on a slot with a next occupant (R61). -/
theorem State.clearGood_moves {i : SlotIx} {o : Occupant} {s : State} (next : (s.kln.slots.get i).next = some o) :
    s.AnswerMoves (s.kln.slots.set i { s.kln.slots.get i with state := .loading, occupant := some o, next := none })
      s.kln.queue [.lane, .deadlines, .fallen, .slots] (s.answered.clearGood i).settle := by
  rw [State.clearGood_next next]
  exact State.answerMoves (State.onSlot_unchanged i _ s.answered) rfl rfl rfl

/-- A CLEAR answered good on a slot that no LOCKING range names (R61). -/
theorem State.emptied_moves {i : SlotIx} {s : State}
    (open_ : ∀ q, (s.rmg.ranges.get q).slot = some i → (s.rmg.ranges.get q).lock ≠ .locking) :
    s.AnswerMoves (s.kln.slots.set i (s.kln.slots.get i).emptied) s.kln.queue
      [.lane, .deadlines, .fallen, .slots, .lane, .ranges] ((s.vacated i id).clearComplete i).settle := by
  obtain ⟨step, kln⟩ := State.clearComplete_open_frame (s := s.vacated i id) open_
  exact State.answerMoves ((s.vacated_step i id).append step) (by rw [kln]; rfl) (by rw [kln]; rfl) (by rw [kln]; rfl)

section
variable {i : SlotIx} {r : RangeIx} {n : Nat} {s u : State}
  (hu : u = ((s.vacated i (unqueue .clear i)).clearComplete i).onKln fun k => { k with badRun := n })
include hu

/-- A LOAD answered bad on a CLEARING slot: what follows the end of the clear. -/
theorem State.badClear_step : Unchanged [.badRun] ((s.vacated i (unqueue .clear i)).clearComplete i) u :=
  hu ▸ State.setBadRun_unchanged n _

theorem State.badClear_lnk : u.lnk = ((s.vacated i (unqueue .clear i)).clearComplete i).lnk := hu ▸ rfl

/-- The answer to a LOAD on a CLEARING slot ends its deadline, and concerns what the clear does. -/
theorem State.badClear_ends : u.settle.deadline .laneAck = none ∧ s.OthersStand (· == .laneAck) u.settle ∧
    Unchanged (.badRun :: .deadlines :: .fallen :: Part.clears) s u.settle := by
  have cleared := (State.clearComplete_unchanged i (s.vacated i (unqueue .clear i))).append (State.badClear_step hu)
  obtain ⟨ended, others⟩ := State.answered_ends ((s.vacated_step i _).append cleared) rfl
  exact ⟨ended, others, (((s.vacated_unchanged i _).append cleared).append u.settle_unchanged).mono⟩

/-- Where the range of the slot is not LOCKING it is left without the slot (R60). -/
theorem State.badClear_open (names : (s.rmg.ranges.get r).slot = some i)
    (sole : ∀ q, (s.rmg.ranges.get q).slot = some i → q = r) (open_ : (s.rmg.ranges.get r).lock ≠ .locking) :
    s.AnswerMoves (s.kln.slots.set i (s.kln.slots.get i).emptied) (unqueue .clear i s.kln.queue)
        [.lane, .deadlines, .fallen, .slots, .lane, .ranges, .badRun] u.settle ∧
      u.settle.rmg.ranges = s.rmg.ranges.set r { s.rmg.ranges.get r with slot := none } := by
  obtain ⟨step, kln⟩ := State.clearComplete_open_frame (s := s.vacated i (unqueue .clear i)) fun q hq => by
    rw [sole q hq]
    exact open_
  have ranges : u.rmg.ranges = ((s.vacated i (unqueue .clear i)).clearComplete i).rmg.ranges := hu ▸ rfl
  refine ⟨State.answerMoves (((s.vacated_step i _).append step).append (State.badClear_step hu)) ?_ ?_ ?_, ?_⟩
  · rw [hu, State.onKln_kln, kln]
    rfl
  · rw [hu, State.onKln_kln, kln]
    rfl
  · rw [hu, State.onKln_kln, kln]
    rfl
  · rw [State.settle_rmg, ranges]
    exact State.clearComplete_sole (s := s.vacated i (unqueue .clear i)) names sole open_

end

/-- A CLEAR answered good on a slot without a next occupant (R61). -/
theorem execClearAck_cleared {s : State} {f : LaneFrame} (hp : s.pwc.power ≠ .unpowered) (lane : s.kln.lane = .awaitAck f)
    (op : f.op = .clear) (next : (s.kln.slots.get f.slot).next = none) :
    exec (.clearAck true) s = .next ((s.vacated f.slot id).clearComplete f.slot).settle := by
  rw [execClearAck_awaited hp lane op, ← State.clearGood_none next]
  rfl

/-! ## The statement -/

/-- Settles O51: each answer is taken, moves its slot, and lets the lane run on; a lock that waits on the slot's clear completes. -/
theorem laneAnswersMoveTheirSlot : Obligations.LaneAnswersMoveTheirSlot := by
  refine ⟨fun s f hp lane => ?_, fun s f hp lane op => ⟨?_, fun loading run => ?_, fun r clearing run names sole fresh => ?_⟩,
    fun s f hp lane op => ⟨fun o next => ?_, fun next open_ => ?_, fun r next names sole locking fresh => ⟨fun enabled => ?_,
      fun plain => ?_⟩⟩⟩
  · obtain ⟨waits, queue, ldo, due, others, frame⟩ := State.awaited_settle f rfl
    exact ⟨_, execLaneFrameSent_sending hp lane, waits, queue, ldo, due, others, frame⟩
  · have moves := s.loadGood_moves f.slot
    refine ⟨_, execLoadAck_awaited hp lane op true, State.settle_badRun _, moves.ended, moves.others, moves.lane,
      fun loading => ?_, fun clearing => ?_, moves.frame.mono⟩
    · exact moves.slots.trans (by rw [if_pos loading])
    · exact moves.slots.trans (by rw [if_neg (by simp [clearing]), Table.set_get_self])
  · obtain ⟨u, hu⟩ : ∃ u, u = ((s.vacated f.slot id).dropSlotField f.slot).onKln fun k =>
      { k with badRun := s.kln.badRun + 1 } := ⟨_, rfl⟩
    have moves := State.unloaded_moves hu
    refine ⟨u.settle, ?_, (State.settle_badRun u).trans (hu ▸ rfl), moves.ended, moves.others, moves.lane, moves.slots,
      fun r => ?_, moves.frame.mono⟩
    · rw [execLoadAck_awaited hp lane op, hu, ← State.loadBad_loading loading run]
      rfl
    · rw [State.settle_rmg, hu]
      exact State.dropSlotField_get f.slot r (s.vacated f.slot id)
  · obtain ⟨u, hu⟩ : ∃ u, u = ((s.vacated f.slot (unqueue .clear f.slot)).clearComplete f.slot).onKln fun k =>
      { k with badRun := s.kln.badRun + 1 } := ⟨_, rfl⟩
    have step := State.badClear_step hu
    have lnk := State.badClear_lnk hu
    obtain ⟨ended, others, frame⟩ := State.badClear_ends hu
    refine ⟨u.settle, ?_, (State.settle_badRun u).trans (hu ▸ rfl), ended, others, ?_, fun open_ => ?_,
      fun locking enabled => ?_⟩
    · rw [execLoadAck_awaited hp lane op, hu, ← State.loadBad_clearing clearing run]
      rfl
    · rintro slots queue rfl rfl
      refine ⟨fun stays => ?_, fun locking plain => ?_⟩
      · by_cases locking : (s.rmg.ranges.get r).lock = .locking
        · exact (State.vacated_shut names sole locking (stays.resolve_left (absurd locking)) fresh step lnk rfl).1
        · have moves := (State.badClear_open hu names sole locking).1
          exact ⟨moves.slots, moves.lane⟩
      · obtain ⟨opens, mapGen, told⟩ := State.vacated_opens names sole locking plain fresh step lnk rfl
        exact ⟨opens, mapGen, told, frame.mono⟩
    · obtain ⟨moves, ranges⟩ := State.badClear_open hu names sole open_
      exact ⟨ranges, moves.frame.mono⟩
    · obtain ⟨-, ⟨ranges, keys, mapGen, told⟩, completed⟩ := State.vacated_shut names sole locking enabled fresh step lnk rfl
      exact ⟨ranges, keys, mapGen, told,
        (((s.vacated_unchanged f.slot _).append completed).append (step.append u.settle_unchanged)).mono⟩
  · have moves := State.clearGood_moves next
    exact ⟨_, execClearAck_awaited hp lane op true, moves.ended, moves.others, moves.lane, moves.slots, moves.frame.mono⟩
  · have moves := State.emptied_moves open_
    exact ⟨_, execClearAck_cleared hp lane op next, moves.ended, moves.others, moves.lane, moves.slots, moves.frame.mono⟩
  · obtain ⟨⟨slots, runs⟩, ⟨ranges, keys, mapGen, told⟩, completed⟩ :=
      State.vacated_shut (g := id) names sole locking enabled fresh (.refl _ _) rfl rfl
    obtain ⟨ended, others⟩ := State.answered_ends ((s.vacated_step f.slot id).append completed) rfl
    exact ⟨_, execClearAck_cleared hp lane op next, ended, others, runs, slots, ranges, keys, mapGen, told,
      (((s.vacated_unchanged f.slot id).append completed).append (State.settle_unchanged _)).mono⟩
  · obtain ⟨opens, mapGen, told⟩ := State.vacated_opens (g := id) names sole locking plain fresh (.refl _ _) rfl rfl
    have cleared := State.clearComplete_unchanged f.slot (s.vacated f.slot id)
    obtain ⟨ended, others⟩ := State.answered_ends ((s.vacated_step f.slot id).append cleared) rfl
    exact ⟨_, execClearAck_cleared hp lane op next, ended, others, opens, mapGen, told,
      (((s.vacated_unchanged f.slot id).append cleared).append (State.settle_unchanged _)).mono⟩

end Sys2Proof.Machine
end

section
/-! PROOFS. The slot that an allocation takes (R35, R52, R53). -/

namespace Sys2Proof.Machine

/-! ## The oldest candidate (R52) -/

/-- Of the best candidate so far and the next one, the older; a tie leaves the one before (R52). -/
def State.older (s : State) (best : Option SlotIx) (i : SlotIx) : Option SlotIx :=
  match best with
  | none => some i
  | some b => if (s.kln.slots.get i).lastUse < (s.kln.slots.get b).lastUse then some i else some b

theorem State.oldestCandidate_eq (s : State) :
    s.oldestCandidate = (s.kln.slots.positions Slot.evictable).foldl s.older none := rfl

section
variable {s : State} {i : SlotIx}

/-- Slot `i` comes before slot `j` in the order of R52: used longer ago, or as long ago with a number no higher. -/
def State.comesFirst (s : State) (i j : SlotIx) : Prop :=
  (s.kln.slots.get i).lastUse < (s.kln.slots.get j).lastUse ∨
    ((s.kln.slots.get i).lastUse = (s.kln.slots.get j).lastUse ∧ i ≤ j)

theorem State.older_stays {l : List SlotIx} (first : ∀ j ∈ l, s.comesFirst i j) : l.foldl s.older (some i) = some i := by
  induction l with
  | nil => rfl
  | cons j l ih =>
    obtain ⟨here, later⟩ := List.forall_mem_cons.mp first
    have kept : s.older (some i) j = some i := if_neg (by rcases here with h | ⟨h, -⟩ <;> omega)
    rw [List.foldl_cons, kept, ih later]

/-- Among candidates in ascending order the search ends at the one that comes first. -/
theorem State.older_finds {before after : List SlotIx} (ascending : ∀ j ∈ before, j < i)
    (first : ∀ j ∈ before ++ i :: after, s.comesFirst i j) : (before ++ i :: after).foldl s.older none = some i := by
  obtain ⟨-, met⟩ := foldl_keeps_or_takes (f := s.older) (fun _ => rfl)
    (fun b a => by dsimp only [State.older]; split <;> simp) before
  have taken : s.older (before.foldl s.older none) i = some i := by
    cases found : before.foldl s.older none with
    | none => rfl
    | some b =>
      have hb := met b found
      have lower : b < i := ascending b hb
      refine if_pos ?_
      rcases first b (List.mem_append_left _ hb) with older | ⟨-, no⟩
      · exact older
      · exact absurd lower (Fin.not_lt.mpr no)
  rw [List.foldl_append, List.foldl_cons, taken]
  exact State.older_stays fun j hj => first j (List.mem_append_right _ (List.mem_cons_of_mem _ hj))

theorem Table.positions_ascending {α : Type} {n : Nat} (t : Table α n) (p : α → Bool) : (t.positions p).Pairwise (· < ·) :=
  (List.pairwise_lt_finRange n).filter _

theorem State.oldestCandidate_of_first (evictable : (s.kln.slots.get i).evictable = true)
    (first : ∀ j, (s.kln.slots.get j).evictable = true → s.comesFirst i j) : s.oldestCandidate = some i := by
  obtain ⟨before, after, split⟩ := List.append_of_mem (Table.mem_positions.mpr evictable)
  have ascending := Table.positions_ascending s.kln.slots Slot.evictable
  rw [split] at ascending
  rw [State.oldestCandidate_eq, split]
  refine State.older_finds (fun j hj => (List.pairwise_append.mp ascending).2.2 j hj i List.mem_cons_self) fun j hj => ?_
  rw [← split] at hj
  exact first j (Table.mem_positions.mp hj)

/-! ## What an allocation comes to (R52, R53) -/

theorem State.emptySlot_none : s.emptySlot = none ↔ ∀ j, (s.kln.slots.get j).state ≠ .empty := by
  rw [State.emptySlot, Table.lowest_none]
  simp

variable {r : RangeIx}

/-- With a slot EMPTY an allocation is an eager load (R52, R55). -/
theorem State.allocate_empty (slot : (s.rmg.ranges.get r).slot = none) (empty : ∃ i, (s.kln.slots.get i).state = .empty) :
    s.allocate r = some (s.eagerLoad r) := by
  unfold State.allocate State.eagerLoad
  rw [if_neg (by simp [slot])]
  cases free : s.emptySlot with
  | some i => rfl
  | none =>
    obtain ⟨i, hi⟩ := empty
    exact absurd hi (State.emptySlot_none.mp free i)

theorem State.allocate_evicts (full : ∀ j, (s.kln.slots.get j).state ≠ .empty) (oldest : s.oldestCandidate = some i) :
    s.allocate r = some (s.evict i r) := by
  unfold State.allocate
  rw [State.emptySlot_none.mpr full, oldest]

/-- The range whose key the slot holds, and it alone, loses the slot field that names it. -/
theorem State.vacate_get_eq (i : SlotIx) (s : State) (q : RangeIx) : (s.vacate i).rmg.ranges.get q =
    if (s.kln.slots.get i).occupant.map Occupant.range = some q ∧ (s.rmg.ranges.get q).slot = some i then
      { s.rmg.ranges.get q with slot := none }
    else s.rmg.ranges.get q := by
  unfold State.vacate
  cases (s.kln.slots.get i).occupant with
  | none => simp
  | some old => simp only [State.removeSlotField_get, Option.map_some, Option.some.injEq]

theorem State.evict_lane (i : SlotIx) (r : RangeIx) (s : State) : (s.evict i r).kln.lane = s.kln.lane ∧
    (s.evict i r).kln.queue = s.kln.queue ++ [{ op := .clear, slot := i, key := none },
      { op := .load, slot := i, key := some (s.occupantOf r) }] := by
  have lane : (s.evict i r).kln.lane = (s.vacate i).kln.lane := rfl
  have queue : (s.evict i r).kln.queue = (s.vacate i).kln.queue ++ [{ op := .clear, slot := i, key := none },
      { op := .load, slot := i, key := some (s.occupantOf r) }] := rfl
  rw [lane, queue, State.vacate_kln]
  exact ⟨rfl, rfl⟩

theorem State.evict_get (i : SlotIx) (r q : RangeIx) (s : State) (slot : (s.rmg.ranges.get r).slot = none) :
    (s.evict i r).rmg.ranges.get q = if r = q then { s.rmg.ranges.get r with slot := some i }
      else (s.vacate i).rmg.ranges.get q := by
  have own : (s.vacate i).rmg.ranges.get r = s.rmg.ranges.get r :=
    (s.vacate_get_eq i r).trans (if_neg fun named => by rw [slot] at named; cases named.2)
  rw [State.evict_ranges, Table.get_set, own]

end

/-! ## A RESOLVE of one run (R35) -/

/-- The one run of a permitted range without a slot waits, whether the allocation succeeds or not. -/
theorem dispose_unslotted {kind : Access} {p : Piece} {r : RangeIx} {s : State} (hr : p.range = some r)
    (table : s.tabled r kind = none) (slot : (s.rmg.ranges.get r).slot = none) (full : Bool) :
    ∃ reason, dispose kind full { state := s, segments := [], pinned := [] } p =
      { state := (s.allocate r).getD s, segments := [p.judged (.wait reason)], pinned := [] } := by
  cases taken : s.allocate r with
  | some u => exact ⟨.loading, by simp [dispose, hr, table, Resolving.slot, slot, taken, Resolving.add_eq]⟩
  | none => exact ⟨.slotsPinned, by simp [dispose, hr, table, Resolving.slot, slot, taken, Resolving.add_eq]⟩

/-- A RESOLVE whose one run lies in a permitted range without a slot allocates, and answers. -/
theorem State.resolve_alone {h : Header} {start n : Nat} {kind : Access} {p : Piece} {r : RangeIx} {s : State}
    (one : s.pieces start n = [p]) (hr : p.range = some r) (table : s.tabled r kind = none)
    (slot : (s.rmg.ranges.get r).slot = none) :
    ∃ reply, s.resolve h start n kind = ((s.allocate r).getD s).answer 0x30 h.tag reply := by
  obtain ⟨reason, disposed⟩ := dispose_unslotted hr table slot (decide (32 ≤ s.srv.verdicts.length))
  have kept : ([p].take 8).foldl (dispose kind (decide (32 ≤ s.srv.verdicts.length)))
      { state := s, segments := [], pinned := [] } =
        { state := (s.allocate r).getD s, segments := [p.judged (.wait reason)], pinned := [] } := disposed
  unfold State.resolve
  simp only [one, kept]
  exact ⟨_, rfl⟩

/-- The same taken up: from the allocation to the end only the answer follows. -/
theorem resolve_alone_ends {h : Header} {start n : Nat} {kind : Access} {p : Piece} {r : RangeIx} {s : State}
    (hs : s.TakesUp (.resolve h start n (some kind))) (one : s.pieces start (n + 1) = [p]) (hr : p.range = some r)
    (table : s.tabled r kind = none) (slot : (s.rmg.ranges.get r).slot = none) :
    ∃ m t, s.lnk.Taken 1 m ∧ exec (.resolve h start n (some kind)) s = .next t ∧
      Unchanged [] (((s.onLnk fun _ => m).allocate r).getD (s.onLnk fun _ => m)) t := by
  obtain ⟨serves, level, sized⟩ := hs
  have sized : h.sized = true := sized
  obtain ⟨m, taken, run⟩ := State.request_accepts (kind := 0x30) (h := h)
    (checks := fun _ => [(h.sized && (some kind).isSome, .badArg)])
    (act := fun s => s.resolve h start (n + 1) kind) serves level fun _ => by simp [judge, sized]
  obtain ⟨reply, eq⟩ := State.resolve_alone (s := s.onLnk fun _ => m) (h := h) (kind := kind)
    ((s.pieces_onLnk _ start (n + 1)).trans one) hr table slot
  rw [eq] at run
  exact ⟨m, _, taken, run, (State.answer_unchanged _ _ _ _).append (State.settle_unchanged _)⟩

/-- Settles O49: the run allocates an EMPTY slot, evicts, or does neither; the answer to the CLEAR brings the next occupant. -/
theorem allocationTakesTheSlotOfTheRules : Obligations.AllocationTakesTheSlotOfTheRules := by
  refine ⟨fun s h start n kind p r o hs one hr table slot ho => ?_, fun s f o hp lane op next => ?_⟩
  · obtain ⟨m, t, taken, run, after⟩ := resolve_alone_ends hs one hr table slot
    obtain ⟨u, hu⟩ : ∃ u, u = s.onLnk fun _ => m := ⟨_, rfl⟩
    have lnk : Unchanged [.waiting] s u := hu ▸ State.taken_unchanged taken
    have kln : u.kln = s.kln := hu ▸ rfl
    have rmg : u.rmg = s.rmg := hu ▸ rfl
    rw [← hu] at after
    refine ⟨fun empty => ⟨t, run, ?_⟩, fun i l frames full hl loaded free first hframes => ⟨t, run, ?_⟩,
      fun none_ => ⟨t, run, ?_⟩⟩
    · rw [State.allocate_empty (s := u) (by rw [rmg, slot]) (by rw [kln]; exact empty), Option.getD_some] at after
      have loads := State.eagerLoad_loads (by rw [rmg, slot]) after
      have ranges : t.rmg.ranges = (u.eagerLoad r).rmg.ranges := after .ranges (by decide)
      rw [kln] at loads
      refine ⟨loads, fun q hq => ?_, ((lnk.append (u.eagerLoad_unchanged r)).append after).mono⟩
      rw [ranges, State.eagerLoad_get, if_neg (Ne.symm hq), rmg]
    · subst hl hframes ho
      have oldest : u.oldestCandidate = some i := by
        refine State.oldestCandidate_of_first (by rw [kln]; exact Slot.evictable_iff.mpr ⟨loaded, free⟩) fun j hj => ?_
        rw [kln, Slot.evictable_iff] at hj
        rw [State.comesFirst, kln]
        exact first j hj.1 hj.2
      rw [State.allocate_evicts (s := u) (by rw [kln]; exact full) oldest, Option.getD_some] at after
      have ranges : t.rmg.ranges = (u.evict i r).rmg.ranges := after .ranges (by decide)
      have slots : t.kln.slots = (u.evict i r).kln.slots := after .slots (by decide)
      have get (q : RangeIx) := u.evict_get i r q (by rw [rmg, slot])
      obtain ⟨lane, queue⟩ := u.evict_lane i r
      obtain ⟨runs, waits⟩ := State.laneQueue_of_same (after .lane (by decide)) lane queue
      rw [kln] at runs waits
      refine ⟨?_, ?_, fun q hq => ?_, fun idle => ?_, fun busy => ?_, ((lnk.append (u.evict_unchanged i r)).append after).mono⟩
      · rw [slots, State.evict_slots, State.vacate_kln, hu]
        rfl
      · rw [ranges, get, if_pos rfl, rmg]
      · rw [ranges, get, if_neg (Ne.symm hq), State.vacate_get_eq, kln, rmg]
      · rw [hu] at runs
        exact runs idle
      · rw [hu] at waits
        exact waits busy
    · have refused : u.allocate r = none := by
        refine State.allocate_none.mpr fun i takable => ?_
        obtain ⟨filled, pinned⟩ := none_ i
        rw [kln] at takable
        rcases takable with empty | ⟨loaded, free⟩
        · exact filled empty
        · have := pinned loaded
          omega
      rw [refused, Option.getD_none] at after
      exact (lnk.append after).mono
  · have moves := State.clearGood_moves next
    exact ⟨_, execClearAck_awaited hp lane op true, moves.lane, moves.slots⟩

end Sys2Proof.Machine
end

section
/-! PROOFS. READ_SLOTS and LIST_RANGES (R14, R68, R177). -/

namespace Sys2Proof.Machine

/-! ## The slots as they are listed (R68) -/

section
variable {s : State} {o : Occupant} {l : Slot}

theorem State.shownOccupant_admin (o : Option Occupant) : s.shownOccupant true o = o := by
  cases o <;> rfl

theorem State.shownOccupant_some (o : Occupant) :
    s.shownOccupant false (some o) = if s.concealed o.range then none else some o := by
  cases h : s.concealed o.range <;> simp [State.shownOccupant, h]

theorem State.hides_iff : s.hides l = true ↔
    ∃ o, s.concealed o.range = true ∧ (l.occupant = some o ∨ l.next = some o) := by
  simp only [State.hides, Bool.or_eq_true, Option.any_eq_true]
  constructor
  · rintro (⟨o, ho, hidden⟩ | ⟨o, ho, hidden⟩)
    · exact ⟨o, hidden, .inl ho⟩
    · exact ⟨o, hidden, .inr ho⟩
  · rintro ⟨o, hidden, ho | ho⟩
    · exact .inl ⟨o, ho, hidden⟩
    · exact .inr ⟨o, ho, hidden⟩

theorem Table.getElem?_list {α : Type} {n : Nat} (t : Table α n) (i : Fin n) : t.list[i.val]? = some (t.get i) :=
  List.getElem?_eq_getElem _

end

theorem execReadSlots_accepted {s : State} {h : Header} {acting : Option Nat} (hs : s.Serves (.readSlots h acting) 1)
    (level : s.thm.level ≠ .wiping) (sized : h.sized = true) (named : ∀ a, acting = some a → a ≤ 7) :
    ∃ t, exec (.readSlots h acting) s = .next t ∧
      s.Replied 0x32 h.tag (okWith (.slots s.rmg.mapGen s.kln.lane.number s.kln.hold s.kln.purgePulse
        s.sto.policy.haltPolicy s.kln.badRun (s.kln.queue.map fun f => (f.op, f.slot))
        (s.kln.slots.list.map (s.listedSlot (acting.any s.adminActs))))) t ∧
      Unchanged Part.replies s t := by
  have passes : acting.all (· < 8) = true := by
    cases acting with
    | none => rfl
    | some a => simpa using Nat.lt_succ_of_le (named a rfl)
  obtain ⟨m, taken, run⟩ := State.request_accepts (kind := 0x32) (h := h)
    (checks := fun _ => [(h.sized && acting.all (· < 8), .badArg)]) (act := fun s => s.answerOk 0x32 h
      (.slots s.rmg.mapGen s.kln.lane.number s.kln.hold s.kln.purgePulse s.sto.policy.haltPolicy s.kln.badRun
        (s.kln.queue.map fun f => (f.op, f.slot)) (s.kln.slots.list.map (s.listedSlot (acting.any s.adminActs)))))
    hs level fun _ => by simp [judge, sized, passes]
  obtain ⟨replied, rest⟩ := State.replied_taken taken (b := s.onLnk fun _ => m) rfl rfl
  exact ⟨_, run, replied, ((State.taken_unchanged taken).append rest).mono⟩

theorem execReadSlots_outside {s : State} {h : Header} {a : Nat} (hs : s.Serves (.readSlots h (some a)) 1)
    (level : s.thm.level ≠ .wiping) (sized : h.sized = true) (outside : 8 ≤ a) :
    ∃ t, exec (.readSlots h (some a)) s = .next t ∧ s.Replied 0x32 h.tag (.plain .badArg) t ∧ Unchanged Part.replies s t :=
  State.request_refused ⟨hs, level, sized⟩ fun _ => by
    have fails : ¬ a < 8 := by omega
    simp [judge, fails]

/-! ## The ranges in order (R1, R14) -/

section
variable {start : RangeIx → Nat}

theorem insertByStart_perm (r : RangeIx) (l : List RangeIx) : (insertByStart start r l).Perm (r :: l) := by
  induction l with
  | nil => exact .refl _
  | cons q l ih =>
    unfold insertByStart
    split
    · exact .refl _
    · exact (ih.cons q).trans (.swap r q l)

theorem insertByStart_ascending (r : RangeIx) {l : List RangeIx} (h : l.Pairwise fun a b => start a ≤ start b) :
    (insertByStart start r l).Pairwise fun a b => start a ≤ start b := by
  induction l with
  | nil => exact List.pairwise_singleton _ r
  | cons q l ih =>
    obtain ⟨least, rest⟩ := List.pairwise_cons.mp h
    unfold insertByStart
    split
    · next lower =>
      refine List.pairwise_cons.mpr ⟨fun a ha => ?_, h⟩
      rcases List.mem_cons.mp ha with rfl | ha
      · omega
      · exact lower.le.trans (least a ha)
    · next upper =>
      refine List.pairwise_cons.mpr ⟨fun a ha => ?_, ih rest⟩
      rcases List.mem_cons.mp ((insertByStart_perm r l).mem_iff.mp ha) with rfl | ha
      · omega
      · exact least a ha

theorem insertAll_perm (rs l : List RangeIx) :
    (rs.foldl (fun l r => insertByStart start r l) l).Perm (rs ++ l) := by
  induction rs generalizing l with
  | nil => exact .refl _
  | cons r rs ih =>
    exact (ih _).trans (((insertByStart_perm r l).append_left rs).trans List.perm_middle)

theorem insertAll_ascending (rs : List RangeIx) {l : List RangeIx} (h : l.Pairwise fun a b => start a ≤ start b) :
    (rs.foldl (fun l r => insertByStart start r l) l).Pairwise fun a b => start a ≤ start b := by
  induction rs generalizing l with
  | nil => exact h
  | cons r rs ih => exact ih (insertByStart_ascending r h)

end

section
variable (s : State)

/-- The first block of a range, 0 for the global one. -/
def State.startOf (r : RangeIx) : Nat := ((s.rmg.ranges.get r).geometry.map Geometry.start).getD 0

/-- The defined ranges but the global one, in ascending order of start. -/
def State.othersInOrder : List RangeIx :=
  (s.definedRanges.filter fun r => r != 0).foldl (fun l r => insertByStart s.startOf r l) []

theorem State.rangesInOrder_eq : s.rangesInOrder = 0 :: s.othersInOrder := rfl

theorem State.othersInOrder_perm : s.othersInOrder.Perm (s.definedRanges.filter fun r => r != 0) := by
  have perm := insertAll_perm (start := s.startOf) (s.definedRanges.filter fun r => r != 0) []
  rwa [List.append_nil] at perm

theorem State.mem_othersInOrder (r : RangeIx) : r ∈ s.othersInOrder ↔ s.defined r = true ∧ r ≠ 0 := by
  rw [s.othersInOrder_perm.mem_iff]
  simp [State.definedRanges, and_comm]

theorem State.mem_rangesInOrder (r : RangeIx) : r ∈ s.rangesInOrder ↔ s.defined r = true := by
  rw [State.rangesInOrder_eq, List.mem_cons, State.mem_othersInOrder]
  by_cases h : r = 0
  · simp [h, State.defined]
  · simp [h]

theorem State.othersInOrder_nodup : s.othersInOrder.Nodup :=
  s.othersInOrder_perm.nodup_iff.mpr (((List.nodup_finRange 16).filter _).filter _)

theorem State.rangesInOrder_nodup : s.rangesInOrder.Nodup := by
  rw [State.rangesInOrder_eq]
  exact List.nodup_cons.mpr ⟨fun h => ((s.mem_othersInOrder 0).mp h).2 rfl, s.othersInOrder_nodup⟩

variable {s}

/-- The starts listed ascend: disjoint ranges of at least one block have different ones. -/
theorem State.rangesInOrder_ascending (sound : s.RangesSound) : s.rangesInOrder.Pairwise fun q r =>
    ∀ g, (s.rmg.ranges.get q).geometry = some g → ∀ k, (s.rmg.ranges.get r).geometry = some k → g.start < k.start := by
  obtain ⟨global, inside, apart⟩ := sound
  have ascending : s.othersInOrder.Pairwise fun a b => s.startOf a ≤ s.startOf b :=
    insertAll_ascending _ List.Pairwise.nil
  rw [State.rangesInOrder_eq]
  refine List.pairwise_cons.mpr ⟨fun r _ g hg => ?_, (ascending.and s.othersInOrder_nodup).imp ?_⟩
  · rw [global] at hg
    cases hg
  · rintro q r ⟨le, ne⟩ g hg k hk
    rw [State.startOf, State.startOf, hg, hk] at le
    have le : g.start ≤ k.start := le
    obtain ⟨gBlocks, -⟩ := inside q g hg
    obtain ⟨kBlocks, -⟩ := inside r k hk
    rcases apart q r g k ne hg hk with h | h <;> omega

end

/-! ## The entries (R14) -/

/-- The ranges that LIST_RANGES shows, in order. -/
def State.shownRanges (admin : Bool) (s : State) : List RangeIx := s.rangesInOrder.filter fun r => !(s.concealed r) || admin

theorem State.mem_shownRanges {admin : Bool} {s : State} {r : RangeIx} : r ∈ s.shownRanges admin ↔
    s.defined r = true ∧ (s.concealed r = false ∨ admin = true) := by
  simp [State.shownRanges, State.mem_rangesInOrder]

theorem State.head_shownRanges (admin : Bool) (s : State) : (s.shownRanges admin).head? = some 0 := by
  have global : s.concealed 0 = false := by simp [State.concealed]
  rw [State.shownRanges, State.rangesInOrder_eq, List.filter_cons_of_pos (by simp [global])]
  rfl

theorem State.listed_starts {s : State} (sound : s.RangesSound) (admin : Bool) :
    (((s.shownRanges admin).map s.listed).filterMap fun e => e.geometry.map Geometry.start).Pairwise (· < ·) := by
  have start (r : RangeIx) : (s.listed r).geometry = (s.rmg.ranges.get r).geometry := by
    show (if r = 0 then none else _) = _
    split
    · next h => rw [h, sound.1]
    · rfl
  rw [List.filterMap_map, List.pairwise_filterMap]
  refine ((State.rangesInOrder_ascending sound).filter _).imp ?_
  intro q r ascends b hb c hc
  obtain ⟨g, hg, rfl⟩ := Option.map_eq_some_iff.mp hb
  obtain ⟨k, hk, rfl⟩ := Option.map_eq_some_iff.mp hc
  rw [start] at hg hk
  exact ascends g hg k hk

/-! ## The parts (R177) -/

theorem be_length (n v : Nat) : (be n v).length = n := by
  induction n generalizing v with
  | zero => rfl
  | succ n ih => simp [be, ih]

/-- No entry is longer than 25 bytes. -/
theorem ListedRange.bytes_length (e : ListedRange) : e.bytes.length ≤ 25 := by
  obtain ⟨index, geometry, flags, keyState, generation, lock, slot, concealed⟩ := e
  cases geometry <;> cases slot <;> simp [ListedRange.bytes, be_length, optBytes, flagsBytes, flagByte, enumByte]

theorem entries_length {l : List ListedRange} : (l.flatMap ListedRange.bytes).length ≤ 25 * l.length := by
  induction l with
  | nil => exact Nat.zero_le _
  | cons e l ih =>
    have := e.bytes_length
    rw [List.flatMap_cons, List.length_append, List.length_cons]
    omega

theorem entriesThatFit_fit (room : Nat) (l : List ListedRange) :
    ((l.take (entriesThatFit room l)).flatMap ListedRange.bytes).length ≤ room := by
  induction l generalizing room with
  | nil => simp [entriesThatFit]
  | cons e l ih =>
    unfold entriesThatFit
    split
    · have := ih (room - e.bytes.length)
      rw [Nat.add_comm, List.take_succ_cons, List.flatMap_cons, List.length_append]
      omega
    · simp

/-- Either all entries fit, or as many as the room holds for certain. -/
theorem entriesThatFit_many (room : Nat) (l : List ListedRange) :
    l.length ≤ entriesThatFit room l ∨ room < 25 * (entriesThatFit room l + 1) := by
  induction l generalizing room with
  | nil => exact .inl (Nat.zero_le _)
  | cons e l ih =>
    have := e.bytes_length
    unfold entriesThatFit
    split
    · refine (ih (room - e.bytes.length)).imp (fun all => ?_) fun many => ?_
      · rw [List.length_cons]
        omega
      · omega
    · exact .inr (by omega)

theorem ranges_bytes_length (part total mapGen visible : Nat) (entries : List ListedRange) :
    (Reply.bytes { result := .ok, body := .ranges part total mapGen visible entries }).length =
      14 + (entries.flatMap ListedRange.bytes).length := by
  simp [Reply.bytes, ReplyBody.bytes, be_length, listBytes]
  omega

/-- What the parts of a listing have in common: numbered in order, each within a frame, and together the entries. -/
structure ListsAll (mapGen visible : Nat) (entries : List ListedRange) (parts : List Reply) : Prop where
  some_ : 1 ≤ parts.length
  few : parts.length ≤ 2
  part : ∀ (i : Nat) (r : Reply), parts[i]? = some r → r.result = .ok ∧ r.bytes.length ≤ 240 ∧
    r.body = .ranges (i + 1) parts.length mapGen visible r.entries
  all : parts.flatMap Reply.entries = entries

theorem listParts_listsAll (mapGen visible : Nat) {entries : List ListedRange} (most : entries.length ≤ 16) :
    ListsAll mapGen visible entries (listParts mapGen visible entries) := by
  have fit := entriesThatFit_fit 226 entries
  have many := entriesThatFit_many 226 entries
  unfold listParts
  dsimp only
  split
  · next all =>
    rw [List.take_of_length_le all] at fit
    refine ⟨le_rfl, by simp, fun i r hr => ?_, List.append_nil _⟩
    cases i with
    | zero =>
      cases hr
      exact ⟨rfl, by rw [ranges_bytes_length]; omega, rfl⟩
    | succ i => cases hr
  · next split_ =>
    have rest := entries_length (l := entries.drop (entriesThatFit 226 entries))
    rw [List.length_drop] at rest
    refine ⟨by simp, le_rfl, fun i r hr => ?_, ?_⟩
    · match i, hr with
      | 0, hr =>
        cases hr
        exact ⟨rfl, by rw [ranges_bytes_length]; omega, rfl⟩
      | 1, hr =>
        cases hr
        exact ⟨rfl, by rw [ranges_bytes_length]; omega, rfl⟩
    · simp [Reply.entries]

/-! ## LIST_RANGES -/

/-- The replies of LIST_RANGES. -/
def State.listingReplies (acting : Option Nat) (s : State) : List Reply :=
  listParts s.rmg.mapGen s.visibleCapacity ((s.shownRanges (acting.any s.adminActs)).map s.listed)

theorem State.runDown_onLnk (f : Lnk → Lnk) (fuel p : Nat) (s : State) : (s.onLnk f).runDown fuel p = s.runDown fuel p := by
  induction fuel generalizing p with
  | zero => rfl
  | succ n ih =>
    have same : (s.onLnk f).concealedEndingAt p = s.concealedEndingAt p := rfl
    unfold State.runDown
    simp only [same, ih]

theorem State.listingReplies_onLnk (acting : Option Nat) (f : Lnk → Lnk) (s : State) :
    (s.onLnk f).listingReplies acting = s.listingReplies acting := by
  have visible : (s.onLnk f).visibleCapacity = s.visibleCapacity := s.runDown_onLnk f 15 _
  rw [State.listingReplies, visible]
  rfl

/-- Several replies at once join the outbound queue in their order. -/
theorem State.answers_lnk (kind tag : Byte) (rs : List Reply) (u : State) :
    (rs.foldl (fun t r => t.answer kind tag r) u).lnk.waiting = u.lnk.waiting ∧
      (rs.foldl (fun t r => t.answer kind tag r) u).lnk.outbound =
        u.lnk.outbound ++ rs.map fun r => OutFrame.reply (kind + 0x80) tag r := by
  induction rs generalizing u with
  | nil => exact ⟨rfl, (List.append_nil _).symm⟩
  | cons r rs ih =>
    obtain ⟨waiting, outbound⟩ := ih (u.answer kind tag r)
    refine ⟨waiting, outbound.trans ?_⟩
    exact List.append_assoc _ _ _

theorem execListRanges_accepted {s : State} {h : Header} {acting : Option Nat} (hs : s.Serves (.listRanges h acting) 2)
    (level : s.thm.level ≠ .wiping) (sized : h.sized = true) :
    ∃ t, exec (.listRanges h acting) s = .next t ∧ s.RepliedAll 0x23 h.tag (s.listingReplies acting) t ∧
      Unchanged Part.replies s t := by
  obtain ⟨m, taken, run⟩ := State.requestOf_accepts (kind := 0x23) (h := h) (checks := fun _ => [(h.sized, .badArg)])
    (act := fun s => (s.listingReplies acting).foldl (fun t r => t.answer 0x23 h.tag r) s) hs (Nat.le_succ 1) level
    fun _ => by simp [judge, sized]
  rw [State.listingReplies_onLnk] at run
  obtain ⟨waiting, outbound⟩ := State.answers_lnk 0x23 h.tag (s.listingReplies acting) (s.onLnk fun _ => m)
  have answers := Unchanged.foldl (fun (t : State) r => t.answer 0x23 h.tag r) (fun t r => t.answer_unchanged 0x23 h.tag r)
    (s.listingReplies acting) (s.onLnk fun _ => m)
  refine ⟨_, run, State.RepliedAll.settle ⟨waiting.trans taken.waiting, [], ?_⟩,
    ((State.taken_unchanged taken).append (answers.append (State.settle_unchanged _))).mono⟩
  rw [outbound, List.append_nil]
  exact congrArg (· ++ _) taken.outbound

theorem State.listingReplies_all (acting : Option Nat) (s : State) : ListsAll s.rmg.mapGen s.visibleCapacity
    ((s.shownRanges (acting.any s.adminActs)).map s.listed) (s.listingReplies acting) := by
  refine listParts_listsAll _ _ ?_
  rw [List.length_map]
  have distinct : (s.shownRanges (acting.any s.adminActs)).Nodup := s.rangesInOrder_nodup.filter _
  exact distinct.length_le_card.trans (le_of_eq (Fintype.card_fin 16))

/-- Settles O27: READ_SLOTS entry by entry; LIST_RANGES by the order of the ranges shown and the parts they are sent in. -/
theorem listingsHideConcealedRanges : Obligations.ListingsHideConcealedRanges := by
  intro s h acting level sized
  refine ⟨fun hs named => ?_, fun a ha outside hs => ?_, fun hs => ?_⟩
  · obtain ⟨t, run, replied, frame⟩ := execReadSlots_accepted hs level sized named
    refine ⟨t, _, run, replied, by simp [s.kln.slots.size], fun i => ?_, frame⟩
    refine ⟨s.listedSlot (acting.any s.adminActs) (s.kln.slots.get i), ?_, rfl, rfl, rfl, fun admin => ?_, fun user => ?_⟩
    · rw [List.getElem?_map, Table.getElem?_list]
      rfl
    · rw [admin]
      exact ⟨State.shownOccupant_admin _, State.shownOccupant_admin _, rfl⟩
    · rw [user]
      refine ⟨fun o ho => ?_, fun o ho => ?_, fun none_ => ?_, fun none_ => ?_, State.hides_iff⟩
      · exact (congrArg (s.shownOccupant false) ho).trans (State.shownOccupant_some o)
      · exact (congrArg (s.shownOccupant false) ho).trans (State.shownOccupant_some o)
      · exact congrArg (s.shownOccupant false) none_
      · exact congrArg (s.shownOccupant false) none_
  · subst ha
    exact execReadSlots_outside hs level sized outside
  · obtain ⟨t, run, replied, frame⟩ := execListRanges_accepted hs level sized
    obtain ⟨some_, few, part, all⟩ := s.listingReplies_all acting
    have indices : ((s.shownRanges (acting.any s.adminActs)).map s.listed).map ListedRange.index =
        s.shownRanges (acting.any s.adminActs) := by
      rw [List.map_map]
      exact List.map_id _
    refine ⟨t, s.listingReplies acting, run, replied, some_, few, part, ?_, ?_, ?_, fun r => ?_, fun sound => ?_, frame⟩
    all_goals rw [all]
    · intro e he
      obtain ⟨r, -, rfl⟩ := List.mem_map.mp he
      exact ⟨rfl, rfl⟩
    · rw [indices]
      exact s.rangesInOrder_nodup.filter _
    · rw [indices]
      exact s.head_shownRanges _
    · rw [indices]
      exact State.mem_shownRanges
    · exact State.listed_starts sound _

end Sys2Proof.Machine
end

end

section
/-! PROOFS. The statements about authorities and the requests refused short of acceptance, elaborated one at a time as those before. -/

set_option Elab.async false

section
/-! PROOFS. What the requests and completions of AUT share: deadlines, the reply to the engine's job, and a job that takes the engine. -/

namespace Sys2Proof.Machine

theorem authorityAt_val (a : AuthIx) : authorityAt a.val = some a := by simp [authorityAt]

/-! ## Deadlines (R149, R150) -/

/-- A deadline entered concerns the list alone, not what has fallen due. -/
theorem State.enter_lists (p : Purpose) (due : Nat) (s : State) : Unchanged [.deadlines] s (s.enter p due) := by
  intro q hq; cases q <;> simp_all [Part.same, State.enter, State.withdraw, State.withdrawAll, Tmb.otherFallen]

theorem State.enter_deadline_ne {p q : Purpose} (h : p ≠ q) (due : Nat) (s : State) :
    (s.enter q due).deadline p = s.deadline p := by
  have other : (({ purpose := q, due := due } : Deadline).purpose == p) = false := by simpa using Ne.symm h
  have list : (s.enter q due).tmb.deadlines =
      insertDeadline { purpose := q, due := due } (s.tmb.deadlines.filter fun d => !(d.purpose == q)) := rfl
  rw [State.deadline, State.deadline, list, ← List.head?_filter, insertDeadline_filter _ _ other, List.filter_filter,
    ← List.head?_filter]
  congr 3
  funext d
  by_cases hd : d.purpose = p
  · simp [hd, h]
  · simp [hd]

theorem State.withdraw_deadline (p : Purpose) (s : State) : (s.withdraw p).deadline p = none :=
  State.deadline_eq_none.mpr fun d hd => by simpa using (List.mem_filter.mp hd).2

theorem State.withdraw_othersStand (p : Purpose) (s : State) : s.OthersStand (· == p) (s.withdraw p) := by
  intro d hd _
  simp_all [State.withdraw, State.withdrawAll]

/-! ## The engine's job (R76, R77) -/

/-- The job's reply is placed in the entry that waits on the engine. -/
theorem State.answerJob_finishes {i : DeferIx} {d : Deferred} {s : State} (r : Reply) (hd : s.lnk.deferred.get i = some d)
    (hw : d.state = .working .engine) : (s.answerJob r).Finishes i d r := by
  have get : (s.answerJob r).lnk.deferred.get i = _ := Table.get_imap _ _ _
  refine .inl ?_
  rw [get, hd]
  simp [hw]

/-- The reply to the job makes no entry free and takes none. -/
theorem State.answerJob_isNone (r : Reply) (i : DeferIx) (s : State) :
    ((s.answerJob r).lnk.deferred.get i).isNone = (s.lnk.deferred.get i).isNone := by
  have get : (s.answerJob r).lnk.deferred.get i = _ := Table.get_imap _ _ _
  rw [get, Option.isNone_map]

/-- From `s`, whose request `u` has taken, to `t` the engine takes the job, and the lowest free entry waits on it. -/
structure State.TakesEngine (kind tag : Byte) (e : Engine) (s u t : State) : Prop where
  deferring : s.Deferring kind tag .aut t
  working : s.KeepsWorking t
  aut : t.aut = { u.aut with engine := e }
  frame : Unchanged [.deferred, .engine] u t

theorem State.takeEngine_takes {kind : Byte} {h : Header} {e : Engine} {s u : State} (hw : u.lnk.waiting = none)
    (hd : u.lnk.deferred = s.lnk.deferred) (hf : s.freeDeferred.isSome) :
    s.TakesEngine kind h.tag e u (u.takeEngine kind h e) := by
  obtain ⟨i, hi⟩ := Option.isSome_iff_exists.mp hf
  have place : u.freeDeferred = some i := by rw [State.freeDeferred, hd]; exact hi
  rw [State.takeEngine, place]
  have engine (t : State) : Unchanged [.engine] t (t.onAut fun a => { a with engine := e }) := t.setEngine_unchanged e
  exact ⟨(State.deferring_defer (t := u) hw hi).step (engine _),
    ((State.KeepsWorking.of_deferred hd).defer (State.get_freeDeferred hi)).step (engine _), rfl,
    ((u.defer_unchanged _ _ _ _ _ _).append (engine _)).mono⟩

theorem State.TakesEngine.settle {kind tag : Byte} {e : Engine} {s u t : State} (h : s.TakesEngine kind tag e u t) :
    s.TakesEngine kind tag e u t.settle :=
  ⟨h.deferring.settle, h.working.step (State.settle_unchanged _), (State.settle_aut t).trans h.aut,
    (h.frame.append (State.settle_unchanged _)).mono⟩

end Sys2Proof.Machine
end

section
/-! PROOFS. AUTHENTICATE: the backoff and the charge (R78, R79). -/

namespace Sys2Proof.Machine

/-- Ticks in seconds, rounded up. -/
theorem secondsUp_eq (ticks : Nat) : secondsUp ticks = (ticks + 1023) / 1024 := by
  unfold secondsUp
  split <;> omega

theorem State.backoffLeft_some {s : State} {a : AuthIx} {due : Nat} (h : s.deadline (.backoff a) = some due)
    (left : s.tmb.uptime < due) : s.backoffLeft a = some (due - s.tmb.uptime) := by
  simp [State.backoffLeft, h, left]

theorem State.backoffLeft_none {s : State} {a : AuthIx} (h : ∀ due, s.deadline (.backoff a) = some due → due ≤ s.tmb.uptime) :
    s.backoffLeft a = none := by
  unfold State.backoffLeft
  cases hd : s.deadline (.backoff a) with
  | none => rfl
  | some due => exact if_neg (Nat.not_lt.mpr (h due hd))

/-- Checks 1 to 5 of R78 pass. -/
structure State.MaySignIn (s : State) (a : AuthIx) : Prop where
  provisioned : s.aut.lifecycle = .provisioned
  level : s.thm.level = .alarm → isAdmin a = true
  enabled : (s.aut.auth.get a).kept.enabled = true
  out : (s.aut.auth.get a).signedIn = false
  paired : s.aut.secret = none ∨ s.aut.paired = true ∨ a = 7

theorem State.MaySignIn.checks {s : State} {a : AuthIx} (h : s.MaySignIn a) : judge (s.signInChecks a) = none := by
  have level : (s.thm.level != .alarm || isAdmin a) = true := by
    by_cases alarm : s.thm.level = .alarm
    · simp [h.level alarm]
    · simp [alarm]
  have paired : s.pairingPasses a = true := by
    rcases h.paired with k | k | k <;> simp [State.pairingPasses, k]
  simp [State.signInChecks, judge_cons, h.provisioned, level, h.enabled, h.out, paired, judge]

/-- AUTHENTICATE past check 5 of R78, taken up. -/
theorem execAuthenticate_accepted {s : State} {hd : Header} {a : AuthIx} {credential : List Byte} {P : State → Prop}
    (hs : s.TakesUp (.authenticate hd a.val credential)) (fits : credentialFits credential = true) (may : s.MaySignIn a)
    (hp : ∀ m, s.lnk.Taken 1 m → P ((s.onLnk fun _ => m).attempt hd a credential).settle) :
    ∃ t, exec (.authenticate hd a.val credential) s = .next t ∧ P t := by
  have sized : hd.sized = true := hs.2.2
  refine State.accepted hs (fun m _ => ?_) (fun m taken => ?_)
  · have pass : judge ((s.onLnk fun _ => m).signInChecks a) = none := may.checks
    simp [authorityAt_val, judge_cons, sized, fits, pass]
  · simp only [authorityAt_val]
    exact hp m taken

/-- The state in which an attempt has been counted, before the engine takes it (R79). -/
def State.counted (a : AuthIx) (s : State) : State :=
  (s.onAuthority a fun k => { k with failures := min (k.failures + 1) 255 }).onAut fun t =>
    { t with tryCount := min (t.tryCount + 1) 65535 }

theorem State.counted_auth (a b : AuthIx) (s : State) : (s.counted a).aut.auth.get b =
    if a = b then
      { s.aut.auth.get a with
        kept := { (s.aut.auth.get a).kept with failures := min ((s.aut.auth.get a).kept.failures + 1) 255 } }
    else s.aut.auth.get b :=
  State.onAuthority_auth a b (fun k => { k with failures := min (k.failures + 1) 255 }) s

theorem State.counted_unchanged (a : AuthIx) (s : State) : Unchanged [.authorities, .tryCount] s (s.counted a) := by
  intro p hp; cases p <;> simp_all [Part.same, State.counted, State.onAuthority]

theorem State.charge_eq (hd : Header) (a : AuthIx) (credential : List Byte) (s : State) : s.charge hd a credential =
    ((s.counted a).takeEngine 0x11 hd (.charging (.authenticate a credential) (waitsFor [.authority a, .counters]))).markAll
      [.authority a, .counters] := rfl

/-- The charge: f and G have counted the attempt, its reply waits on the engine, and both records are marked. -/
theorem State.charge_charges {s : State} {hd : Header} {a : AuthIx} {credential : List Byte} {m : Lnk}
    (taken : s.lnk.Taken 1 m) (free : s.freeDeferred.isSome) :
    let t := ((s.onLnk fun _ => m).charge hd a credential).settle
    s.Deferring 0x11 hd.tag .aut t ∧ s.KeepsWorking t ∧
      (∀ b, t.aut.auth.get b = ((s.onLnk fun _ => m).counted a).aut.auth.get b) ∧
      t.aut.tryCount = min (s.aut.tryCount + 1) 65535 ∧
      t.aut.engine.plain = .charging (.authenticate a credential) (waitsFor [.authority a, .counters]) ∧
      (∀ r ∈ [RecordId.authority a, .counters], t.Marked r) ∧
      Unchanged [.waiting, .deferred, .authorities, .tryCount, .engine, .operation, .dirty] s t := by
  simp only [State.charge_eq]
  obtain ⟨u, hu⟩ : ∃ u, u = (s.onLnk fun _ => m).counted a := ⟨_, rfl⟩
  rw [← hu]
  have takes := State.takeEngine_takes (kind := 0x11) (h := hd)
    (e := .charging (.authenticate a credential) (waitsFor [.authority a, .counters])) (s := s) (u := u)
    (hu ▸ taken.waiting) (hu ▸ taken.deferred) free
  have counted : Unchanged [.waiting, .authorities, .tryCount] s u :=
    hu ▸ ((State.taken_unchanged taken).append (State.counted_unchanged a _)).mono
  obtain ⟨v, hv⟩ : ∃ v, v = u.takeEngine 0x11 hd (.charging (.authenticate a credential) (waitsFor [.authority a, .counters])) :=
    ⟨_, rfl⟩
  rw [← hv] at takes ⊢
  have after : Unchanged Part.marks v (v.markAll [.authority a, .counters]).settle :=
    ((State.markAll_unchanged _ v).append (State.settle_unchanged _)).mono
  refine ⟨takes.deferring.step after, takes.working.step after, fun b => ?_, ?_, ?_,
    fun r hr => (State.marked_markAll hr v).of_sto (State.settle_sto _), ((counted.append takes.frame).append after).mono⟩
  · have auth : v.aut.auth = u.aut.auth := by rw [takes.aut]
    exact congrArg (Table.get · b) ((after .authorities (by decide)).trans auth)
  · exact (after .tryCount (by decide)).trans ((congrArg Aut.tryCount takes.aut).trans (hu ▸ rfl))
  · refine (after .engine (by decide)).trans (congrArg (fun t : Aut => t.engine.plain) takes.aut) |>.trans ?_
    simp [Engine.plain, waitsFor]

/-- Settles O31: before its deadline an attempt is answered, and after it it is counted, deferred and marked. -/
theorem authenticateChargesBeforeItDerives : Obligations.AuthenticateChargesBeforeItDerives := by
  intro s hd a credential hs fits provisioned level enabled out paired
  have may : s.MaySignIn a := ⟨provisioned, level, enabled, out, paired⟩
  refine ⟨fun due hdue early => execAuthenticate_accepted hs fits may fun m taken => ?_,
    fun due idle free => execAuthenticate_accepted hs fits may fun m taken => ?_⟩
  · have left : (s.onLnk fun _ => m).backoffLeft a = some (due - s.tmb.uptime) := State.backoffLeft_some (s := s) hdue early
    rw [State.attempt, left, ← secondsUp_eq]
    exact State.answered_only taken
  · have ended : (s.onLnk fun _ => m).backoffLeft a = none := State.backoffLeft_none (s := s) due
    have pass : ((s.onLnk fun _ => m).aut.engine.isIdle && (s.onLnk fun _ => m).freeDeferred.isSome) = true := by
      rw [State.freeDeferred_taken taken, free, State.onLnk_aut, idle]
      rfl
    rw [State.attempt, ended]
    simp only [pass, if_true]
    obtain ⟨deferring, working, auth, tries, engine, marked, frame⟩ :=
      State.charge_charges (hd := hd) (a := a) (credential := credential) taken free
    have own := (auth a).trans ((State.counted_auth a a _).trans (if_pos rfl))
    refine ⟨deferring, working, by rw [own]; rfl, by rw [own]; rfl, by rw [own]; exact out, fun b hb => ?_, tries, engine,
      marked _ (by simp), marked _ (by simp), frame⟩
    exact (auth b).trans ((State.counted_auth a b _).trans (if_neg (Ne.symm hb)))

end Sys2Proof.Machine
end

section
/-! PROOFS. Pairing (R90 to R92). -/

namespace Sys2Proof.Machine

/-- The secret, the token, the paired mark and the nonce are one part. -/
theorem State.setPairing_unchanged (secret : Option (BitVec 256)) (token : Option TokenDigest) (paired : Bool)
    (nonce : Option Nat) (s : State) : Unchanged [.pairing] s
      (s.onAut fun a => { a with secret := secret, token := token, paired := paired, nonce := nonce }) := by
  intro p hp; cases p <;> simp_all [Part.same]

/-- So is the nonce alone. -/
theorem State.setNonce_unchanged (nonce : Option Nat) (s : State) :
    Unchanged [.pairing] s (s.onAut fun a => { a with nonce := nonce }) :=
  s.setPairing_unchanged s.aut.secret s.aut.token s.aut.paired nonce

/-- A reply at once, where since the request was taken other parts than LNK alone have changed. -/
theorem State.answered_after {kind tag : Byte} {r : Reply} {e : List Part} {s u : State} {m : Lnk} (taken : s.lnk.Taken 1 m)
    (link : u.lnk = m) (frame : Unchanged e (s.onLnk fun _ => m) u) :
    s.Replied kind tag r (u.answer kind tag r).settle ∧ Unchanged (.waiting :: e) s (u.answer kind tag r).settle := by
  refine ⟨State.replied_at_once (link ▸ taken.waiting) (link ▸ taken.outbound), ?_⟩
  have all := (((State.taken_unchanged taken).append frame).append (State.answer_unchanged kind tag r u)).append
    (State.settle_unchanged _)
  exact fun p hp => all p (by simpa using hp)

/-- PAIR_CHALLENGE with a secret set: the nonce is the next draw. -/
theorem execPairChallenge_accepted {s : State} {hd : Header} (hs : s.TakesUp (.pairChallenge hd)) (secret : s.aut.secret.isSome) :
    ∃ t, exec (.pairChallenge hd) s = .next t ∧ s.Replied 0x17 hd.tag (okWith (.nonce s.model.draws)) t ∧
      t.aut = { s.aut with nonce := some s.model.draws } ∧ t.model.draws = s.model.draws + 1 ∧
      Unchanged [.waiting, .outbound, .pairing, .draws] s t := by
  have sized : hd.sized = true := hs.2.2
  refine State.accepted hs (fun m _ => by simp [judge, sized, secret]) (fun m taken => ?_)
  have frame : Unchanged [.draws, .pairing] (s.onLnk fun _ => m)
      ((s.onLnk fun _ => m).draw.onAut fun a => { a with nonce := some s.model.draws }) :=
    ((State.draw_unchanged _).append (State.setNonce_unchanged _ _)).mono
  obtain ⟨replied, all⟩ := State.answered_after (kind := 0x17) (tag := hd.tag) (r := okWith (.nonce s.model.draws)) taken rfl frame
  exact ⟨replied, State.settle_aut _, (State.settle_unchanged _) .draws (by decide), all.mono⟩

/-- PAIR_PROVE with a secret set and a nonce given, taken up. -/
theorem execPairProve_accepted {s : State} {hd : Header} {proof : List Byte} {P : State → Prop} (hs : s.TakesUp (.pairProve hd proof))
    (secret : s.aut.secret.isSome) (size : proof.length = 32) (nonce : s.aut.nonce.isSome)
    (matching : proofMatches s.aut.secret s.aut.nonce proof = true → ∀ m, s.lnk.Taken 1 m →
      P (((((s.onLnk fun _ => m).onAut fun a => { a with nonce := none }).onAut fun a => { a with paired := true }).cancel
        .pairing).answer 0x18 hd.tag (okWith .empty)).settle)
    (other : proofMatches s.aut.secret s.aut.nonce proof = false → ∀ m, s.lnk.Taken 1 m →
      P ((((s.onLnk fun _ => m).onAut fun a => { a with nonce := none }).answer 0x18 hd.tag (.plain .failed)).raiseTrigger
        .pairing).settle) :
    ∃ t, exec (.pairProve hd proof) s = .next t ∧ P t := by
  have sized : hd.sized = true := hs.2.2
  refine State.accepted hs (fun m _ => by simp [judge, sized, secret, size, nonce]) (fun m taken => ?_)
  cases matched : proofMatches s.aut.secret s.aut.nonce proof with
  | true =>
    simp only [State.onLnk_aut, matched, if_true]
    exact matching matched m taken
  | false =>
    simp only [State.onLnk_aut, matched, Bool.false_eq_true, if_false]
    exact other matched m taken

/-- A matching proof pairs the part and ends the window; LNK only answers. -/
theorem pairProve_pairs {s : State} {tag : Byte} {m : Lnk} (taken : s.lnk.Taken 1 m) :
    let t := (((((s.onLnk fun _ => m).onAut fun a => { a with nonce := none }).onAut fun a => { a with paired := true }).cancel
        .pairing).answer 0x18 tag (okWith .empty)).settle
    s.Replied 0x18 tag (okWith .empty) t ∧ t.aut = { s.aut with nonce := none, paired := true } ∧ t.deadline .pairing = none ∧
      s.OthersStand (· == .pairing) t ∧ Unchanged [.waiting, .pairing, .deadlines, .fallen] s t := by
  intro t
  obtain ⟨b, hb⟩ : ∃ b, b = ((s.onLnk fun _ => m).onAut fun a => { a with nonce := none }).onAut fun a =>
    { a with paired := true } := ⟨_, rfl⟩
  have ht : t = ((b.cancel .pairing).answer 0x18 tag (okWith .empty)).settle := hb ▸ rfl
  have before : Unchanged [.pairing] (s.onLnk fun _ => m) b :=
    hb ▸ State.setPairing_unchanged s.aut.secret s.aut.token true none _
  have after := (State.answer_unchanged 0x18 tag (okWith .empty) (b.cancel .pairing)).append (State.settle_unchanged _)
  obtain ⟨replied, all⟩ := State.answered_after (kind := 0x18) (tag := tag) (r := okWith .empty) taken
    (u := b.cancel .pairing) (hb ▸ rfl) (before.append (State.cancel_unchanged _ _))
  have others : s.OthersStand (· == .pairing) b := ((State.taken_unchanged taken).append before).othersStand
  rw [ht]
  refine ⟨replied, (State.settle_aut _).trans (hb ▸ rfl), (after.deadline (p := .pairing) nofun).trans (b.cancel_ended .pairing).1,
    (others.trans (b.cancel_othersStand .pairing)).trans after.othersStand, all.mono⟩

/-- Another proof raises PAIRING. -/
theorem pairProve_raises {s : State} {tag : Byte} {m : Lnk} (taken : s.lnk.Taken 1 m) :
    let t := ((((s.onLnk fun _ => m).onAut fun a => { a with nonce := none }).answer 0x18 tag (.plain .failed)).raiseTrigger
        .pairing).settle
    s.Replied 0x18 tag (.plain .failed) t ∧ t.aut = { s.aut with nonce := none } ∧
      t.thm.raised = s.thm.raised ++ [.pairing] ∧ Unchanged [.waiting, .pairing, .raised] s t := by
  intro t
  obtain ⟨b, hb⟩ : ∃ b, b = ((s.onLnk fun _ => m).onAut fun a => { a with nonce := none }) := ⟨_, rfl⟩
  have ht : t = ((b.raiseTrigger .pairing).answer 0x18 tag (.plain .failed)).settle := hb ▸ rfl
  have before : Unchanged [.pairing] (s.onLnk fun _ => m) b := hb ▸ State.setNonce_unchanged _ _
  obtain ⟨replied, all⟩ := State.answered_after (kind := 0x18) (tag := tag) (r := .plain .failed) taken
    (u := b.raiseTrigger .pairing) (hb ▸ rfl) (before.append (State.raiseTrigger_unchanged _ _))
  rw [ht]
  exact ⟨replied, (State.settle_aut _).trans (hb ▸ rfl), (congrArg Thm.raised (State.settle_thm _)).trans (hb ▸ rfl), all.mono⟩

/-- The PAIRING record replaced whole, in AUT. -/
def State.repaired (secret token : Option (List Byte)) (s : State) : State :=
  (s.onAut fun a =>
    { a with
      secret := secret.map bits256, token := token.map fun l => { token := l }, nonce := none
      paired := a.paired || secret.isSome }).withdraw .pairing

/-- SET_PAIRING by a signed-in admin, the guard passing, taken up. -/
theorem execSetPairing_accepted {s : State} {hd : Header} {acting : Nat} {secret token : Option (List Byte)} {P : State → Prop}
    (hs : s.TakesUp (.setPairing hd acting secret token)) (ha : s.adminActs acting = true)
    (guard : s.guardPasses hd.strap = true) (fitsSecret : secret.all (fun l => l.length = 32) = true)
    (fitsToken : token.all tokenFits = true) (free : s.freeDeferred.isSome)
    (hp : ∀ m, s.lnk.Taken 1 m → P ((((s.onLnk fun _ => m).repaired secret token).deferWrites 0x19 hd .aut none [.pairing] none
      (.plain .ok) (storeFault .none)).mark .pairing).settle) :
    ∃ t, exec (.setPairing hd acting secret token) s = .next t ∧ P t := by
  obtain ⟨names, signed⟩ := State.adminActs_iff.mp ha
  have sized : hd.sized = true := hs.2.2
  refine State.accepted hs (fun m taken => ?_) hp
  have signed (m : Lnk) : (s.onLnk fun _ => m).signedIn acting = true := signed
  have guard (m : Lnk) : (s.onLnk fun _ => m).guardPasses hd.strap = true := guard
  rw [State.freeDeferred_taken taken]
  simp [judge, signed, names, guard, sized, fitsSecret, fitsToken, free]

/-- SET_PAIRING's writes: the reply waits for the record, and the record is marked. -/
theorem setPairing_replaces {s : State} {hd : Header} {secret token : Option (List Byte)} {m : Lnk} (taken : s.lnk.Taken 1 m)
    (free : s.freeDeferred.isSome) :
    let t := ((((s.onLnk fun _ => m).repaired secret token).deferWrites 0x19 hd .aut none [.pairing] none
      (.plain .ok) (storeFault .none)).mark .pairing).settle
    s.Deferring 0x19 hd.tag .aut t ∧ s.KeepsWorking t ∧ t.aut.secret = secret.map bits256 ∧
      t.aut.token = (token.map fun l => { token := l }) ∧ t.aut.nonce = none ∧ t.aut.paired = (s.aut.paired || secret.isSome) ∧
      t.deadline .pairing = none ∧ s.OthersStand (· == .pairing) t ∧ t.Marked .pairing ∧
      Unchanged [.waiting, .deferred, .pairing, .deadlines, .operation, .dirty] s t := by
  intro t
  obtain ⟨b, hb⟩ : ∃ b, b = (s.onLnk fun _ => m).onAut fun a =>
    { a with
      secret := secret.map bits256, token := token.map fun l => { token := l }, nonce := none
      paired := a.paired || secret.isSome } := ⟨_, rfl⟩
  obtain ⟨v, hv⟩ : ∃ v, v = (b.withdraw .pairing).deferWrites 0x19 hd .aut none [.pairing] none (.plain .ok) (storeFault .none) :=
    ⟨_, rfl⟩
  have ht : t = (v.mark .pairing).settle := by rw [hv, hb]; rfl
  have before : Unchanged [.waiting, .pairing] s b :=
    ((State.taken_unchanged taken).append (hb ▸ State.setPairing_unchanged (secret.map bits256)
      (token.map fun l => { token := l }) (s.aut.paired || secret.isSome) none _)).mono
  have deferred : Unchanged [.deferred] (b.withdraw .pairing) v := hv ▸ State.deferWrites_unchanged _ _ _ _ _ _ _ _ _
  have after : Unchanged Part.marks v t := ht ▸ ((v.mark_unchanged _).append (State.settle_unchanged _)).mono
  have late := deferred.append after
  have deferring : s.Deferring 0x19 hd.tag .aut v :=
    hv ▸ State.deferring_deferWrites (hb ▸ taken.waiting) (hb ▸ taken.deferred) free
  have working : s.KeepsWorking v := hv ▸ State.keepsWorking_deferWrites (hb ▸ taken.deferred)
  obtain ⟨secretIs, tokenIs, pairedIs, nonceIs⟩ := late .pairing (by decide)
  have aut : (b.withdraw .pairing).aut =
      { s.aut with
        secret := secret.map bits256, token := token.map fun l => { token := l }, nonce := none
        paired := s.aut.paired || secret.isSome } := by
    rw [hb]
    rfl
  refine ⟨deferring.step after, working.step after, by rw [secretIs, aut], by rw [tokenIs, aut], by rw [nonceIs, aut],
    by rw [pairedIs, aut], (late.deadline (p := .pairing) nofun).trans (b.withdraw_deadline _),
    (before.othersStand.trans (b.withdraw_othersStand _)).trans late.othersStand,
    ht ▸ (v.marked_mark .pairing).of_sto (State.settle_sto _), ?_⟩
  exact ((before.append (b.withdraw_unchanged .pairing)).append late).mono

/-- PAIRING_WINDOW_EXPIRY of a window that has ended. -/
theorem execPairingWindowExpiry_fallen {s : State} (hp : s.pwc.power ≠ .unpowered) (fallen : s.HasFallen .pairing) :
    exec .pairingWindowExpiry s =
      .next (((s.claimed .pairing).onAut fun a => { a with nonce := none }).raiseTrigger .pairing).settle := by
  obtain ⟨due, taken⟩ := State.takeFallen_eq fallen
  show execPairingWindowExpiry s = _
  rw [execPairingWindowExpiry, State.occur_of_powered (State.powered_of_ne hp)]
  simp only [taken]

/-- Settles O33: each of the four commands in its own words. -/
theorem pairingFollowsTheProof : Obligations.PairingFollowsTheProof := by
  refine ⟨fun s hd hs secret => ?_, fun s hd proof hs secret size nonce => ?_,
    fun s hd acting secret token hs ha guard fitsSecret fitsToken free => ?_, fun s hp fallen => ?_⟩
  · obtain ⟨t, run, replied, aut, draws, frame⟩ := execPairChallenge_accepted hs secret
    exact ⟨t, run, replied, by rw [aut], draws, by rw [aut], by rw [aut], by rw [aut], frame⟩
  · refine execPairProve_accepted hs secret size nonce (fun matched m taken => ?_) (fun matched m taken => ?_)
    · obtain ⟨replied, aut, ended, others, frame⟩ := pairProve_pairs (tag := hd.tag) taken
      refine ⟨by rw [aut], by rw [aut], by rw [aut], fun _ => ⟨replied, by rw [aut], ended, frame .raised (by decide)⟩,
        fun k => ?_, others, frame.mono⟩
      rw [matched] at k
      cases k
    · obtain ⟨replied, aut, raised, frame⟩ := pairProve_raises (tag := hd.tag) taken
      refine ⟨by rw [aut], by rw [aut], by rw [aut], fun k => ?_, fun _ => ⟨replied, by rw [aut], raised, frame.mono⟩,
        frame.othersStand, frame.mono⟩
      rw [matched] at k
      cases k
  · refine execSetPairing_accepted hs ha guard fitsSecret fitsToken free fun m taken => ?_
    obtain ⟨deferring, working, secretIs, tokenIs, nonce, paired, ended, others, marked, frame⟩ :=
      setPairing_replaces (hd := hd) (secret := secret) (token := token) taken free
    exact ⟨deferring, working, secretIs, tokenIs, nonce, fun k => by rw [paired, k, Bool.or_true], ended, others, marked, frame.mono⟩
  · have after : Unchanged [.pairing, .raised] (s.claimed .pairing)
        (((s.claimed .pairing).onAut fun a => { a with nonce := none }).raiseTrigger .pairing).settle :=
      (((State.setNonce_unchanged none _).append (State.raiseTrigger_unchanged _ _)).append (State.settle_unchanged _)).mono
    refine ⟨_, execPairingWindowExpiry_fallen hp fallen, ?_, ?_, ?_, ?_, ?_,
      (s.claimed_othersStand _).trans after.othersStand, ((s.claimed_unchanged _).append after).mono⟩
    · exact (s.claimed_taken _).of_othersStand (after.othersStand (mine := fun _ => false)) rfl nofun
    all_goals simp [State.raiseTrigger, State.claimed]

end Sys2Proof.Machine
end

section
/-! PROOFS. An attempt that fails, and the end of its backoff (R82, R83). -/

namespace Sys2Proof.Machine

/-- An entry that waits on the engine is the same whichever writes have started. -/
theorem Deferred.eq_of_plain_engine {d e : Deferred} (hd : d.state = .working .engine) (h : e.plain = d.plain) : e = d := by
  obtain ⟨kind, tag, owner, range, state⟩ := d
  obtain ⟨kind', tag', owner', range', state'⟩ := e
  subst hd
  cases state' with
  | working w => cases w <;> simp_all [Deferred.plain, Work.plain]
  | ready r => simp [Deferred.plain] at h

/-- A step that leaves the WORKING entries leaves the entry that waits on the engine. -/
theorem Unchanged.engineEntry {e : List Part} {i : DeferIx} {d : Deferred} {s t : State} (h : Unchanged e s t)
    (hd : s.lnk.deferred.get i = some d) (hw : d.state = .working .engine) (he : Part.deferred ∉ e := by decide) :
    t.lnk.deferred.get i = some d := by
  have same := h .deferred he i (by simp [hd, isReady, hw])
  rw [hd] at same
  obtain ⟨d', hd', plain⟩ := Option.map_eq_some_iff.mp same
  rw [hd', Deferred.eq_of_plain_engine hw plain]

/-- A step that leaves the engine leaves it IDLE. -/
theorem Unchanged.engine_idle {e : List Part} {s t : State} (h : Unchanged e s t) (hs : s.aut.engine = .idle)
    (he : Part.engine ∉ e := by decide) : t.aut.engine = .idle := by
  have same : t.aut.engine.plain = s.aut.engine.plain := h .engine he
  rwa [hs, Engine.plain, Engine.plain_idle] at same

/-- A USER is no admin authority. -/
theorem isAdmin_false_of_isUser {a : AuthIx} (h : isUser a = true) : isAdmin a = false := by
  revert h; revert a; decide

theorem State.setBackoff_lists (a : AuthIx) (s : State) : Unchanged [.deadlines] s (s.setBackoff a) := s.enter_lists _ _

theorem State.setBackoff_deadline (a : AuthIx) (s : State) :
    (s.setBackoff a).deadline (.backoff a) = some (s.tmb.uptime + delay (s.aut.auth.get a).kept.failures * 1024) :=
  s.enter_deadline _ _

theorem State.setBackoff_othersStand (a : AuthIx) (s : State) : s.OthersStand (· == .backoff a) (s.setBackoff a) :=
  s.enter_othersStand _ _

theorem State.disableAtLimit_auth (a b : AuthIx) (s : State) : (s.disableAtLimit a).aut.auth.get b =
    if a = b ∧ s.userAtLimit a = true then
      { s.aut.auth.get a with kept := { (s.aut.auth.get a).kept with enabled := false } }
    else s.aut.auth.get b := by
  unfold State.disableAtLimit
  split
  · next limit =>
    have marked := (State.mark_unchanged (.authority a) (s.onAuthority a fun k => { k with enabled := false })) .authorities
      (by decide)
    refine (congrArg (Table.get · b) marked).trans ((State.onAuthority_auth a b _ s).trans ?_)
    simp [limit]
  · next limit => simp [limit]

/-! ## The failure (R82, R83) -/

/-- The failed attempt before its reply: the engine IDLE, the backoff set, a USER at its limit disabled. -/
def State.failed (a : AuthIx) (s : State) : State :=
  ((s.onAut fun t => { t with engine := .idle }).setBackoff a).disableAtLimit a

/-- The FAILED reply (R82). -/
def AuthorityRec.failedReply (k : AuthorityRec) : Reply :=
  { result := .failed, body := .attemptFailed k.failures k.limit (delay k.failures) (!k.enabled) }

/-- BUDGET's condition (R83). -/
def State.spent (a : AuthIx) (s : State) : Bool := s.adminAtLimit a || s.overBudget

theorem State.attemptFailed_eq (a : AuthIx) (s : State) : s.attemptFailed a =
    if (s.failed a).spent a then
      ((s.failed a).answerJob ((s.failed a).aut.auth.get a).kept.failedReply).raiseTrigger .budget
    else (s.failed a).answerJob ((s.failed a).aut.auth.get a).kept.failedReply := rfl

theorem State.failed_auth (a b : AuthIx) (s : State) : (s.failed a).aut.auth.get b =
    if a = b ∧ s.userAtLimit a = true then
      { s.aut.auth.get a with kept := { (s.aut.auth.get a).kept with enabled := false } }
    else s.aut.auth.get b := State.disableAtLimit_auth a b ((s.onAut fun t => { t with engine := .idle }).setBackoff a)

theorem State.failed_unchanged (a : AuthIx) (s : State) :
    Unchanged [.authorities, .engine, .deadlines, .operation, .dirty] s (s.failed a) :=
  (((s.setEngine_unchanged .idle).append (State.setBackoff_lists a _)).append (State.disableAtLimit_unchanged a _)).mono

theorem State.failed_spent (a : AuthIx) (s : State) : (s.failed a).spent a = s.spent a := by
  have frame := s.failed_unchanged a
  have policy : (s.failed a).sto.policy = s.sto.policy := frame .policy (by decide)
  have tries : (s.failed a).aut.tryCount = s.aut.tryCount := frame .tryCount (by decide)
  have kept : ((s.failed a).aut.auth.get a).kept.limit = (s.aut.auth.get a).kept.limit ∧
      ((s.failed a).aut.auth.get a).kept.failures = (s.aut.auth.get a).kept.failures := by
    rw [State.failed_auth]
    split <;> exact ⟨rfl, rfl⟩
  simp only [State.spent, State.adminAtLimit, State.overBudget, policy, tries, kept]

/-- What a failed attempt comes to at the end of its occurrence. -/
structure State.FailsAttempt (a : AuthIx) (s t : State) : Prop where
  idle : t.aut.engine = .idle
  backoff : t.deadline (.backoff a) = some (s.tmb.uptime + delay (s.aut.auth.get a).kept.failures * 1024)
  auth : t.aut.auth = (s.failed a).aut.auth
  raised : t.thm.raised = if s.spent a then s.thm.raised ++ [.budget] else s.thm.raised
  reply : ∀ i d, s.lnk.deferred.get i = some d → d.state = .working .engine →
    t.Finishes i d ((s.failed a).aut.auth.get a).kept.failedReply
  others : s.OthersStand (· == .backoff a) t
  frame : Unchanged [.deferred, .authorities, .engine, .raised, .deadlines, .operation, .dirty] s t

/-- The reply is placed, BUDGET raised where its condition holds, and the occurrence ends. -/
theorem State.attemptFailed_fails (a : AuthIx) (s : State) : s.FailsAttempt a (s.attemptFailed a).settle := by
  obtain ⟨b, hb⟩ : ∃ b, b = (s.onAut fun t => { t with engine := .idle }).setBackoff a := ⟨_, rfl⟩
  obtain ⟨v, hv⟩ : ∃ v, v = (s.failed a).answerJob ((s.failed a).aut.auth.get a).kept.failedReply := ⟨_, rfl⟩
  have last : Unchanged [.raised] v (s.attemptFailed a) ∧ (s.attemptFailed a).lnk = v.lnk ∧
      (s.attemptFailed a).thm.raised = if s.spent a then s.thm.raised ++ [.budget] else s.thm.raised := by
    have raised : v.thm.raised = s.thm.raised := hv ▸ (s.failed_unchanged a) .raised (by decide)
    rw [State.attemptFailed_eq, State.failed_spent, ← hv]
    split
    · exact ⟨v.raiseTrigger_unchanged _, rfl, congrArg (· ++ [TriggerKind.budget]) raised⟩
    · exact ⟨.refl _ _, rfl, raised⟩
  obtain ⟨step, link, raised⟩ := last
  have answered : Unchanged [.deferred] (s.failed a) v := hv ▸ State.answerJob_unchanged _ _
  have disabled : Unchanged [.authorities, .operation, .dirty] b (s.failed a) :=
    hb ▸ (State.disableAtLimit_unchanged a _).mono
  have after := (answered.append step).append (State.settle_unchanged _)
  have late := disabled.append after
  have begun : s.OthersStand (· == .backoff a) b := by
    rw [hb]
    exact (s.setEngine_unchanged .idle).othersStand.trans (State.setBackoff_othersStand a _)
  refine ⟨late.engine_idle (hb ▸ rfl), ?_, after .authorities (by decide), (congrArg Thm.raised (State.settle_thm _)).trans raised,
    fun i d hd hw => ?_, begun.trans late.othersStand, ((s.failed_unchanged a).append after).mono⟩
  · refine (late.deadline (p := .backoff a) nofun).trans ?_
    rw [hb]
    exact State.setBackoff_deadline a _
  · have told : v.Finishes i d ((s.failed a).aut.auth.get a).kept.failedReply :=
      hv ▸ State.answerJob_finishes _ ((s.failed_unchanged a).engineEntry hd hw) hw
    refine told.step (.trans (m := (s.attemptFailed a).lnk) ?_ (State.settle_keepsTold _))
    rw [link]
    exact .refl _

/-- DERIVATION_COMPLETE of an attempt that does not match. -/
theorem execDerivationComplete_fails {s : State} {a : AuthIx} {credential : List Byte} {c : Credential}
    (hp : s.pwc.power ≠ .unpowered) (engine : s.aut.engine = .deriving_ (.authenticate a credential))
    (hc : (s.aut.auth.get a).kept.credential = some c)
    (differs : c.verifier ≠ { credential := credential, salt := c.salt, factor := c.factor }) :
    exec .derivationComplete s = .next (s.attemptFailed a).settle := by
  show execDerivationComplete s = _
  rw [execDerivationComplete, State.occur_of_powered (State.powered_of_ne hp)]
  simp only [engine, State.authenticated, hc, differs, if_false]

/-- BACKOFF_EXPIRY of a backoff that has fallen due. -/
theorem execBackoffExpiry_fallen {s : State} {a : AuthIx} (hp : s.pwc.power ≠ .unpowered) (fallen : s.HasFallen (.backoff a)) :
    exec (.backoffExpiry a.val) s = .next (s.claimed (.backoff a)).settle := by
  obtain ⟨due, taken⟩ := State.takeFallen_eq fallen
  show execBackoffExpiry a.val s = _
  rw [execBackoffExpiry, State.occur_of_powered (State.powered_of_ne hp)]
  simp only [authorityAt_val, taken]

/-- Settles O35: the failure leaves the charge, and its thresholds follow from the counts that stand. -/
theorem failedDerivationSetsTheBackoff : Obligations.FailedDerivationSetsTheBackoff := by
  refine ⟨fun s a credential c hp engine hc differs => ?_, fun s a hp fallen => ?_⟩
  · have fails := s.attemptFailed_fails a
    have own := s.failed_auth a a
    have auth (b : AuthIx) : (s.attemptFailed a).settle.aut.auth.get b = (s.failed a).aut.auth.get b := by rw [fails.auth]
    refine ⟨_, _, _, execDerivationComplete_fails hp engine hc differs, rfl, rfl, fails.idle, fails.backoff, ?_, ?_,
      fun b hb => ?_, fun user limit => ?_, fun below => ?_, fun spent => ?_, fun below budget => ?_, fun i d hd hw => ?_, fails.others,
      fails.frame.mono⟩
    · rw [auth, own]
      split <;> rfl
    · rw [auth, own]
      split <;> rfl
    · rw [auth, State.failed_auth, if_neg fun h => hb h.1.symm]
    · rw [auth, own]
      split
      · rfl
      · next h => simpa [State.userAtLimit, user, limit] using h
    · rw [auth, own, if_neg]
      rintro ⟨-, h⟩
      obtain ⟨⟨user, -⟩, limit⟩ : (isUser a = true ∧ (s.aut.auth.get a).kept.enabled = true) ∧
          (s.aut.auth.get a).kept.limit ≤ (s.aut.auth.get a).kept.failures := by simpa [State.userAtLimit] using h
      rcases below with out | below
      · rw [out] at user
        cases user
      · omega
    · rw [fails.raised, if_pos]
      rcases spent with ⟨admin, limit⟩ | budget
      · simp [State.spent, State.adminAtLimit, admin, limit]
      · simp [State.spent, budget]
    · rw [fails.raised, if_neg]
      have admin : s.adminAtLimit a = false := by
        rcases below with user | below
        · simp [State.adminAtLimit, isAdmin_false_of_isUser user]
        · simp [State.adminAtLimit, below]
      simp [State.spent, admin, budget]
    · have limit : ((s.failed a).aut.auth.get a).kept.failedReply = .mk .failed
          (.attemptFailed (s.aut.auth.get a).kept.failures (s.aut.auth.get a).kept.limit
            (delay (s.aut.auth.get a).kept.failures) (!((s.failed a).aut.auth.get a).kept.enabled)) := by
        rw [own]
        split <;> rfl
      have told := fails.reply i d hd hw
      rw [limit, ← auth] at told
      exact told
  · have after := State.settle_unchanged (s.claimed (.backoff a))
    exact ⟨_, execBackoffExpiry_fallen hp fallen,
      (s.claimed_taken _).of_othersStand (after.othersStand (mine := fun _ => false)) rfl nofun,
      (s.claimed_othersStand _).trans after.othersStand, ((s.claimed_unchanged _).append after).mono⟩

end Sys2Proof.Machine
end

section
/-! PROOFS. SIGN_OUT and DISABLE_AUTHORITY (R77, R85, R88). -/

namespace Sys2Proof.Machine

/-! ## The signed-in set (R5, R85) -/

/-- From `s` to `t` authority `a` is out of the signed-in set, and what the key cache held on its account is gone. -/
structure State.Leaves (a : AuthIx) (s t : State) : Prop where
  out : (t.aut.auth.get a).signedIn = false
  others : ∀ b, b ≠ a → t.aut.auth.get b = s.aut.auth.get b ∧ t.rmg.keks.get b = s.rmg.keks.get b
  kek : (s.aut.auth.get a).signedIn = true → isUser a = true → t.rmg.keks.get a = none
  domain : (s.aut.auth.get a).signedIn = true → t.rmg.domainKey = if t.adminSignedIn then s.rmg.domainKey else none
  keys : (s.aut.auth.get a).signedIn = false → t.rmg.keks = s.rmg.keks ∧ t.rmg.domainKey = s.rmg.domainKey

/-- An authority leaves the set, if it is in it. -/
def State.putOut (a : AuthIx) (s : State) : State := if (s.aut.auth.get a).signedIn then s.leaveSet a else s

theorem State.leaveSet_auth (a b : AuthIx) (s : State) : (s.leaveSet a).aut.auth.get b =
    if a = b then { s.aut.auth.get a with signedIn := false } else s.aut.auth.get b := s.setSignedIn_auth a b false

theorem State.leaveSet_keks (a : AuthIx) (s : State) :
    (s.leaveSet a).rmg.keks = if isUser a then s.rmg.keks.set a none else s.rmg.keks := rfl

theorem State.leaveSet_domainKey (a : AuthIx) (s : State) :
    (s.leaveSet a).rmg.domainKey = if (s.leaveSet a).adminSignedIn then s.rmg.domainKey else none := rfl

theorem State.putOut_leaves (a : AuthIx) (s : State) : s.Leaves a (s.putOut a) := by
  unfold State.putOut
  split
  · next signed =>
    refine ⟨by rw [State.leaveSet_auth, if_pos rfl], fun b hb => ⟨by rw [State.leaveSet_auth, if_neg (Ne.symm hb)], ?_⟩,
      fun _ user => by rw [State.leaveSet_keks, if_pos user, Table.get_set_self], fun _ => s.leaveSet_domainKey a, fun out => ?_⟩
    · rw [State.leaveSet_keks]
      split
      · exact Table.get_set_ne _ _ (Ne.symm hb)
      · rfl
    · rw [signed] at out
      cases out
  · next out => exact ⟨by simpa using out, fun _ _ => ⟨rfl, rfl⟩, fun k => absurd k out, fun k => absurd k out, fun _ => ⟨rfl, rfl⟩⟩

theorem State.putOut_kept (a : AuthIx) (s : State) : ((s.putOut a).aut.auth.get a).kept = (s.aut.auth.get a).kept := by
  unfold State.putOut
  split
  · rw [State.leaveSet_auth, if_pos rfl]
  · rfl

theorem State.putOut_unchanged (a : AuthIx) (s : State) : Unchanged [.authorities, .domainKey, .keks] s (s.putOut a) := by
  unfold State.putOut
  split
  · exact s.leaveSet_unchanged a
  · exact .refl _ _

theorem State.putOut_lnk (a : AuthIx) (s : State) : (s.putOut a).lnk = s.lnk := by
  unfold State.putOut
  split <;> rfl

theorem State.Leaves.step {a : AuthIx} {e : List Part} {s t u : State} (h : s.Leaves a t) (k : Unchanged e t u)
    (he : Part.authorities ∉ e ∧ Part.keks ∉ e ∧ Part.domainKey ∉ e := by decide) : s.Leaves a u := by
  have auth : u.aut.auth = t.aut.auth := k .authorities he.1
  have keks : u.rmg.keks = t.rmg.keks := k .keks he.2.1
  have domain : u.rmg.domainKey = t.rmg.domainKey := k .domainKey he.2.2
  have admin : u.adminSignedIn = t.adminSignedIn := by rw [State.adminSignedIn, State.adminSignedIn, auth]
  obtain ⟨out, others, kek, dom, keys⟩ := h
  rw [← keks] at kek keys
  rw [← domain, ← admin] at dom
  rw [← domain] at keys
  exact ⟨by rw [auth]; exact out, fun b hb => by rw [auth, keks]; exact others b hb, kek, dom, keys⟩

/-- What comes before it concerns the authority's retained part alone. -/
theorem State.Leaves.of_step {a : AuthIx} {s t u : State} (h : t.Leaves a u)
    (signed : (t.aut.auth.get a).signedIn = (s.aut.auth.get a).signedIn)
    (auth : ∀ b, b ≠ a → t.aut.auth.get b = s.aut.auth.get b) (keks : t.rmg.keks = s.rmg.keks)
    (domain : t.rmg.domainKey = s.rmg.domainKey) : s.Leaves a u := by
  obtain ⟨out, others, kek, dom, keys⟩ := h
  rw [signed] at kek dom keys
  rw [keks, domain] at keys
  rw [domain] at dom
  exact ⟨out, fun b hb => by rw [← auth b hb, ← keks]; exact others b hb, kek, dom, keys⟩

/-! ## SIGN_OUT -/

/-- SIGN_OUT taken up. -/
theorem execSignOut_accepted {s : State} {hd : Header} {a : AuthIx} {P : State → Prop} (hs : s.TakesUp (.signOut hd a.val))
    (hp : ∀ m, s.lnk.Taken 1 m → P ((((s.onLnk fun _ => m).putOut a).answer 0x12 hd.tag (okWith .empty)).settle)) :
    ∃ t, exec (.signOut hd a.val) s = .next t ∧ P t := by
  have sized : hd.sized = true := hs.2.2
  refine State.accepted hs (fun m _ => by simp [judge, sized, authorityAt_val]) (fun m taken => ?_)
  simp only [authorityAt_val]
  exact hp m taken

theorem signOut_leaves {s : State} {tag : Byte} {a : AuthIx} {m : Lnk} (taken : s.lnk.Taken 1 m) :
    let t := (((s.onLnk fun _ => m).putOut a).answer 0x12 tag (okWith .empty)).settle
    s.Replied 0x12 tag (okWith .empty) t ∧ s.Leaves a t ∧ (t.aut.auth.get a).kept = (s.aut.auth.get a).kept ∧
      ((s.aut.auth.get a).signedIn = false → Unchanged Part.replies s t) ∧
      Unchanged [.waiting, .outbound, .authorities, .domainKey, .keks] s t := by
  obtain ⟨u, hu⟩ : ∃ u, u = (s.onLnk fun _ => m).putOut a := ⟨_, rfl⟩
  rw [← hu]
  have frame : Unchanged [.authorities, .domainKey, .keks] (s.onLnk fun _ => m) u := hu ▸ State.putOut_unchanged a _
  obtain ⟨replied, all⟩ := State.answered_after (kind := 0x12) (tag := tag) (r := okWith .empty) taken
    (hu ▸ State.putOut_lnk a _) frame
  have after := (u.answer_unchanged 0x12 tag (okWith .empty)).append (State.settle_unchanged _)
  have leaves : s.Leaves a u := hu ▸ (State.putOut_leaves a _).of_step rfl (fun _ _ => rfl) rfl rfl
  have kept : (u.aut.auth.get a).kept = (s.aut.auth.get a).kept := hu ▸ State.putOut_kept a (s.onLnk fun _ => m)
  refine ⟨replied, leaves.step after, ?_, fun out => ?_, all.mono⟩
  · rw [(after .authorities (by decide) : _ = u.aut.auth), kept]
  · have same : u = s.onLnk fun _ => m := by
      rw [hu, State.putOut, State.onLnk_aut, out]
      rfl
    rw [same]
    exact (State.answered_only taken).2

/-! ## DISABLE_AUTHORITY -/

theorem State.freeDeferred_congr {s t : State} (h : ∀ i, (t.lnk.deferred.get i).isNone = (s.lnk.deferred.get i).isNone) :
    t.freeDeferred = s.freeDeferred := by
  simp only [State.freeDeferred, Table.lowest, h]

/-- What is told stays told where a free entry is taken. -/
theorem State.defer_keepsTold {i : DeferIx} {kind tag : Byte} {b : Block} {range : Option RangeIx} {w : Work} {s : State}
    (h : s.lnk.deferred.get i = none) : s.lnk.KeepsTold (s.defer i kind tag b range w).lnk := by
  refine ⟨fun j e r told => told.imp_left fun ready => ?_, fun _ => id⟩
  have ne : i ≠ j := by
    rintro rfl
    rw [h] at ready
    cases ready
  exact (Table.get_set_ne _ _ ne).trans ready

theorem State.deferWrites_keepsTold (kind : Byte) (h : Header) (b : Block) (range : Option RangeIx) (rs : List RecordId)
    (lock : Option RangeIx) (done fault : Reply) (s : State) :
    s.lnk.KeepsTold (s.deferWrites kind h b range rs lock done fault).lnk := by
  unfold State.deferWrites
  split
  · next i hi => exact State.defer_keepsTold (State.get_freeDeferred hi)
  · exact Lnk.keepsTold_of_same rfl rfl rfl

/-- From `s` to `t` a job of the authority `a` has been aborted (R77). -/
structure State.AbortsJobOf (a : AuthIx) (s t : State) : Prop where
  attempt : ∀ credential, s.aut.engine.job = some (.authenticate a credential) → t.aut.engine = .idle ∧
    t.deadline (.backoff a) = some (s.tmb.uptime + delay (s.aut.auth.get a).kept.failures * 1024) ∧
    ∀ i d, s.lnk.deferred.get i = some d → d.state = .working .engine → t.Finishes i d (.plain .disabled)
  renewal : ∀ credential salt factor grants startup,
    s.aut.engine.job = some (.setCredential a credential salt factor grants startup) → t.aut.engine = .idle ∧
    ∀ i d, s.lnk.deferred.get i = some d → d.state = .working .engine → t.Finishes i d (.plain .denied)
  other : (∀ credential, s.aut.engine.job ≠ some (.authenticate a credential)) →
    (∀ credential salt factor grants startup,
      s.aut.engine.job ≠ some (.setCredential a credential salt factor grants startup)) → t = s
  deadlines : ∀ p, p ≠ .backoff a → t.deadline p = s.deadline p
  entries : ∀ i, (t.lnk.deferred.get i).isNone = (s.lnk.deferred.get i).isNone
  waiting : t.lnk.waiting = s.lnk.waiting
  auth : t.aut.auth = s.aut.auth
  frame : Unchanged [.deadlines, .engine, .deferred] s t

/-- The job's own authority is disabled while it charges or derives. -/
theorem State.abortJob_attempt {a : AuthIx} {credential : List Byte} {s : State} (r : Reply)
    (job : s.aut.engine.job = some (.authenticate a credential)) :
    s.abortJob r = ((s.setBackoff a).onAut fun t => { t with engine := .idle }).answerJob r := by
  rw [State.abortJob, State.abortBackoff, job]

theorem State.abortJob_renewal {a : AuthIx} {credential : List Byte} {salt factor : Nat} {grants startup : List RangeIx}
    {s : State} (r : Reply) (job : s.aut.engine.job = some (.setCredential a credential salt factor grants startup)) :
    s.abortJob r = (s.onAut fun t => { t with engine := .idle }).answerJob r := by
  rw [State.abortJob, State.abortBackoff, job]

theorem State.abortJobOf_aborts (a : AuthIx) (s : State) : s.AbortsJobOf a (s.abortJobOf a) := by
  have unaffected (h : s.abortJobOf a = s) (no : ∀ credential, s.aut.engine.job ≠ some (.authenticate a credential))
      (none_ : ∀ credential salt factor grants startup,
        s.aut.engine.job ≠ some (.setCredential a credential salt factor grants startup)) : s.AbortsJobOf a (s.abortJobOf a) := by
    rw [h]
    exact ⟨fun c k => absurd k (no c), fun c x y g l k => absurd k (none_ c x y g l), fun _ _ => rfl, fun _ _ => rfl,
      fun _ => rfl, rfl, rfl, .refl _ _⟩
  cases job : s.aut.engine.job with
  | none => exact unaffected (by rw [State.abortJobOf, job]) (by simp [job]) (by simp [job])
  | some j =>
    cases j with
    | provision p => exact unaffected (by rw [State.abortJobOf, job]) (by simp [job]) (by simp [job])
    | authenticate b credential =>
      by_cases same : b = a
      · subst same
        obtain ⟨u, hu⟩ : ∃ u, u = (s.setBackoff b).onAut fun t => { t with engine := .idle } := ⟨_, rfl⟩
        have ended : s.abortJobOf b = u.answerJob (.plain .disabled) := by
          rw [State.abortJobOf, job, hu, ← State.abortJob_attempt _ job]
          exact if_pos rfl
        rw [ended]
        refine ⟨fun _ _ => ⟨hu ▸ rfl, ?_, fun i d hd hw => State.answerJob_finishes _ (hu ▸ hd) hw⟩, by simp [job], ?_,
          fun p hp => ?_, fun i => (State.answerJob_isNone _ i u).trans (hu ▸ rfl), hu ▸ rfl, hu ▸ rfl, ?_⟩
        · exact hu ▸ s.setBackoff_deadline b
        · exact fun k => absurd job (k credential)
        · exact hu ▸ s.enter_deadline_ne hp _
        · exact hu ▸ (((s.setBackoff_lists b).append (State.setEngine_unchanged .idle _)).append
            (State.answerJob_unchanged _ _)).mono
      · refine unaffected ?_ (by simp [job, same]) (by simp [job])
        rw [State.abortJobOf, job]
        exact if_neg same
    | setCredential u credential salt factor grants startup =>
      by_cases same : u = a
      · subst same
        have ended : s.abortJobOf u = (s.onAut fun t => { t with engine := .idle }).answerJob (.plain .denied) := by
          rw [State.abortJobOf, job, ← State.abortJob_renewal _ job]
          exact if_pos rfl
        rw [ended]
        refine ⟨by simp [job], fun _ _ _ _ _ _ => ⟨rfl, fun i d hd hw => State.answerJob_finishes _ hd hw⟩, ?_, fun _ _ => rfl,
          fun i => State.answerJob_isNone _ i (s.onAut fun t => { t with engine := .idle }), rfl, rfl, ?_⟩
        · exact fun _ k => absurd job (k _ _ _ _ _)
        · exact ((s.setEngine_unchanged .idle).append (State.answerJob_unchanged _ _)).mono
      · refine unaffected ?_ (by simp [job]) (by simp [job, same])
        rw [State.abortJobOf, job]
        exact if_neg same

/-- The target out of the set and disabled, its job aborted, before the reply is deferred (R88). -/
def State.shutOut (a : AuthIx) (s : State) : State :=
  ((s.abortJobOf a).onAuthority a fun k => { k with enabled := false }).putOut a

theorem State.disable_eq {hd : Header} {a : AuthIx} {s : State} (enabled : (s.aut.auth.get a).kept.enabled = true)
    (free : s.freeDeferred.isSome) : s.disable hd a =
      ((s.shutOut a).deferWrites 0x14 hd .aut none [.authority a] none (.plain .ok) (storeFault .none)).mark (.authority a) := by
  rw [State.disable, enabled, Option.isNone_eq_false_iff.mpr free]
  rfl

/-- DISABLE_AUTHORITY of another authority by an admin, of RESCUE by ADMIN alone, taken up. -/
theorem execDisableAuthority_accepted {s : State} {hd : Header} {acting : Nat} {a : AuthIx} {P : State → Prop}
    (hs : s.TakesUp (.disableAuthority hd acting a.val)) (ha : s.adminActs acting = true) (h0 : a ≠ 0) (self : a.val ≠ acting)
    (h7 : a = 7 → acting = 0) (hp : ∀ m, s.lnk.Taken 1 m → P ((s.onLnk fun _ => m).disable hd a).settle) :
    ∃ t, exec (.disableAuthority hd acting a.val) s = .next t ∧ P t := by
  obtain ⟨names, signed⟩ := State.adminActs_iff.mp ha
  have sized : hd.sized = true := hs.2.2
  have signed (m : Lnk) : (s.onLnk fun _ => m).signedIn acting = true := signed
  have range : 1 ≤ a.val ∧ a.val ≤ 7 := ⟨Nat.one_le_iff_ne_zero.mpr fun k => h0 (Fin.ext k), by omega⟩
  have other : (a.val != acting) = true := bne_iff_ne.mpr self
  have rescue : (a.val != 7 || acting == 0) = true := by
    by_cases h : a = 7
    · simp [h7 h]
    · have : a.val ≠ 7 := fun k => h (Fin.ext k)
      simp [this]
  refine State.accepted hs (fun m _ => ?_) (fun m taken => ?_)
  · rw [signed]
    simp only [names, sized, range, rescue, other, decide_true, Bool.and_self, if_true, judge]
  · simp only [authorityAt_val]
    exact hp m taken

/-- What DISABLE_AUTHORITY of an enabled target comes to. -/
structure State.Disables (hd : Header) (a : AuthIx) (s t : State) : Prop where
  deferring : s.Deferring 0x14 hd.tag .aut t
  leaves : s.Leaves a t
  kept : (t.aut.auth.get a).kept = { (s.aut.auth.get a).kept with enabled := false }
  attempt : ∀ credential, s.aut.engine.job = some (.authenticate a credential) → t.aut.engine = .idle ∧
    t.deadline (.backoff a) = some (s.tmb.uptime + delay (s.aut.auth.get a).kept.failures * 1024) ∧
    ∀ i d, s.lnk.deferred.get i = some d → d.state = .working .engine → t.Finishes i d (.plain .disabled)
  renewal : ∀ credential salt factor grants startup,
    s.aut.engine.job = some (.setCredential a credential salt factor grants startup) → t.aut.engine = .idle ∧
    ∀ i d, s.lnk.deferred.get i = some d → d.state = .working .engine → t.Finishes i d (.plain .denied)
  other : (∀ credential, s.aut.engine.job ≠ some (.authenticate a credential)) →
    (∀ credential salt factor grants startup,
      s.aut.engine.job ≠ some (.setCredential a credential salt factor grants startup)) →
    t.aut.engine.plain = s.aut.engine.plain ∧ s.KeepsWorking t
  deadlines : ∀ p, p ≠ .backoff a → p ≠ .absence → t.deadline p = s.deadline p
  marked : t.Marked (.authority a)
  frame : Unchanged [.waiting, .outbound, .deferred, .authorities, .domainKey, .keks, .engine, .deadlines, .operation, .dirty] s t

theorem State.shutOut_leaves (a : AuthIx) (s : State) : s.Leaves a (s.shutOut a) := by
  have aborts := s.abortJobOf_aborts a
  have auth (b : AuthIx) := (s.abortJobOf a).onAuthority_auth a b fun k => { k with enabled := false }
  refine (State.putOut_leaves a _).of_step ?_ (fun b hb => ?_) ?_ ?_
  · rw [auth, if_pos rfl, aborts.auth]
  · rw [auth, if_neg (Ne.symm hb), aborts.auth]
  · exact aborts.frame .keks (by decide)
  · exact aborts.frame .domainKey (by decide)

theorem State.shutOut_kept (a : AuthIx) (s : State) :
    ((s.shutOut a).aut.auth.get a).kept = { (s.aut.auth.get a).kept with enabled := false } := by
  rw [State.shutOut, State.putOut_kept, State.onAuthority_auth, if_pos rfl, (s.abortJobOf_aborts a).auth]

theorem State.shutOut_unchanged (a : AuthIx) (s : State) :
    Unchanged [.authorities, .domainKey, .keks] (s.abortJobOf a) (s.shutOut a) :=
  ((State.onAuthority_unchanged a _ _).append (State.putOut_unchanged a _)).mono

theorem State.shutOut_lnk (a : AuthIx) (s : State) : (s.shutOut a).lnk = (s.abortJobOf a).lnk := State.putOut_lnk _ _

theorem disable_disables {s : State} {hd : Header} {a : AuthIx} {m : Lnk} (taken : s.lnk.Taken 1 m)
    (enabled : (s.aut.auth.get a).kept.enabled = true) (free : s.freeDeferred.isSome) :
    s.Disables hd a ((s.onLnk fun _ => m).disable hd a).settle := by
  obtain ⟨b, hb⟩ : ∃ b, b = s.onLnk fun _ => m := ⟨_, rfl⟩
  obtain ⟨v, hv⟩ : ∃ v, v = (b.shutOut a).deferWrites 0x14 hd .aut none [.authority a] none (.plain .ok) (storeFault .none) :=
    ⟨_, rfl⟩
  have found : b.freeDeferred = s.freeDeferred := hb ▸ State.freeDeferred_taken taken
  have run : (s.onLnk fun _ => m).disable hd a = v.mark (.authority a) := by
    rw [hv, ← hb]
    exact State.disable_eq (hb ▸ enabled) (by rw [found]; exact free)
  rw [run]
  have aborts := b.abortJobOf_aborts a
  have link := b.shutOut_lnk a
  have place : (b.shutOut a).freeDeferred = s.freeDeferred := by
    rw [← found]
    exact State.freeDeferred_congr fun i => by rw [link]; exact aborts.entries i
  obtain ⟨i, hi⟩ := Option.isSome_iff_exists.mp free
  have entry : v = (b.shutOut a).defer i 0x14 hd.tag .aut none (.writes (waitsFor [.authority a]) none (.plain .ok)
      (storeFault .none)) := by
    rw [hv, State.deferWrites, place, hi]
  have shut := b.shutOut_unchanged a
  have deferred : Unchanged [.deferred] (b.shutOut a) v := hv ▸ State.deferWrites_unchanged _ _ _ _ _ _ _ _ _
  have after := (v.mark_unchanged (.authority a)).append (State.settle_unchanged _)
  have late := deferred.append after
  have request : Unchanged [.waiting] s b := hb ▸ State.taken_unchanged taken
  have told : (b.abortJobOf a).lnk.KeepsTold (v.mark (.authority a)).settle.lnk := by
    rw [← link]
    exact (hv ▸ State.deferWrites_keepsTold _ _ _ _ _ _ _ _ _ : (b.shutOut a).lnk.KeepsTold v.lnk).trans
      ((v.mark_keepsTold _).trans (State.settle_keepsTold _))
  have listed : s.deadline = b.deadline := hb ▸ rfl
  have entries : s.lnk.deferred = b.lnk.deferred := hb ▸ taken.deferred.symm
  have waiting : (b.shutOut a).lnk.waiting = none := by
    rw [link, aborts.waiting, hb]
    exact taken.waiting
  have kept : ((v.mark (.authority a)).settle.aut.auth.get a).kept = { (s.aut.auth.get a).kept with enabled := false } := by
    rw [(late .authorities (by decide) : _ = (b.shutOut a).aut.auth), State.shutOut_kept, hb]
    rfl
  have leaves : s.Leaves a (b.shutOut a) :=
    hb ▸ (State.shutOut_leaves a _).of_step rfl (fun _ _ => rfl) rfl rfl
  have whole := shut.append late
  refine ⟨?_, leaves.step late, kept, fun credential job => ?_, fun credential salt factor grants startup job => ?_,
    fun no none_ => ?_, fun p back absence => ?_, (v.marked_mark _).of_sto (State.settle_sto _),
    (((request.append aborts.frame).append shut).append late).mono⟩
  · rw [entry] at after ⊢
    exact (State.deferring_defer waiting hi).step after
  · obtain ⟨idle, backoff, finished⟩ := aborts.attempt credential (hb ▸ job)
    exact ⟨whole.engine_idle idle, (whole.deadline (p := .backoff a) nofun).trans (backoff.trans (hb ▸ rfl)),
      fun j d hd hw => (finished j d (entries ▸ hd) hw).step told⟩
  · obtain ⟨idle, finished⟩ := aborts.renewal credential salt factor grants startup (hb ▸ job)
    exact ⟨whole.engine_idle idle, fun j d hd hw => (finished j d (entries ▸ hd) hw).step told⟩
  · have same : b.abortJobOf a = b := aborts.other (hb ▸ no) (hb ▸ none_)
    have engine : (v.mark (.authority a)).settle.aut.engine.plain = (b.abortJobOf a).aut.engine.plain :=
      whole .engine (by decide)
    refine ⟨engine.trans (by rw [same, hb]; rfl), ?_⟩
    have tables : (b.shutOut a).lnk.deferred = s.lnk.deferred := by rw [link, same, entries]
    refine State.KeepsWorking.step (t := v) ?_ after
    rw [entry]
    exact (State.KeepsWorking.of_deferred tables).defer (State.get_freeDeferred hi)
  · rw [whole.deadline absence, aborts.deadlines p back, listed]

/-- Settles O32: SIGN_OUT takes the authority out of the set, DISABLE_AUTHORITY aborts its job and disables it first. -/
theorem leavingTheSetDropsItsKeys : Obligations.LeavingTheSetDropsItsKeys := by
  refine ⟨fun s h a hs => execSignOut_accepted hs fun m taken => ?_, fun s h acting a hs ha h0 self h7 =>
    ⟨fun disabled => execDisableAuthority_accepted hs ha h0 self h7 fun m taken => ?_,
      fun enabled free => execDisableAuthority_accepted hs ha h0 self h7 fun m taken => ?_⟩⟩
  · obtain ⟨replied, leaves, kept, nothing, frame⟩ := signOut_leaves (tag := h.tag) (a := a) taken
    exact ⟨replied, leaves.out, kept, leaves.others, leaves.kek, leaves.domain, nothing, frame⟩
  · have run : (s.onLnk fun _ => m).disable h a = (s.onLnk fun _ => m).answerOk 0x14 h .empty := by
      unfold State.disable
      exact if_pos (by simp [disabled])
    rw [run]
    exact State.answered_only taken
  · obtain ⟨deferring, leaves, kept, attempt, renewal, other, deadlines, marked, frame⟩ :=
      disable_disables (hd := h) taken enabled free
    exact ⟨deferring, leaves.out, kept, leaves.others, fun signed => ⟨leaves.kek signed, leaves.domain signed⟩, leaves.keys,
      attempt, renewal, other, deadlines, marked, frame⟩

end Sys2Proof.Machine
end

section
/-! PROOFS. Requests refused short of acceptance (R8, R22, R74, R78, R86). -/

namespace Sys2Proof.Machine

/-- A request taken up that fails a check, judged over the state with the request taken, is refused with that check's code. -/
theorem State.refuses_taken {kind : Byte} {h : Header} {c : Instr} {checks : State → List (Bool × ResultCode)}
    {act : State → State} {s : State} {code : ResultCode} (hs : s.TakesUp c) (hr : Sys2Proof.requestOf c = some (kind, h))
    (he : exec c s = s.request c kind h checks act)
    (hc : ∀ m, s.lnk.Taken 1 m → judge (checks (s.onLnk fun _ => m)) = some code) : s.Refuses c code := by
  obtain ⟨serves, level, -⟩ := hs
  obtain ⟨m, take, taken⟩ := State.take_of_serves serves (Nat.le_refl 1)
  obtain ⟨replied, frame⟩ := State.answered_only (kind := kind) (tag := h.tag) (r := .plain code) taken
  refine ⟨kind, h, _, hr, he.trans ?_, replied, frame⟩
  simp only [State.request, State.requestOf, State.occur_of_powered (State.powered_of_active serves.1), take,
    State.onLnk_thm, level, if_false, hc m taken]

/-- A request that passes its checks and is answered with a result code alone is refused with it. -/
theorem State.refuses_answered {kind : Byte} {h : Header} {c : Instr} {s : State} {code : ResultCode}
    (hr : Sys2Proof.requestOf c = some (kind, h))
    (ran : ∃ t, exec c s = .next t ∧ ∃ m, s.lnk.Taken 1 m ∧ t = ((s.onLnk fun _ => m).answer kind h.tag (.plain code)).settle) :
    s.Refuses c code := by
  obtain ⟨t, run, m, taken, rfl⟩ := ran
  obtain ⟨replied, frame⟩ := State.answered_only (kind := kind) (tag := h.tag) (r := .plain code) taken
  exact ⟨kind, h, _, hr, run, replied, frame⟩

theorem Engine.isIdle_eq_false {e : Engine} (h : e ≠ .idle) : e.isIdle = false := by
  cases e with
  | idle => exact absurd rfl h
  | charging | deriving_ | finishing => rfl

/-! ## AUTHENTICATE (R78) -/

/-- The checks of R78 in order, the sign-in's own part. -/
theorem refuses_authenticate {s : State} {hd : Header} {a : AuthIx} {credential : List Byte} {code : ResultCode}
    (hs : s.TakesUp (.authenticate hd a.val credential)) (fits : credentialFits credential = true)
    (judged : judge (s.signInChecks a) = some code) : s.Refuses (.authenticate hd a.val credential) code := by
  have sized : hd.sized = true := hs.2.2
  refine State.refuses_taken hs rfl rfl fun m _ => ?_
  have judged : judge ((s.onLnk fun _ => m).signInChecks a) = some code := judged
  simp only [authorityAt_val, judge_cons, sized, fits, Bool.and_self, if_true, judged]

theorem refuses_authenticate_busy {s : State} {hd : Header} {a : AuthIx} {credential : List Byte}
    (hs : s.TakesUp (.authenticate hd a.val credential)) (fits : credentialFits credential = true) (may : s.MaySignIn a)
    (due : ∀ due, s.deadline (.backoff a) = some due → due ≤ s.tmb.uptime)
    (taken : s.aut.engine ≠ .idle ∨ s.freeDeferred = none) : s.Refuses (.authenticate hd a.val credential) .busy := by
  refine State.refuses_answered rfl (execAuthenticate_accepted hs fits may fun m request => ⟨m, request, ?_⟩)
  have left : (s.onLnk fun _ => m).backoffLeft a = none := State.backoffLeft_none (s := s) due
  have full : ((s.onLnk fun _ => m).aut.engine.isIdle && (s.onLnk fun _ => m).freeDeferred.isSome) = false := by
    rw [State.freeDeferred_taken request, State.onLnk_aut]
    rcases taken with k | k
    · simp [Engine.isIdle_eq_false k]
    · simp [k]
  rw [State.attempt, left]
  simp only [full]
  rfl

theorem authenticate_refusals {s : State} {hd : Header} {a : AuthIx} {credential : List Byte}
    (hs : s.TakesUp (.authenticate hd a.val credential)) (fits : credentialFits credential = true) :
    let c := Instr.authenticate hd a.val credential
    (s.aut.lifecycle ≠ .provisioned → s.Refuses c .wrongState) ∧
      (s.aut.lifecycle = .provisioned →
        (s.thm.level = .alarm → isUser a = true → s.Refuses c .denied) ∧
        ((s.thm.level = .alarm → isAdmin a = true) →
          ((s.aut.auth.get a).kept.enabled = false → s.Refuses c .disabled) ∧
          ((s.aut.auth.get a).kept.enabled = true →
            ((s.aut.auth.get a).signedIn = true → s.Refuses c .wrongState) ∧
            ((s.aut.auth.get a).signedIn = false →
              (s.aut.secret.isSome → s.aut.paired = false → a ≠ 7 → s.Refuses c .notPaired) ∧
              (s.aut.secret = none ∨ s.aut.paired = true ∨ a = 7 →
                (∀ due, s.deadline (.backoff a) = some due → due ≤ s.tmb.uptime) →
                s.aut.engine ≠ .idle ∨ s.freeDeferred = none → s.Refuses c .busy))))) := by
  refine ⟨fun lifecycle => refuses_authenticate hs fits ?_, fun lifecycle => ⟨fun alarm user => refuses_authenticate hs fits ?_,
    fun level => ?_⟩⟩
  · simp [State.signInChecks, judge_cons, lifecycle]
  · simp [State.signInChecks, judge_cons, lifecycle, alarm, isAdmin_false_of_isUser user]
  have passes : (s.thm.level != .alarm || isAdmin a) = true := by
    by_cases alarm : s.thm.level = .alarm
    · simp [level alarm]
    · simp [alarm]
  refine ⟨fun disabled => refuses_authenticate hs fits ?_, fun enabled => ⟨fun signed => refuses_authenticate hs fits ?_,
    fun out => ⟨fun secret unpaired ne => refuses_authenticate hs fits ?_, fun paired due taken =>
      refuses_authenticate_busy hs fits ⟨lifecycle, level, enabled, out, paired⟩ due taken⟩⟩⟩
  · simp [State.signInChecks, judge_cons, lifecycle, passes, disabled]
  · simp [State.signInChecks, judge_cons, lifecycle, passes, enabled, signed]
  · have fails : s.pairingPasses a = false := by
      simp [State.pairingPasses, unpaired, ne, secret]
    simp [State.signInChecks, judge_cons, lifecycle, passes, enabled, out, fails]

/-! ## Requests over envelopes and ranges (R8, R22) -/

theorem refuses_grant_noRoom {s : State} {hd : Header} {acting : Nat} {u : AuthIx} {r : RangeIx}
    (hs : s.TakesUp (.grant hd acting u.val r.val)) (ha : s.adminActs acting = true) (h0 : r ≠ 0) (defined : s.defined r = true)
    (hu : isUser u = true) (keyed : (s.rmg.ranges.get r).keyState = .keyed) (cached : (s.rmg.keks.get u).isSome)
    (none_ : s.envelopeAt u (.range r) = none) :
    (s.emptyPosition = none → s.Refuses (.grant hd acting u.val r.val) .noRoom) ∧
      (s.emptyPosition.isSome → s.freeDeferred = none → s.Refuses (.grant hd acting u.val r.val) .busy) := by
  obtain ⟨kek, hk⟩ := Option.isSome_iff_exists.mp cached
  have absent (m : Lnk) : ((s.onLnk fun _ => m).envelopeAt u (.range r)).isSome = false := Option.isSome_eq_false_iff.mpr
    (Option.isNone_iff_eq_none.mpr none_)
  refine ⟨fun full => ?_, fun place busy => ?_⟩
  · refine State.refuses_answered rfl (execGrant_accepted hs ha hu h0 defined keyed hk fun m taken => ⟨m, taken, ?_⟩)
    have full : (s.onLnk fun _ => m).emptyPosition = none := full
    simp only [State.grant, absent, full]
    rfl
  · obtain ⟨p, hp⟩ := Option.isSome_iff_exists.mp place
    refine State.refuses_answered rfl (execGrant_accepted hs ha hu h0 defined keyed hk fun m taken => ⟨m, taken, ?_⟩)
    have empty : (s.onLnk fun _ => m).emptyPosition = some p := hp
    simp only [State.grant, absent, empty, State.freeDeferred_taken taken, busy]
    rfl

theorem refuses_revoke_busy {s : State} {hd : Header} {acting : Nat} {u : AuthIx} {r : RangeIx}
    (hs : s.TakesUp (.revoke hd acting u.val r.val)) (ha : s.adminActs acting = true) (h0 : r ≠ 0) (defined : s.defined r = true)
    (hu : isUser u = true) (present : (s.envelopeAt u (.range r)).isSome) (busy : s.freeDeferred = none) :
    s.Refuses (.revoke hd acting u.val r.val) .busy := by
  have sized : hd.sized = true := hs.2.2
  refine State.refuses_taken hs rfl rfl fun m taken => ?_
  have named : (s.onLnk fun _ => m).named 1 r.val = some r := State.named_one h0 defined
  have revoked : ((s.onLnk fun _ => m).revoked u.val (some r)).isSome = true := by
    simp only [State.revoked, userAt_val hu]
    exact present
  rw [named, judge_rangeChecks_admin (s := s.onLnk fun _ => m) ha, State.freeDeferred_taken taken]
  simp [judge_cons, sized, revoked, busy]

theorem refuses_defineRange {s : State} {hd : Header} {acting : Nat} {g : Geometry} {flags : RangeFlags}
    (hs : s.TakesUp (.defineRange hd acting g flags)) (ha : s.adminActs acting = true) (hg : s.guardPasses hd.strap = true)
    (length : 1 ≤ g.length) (below : g.start + g.length ≤ s.sto.identity.capacity) (clear : s.clearOf g none = true) :
    (s.freeIndex = none → s.Refuses (.defineRange hd acting g flags) .noRoom) ∧
      (s.freeIndex.isSome → s.freeDeferred = none → s.Refuses (.defineRange hd acting g flags) .busy) := by
  have sized : hd.sized = true := hs.2.2
  obtain ⟨names, signed⟩ := State.adminActs_iff.mp ha
  have signed (m : Lnk) : (s.onLnk fun _ => m).signedIn acting = true := signed
  have guard (m : Lnk) : (s.onLnk fun _ => m).guardPasses hd.strap = true := hg
  have clear (m : Lnk) : (s.onLnk fun _ => m).clearOf g none = true := clear
  have fits : g.below s.sto.identity.capacity = true := by
    simp [Geometry.below, Geometry.after, length, below]
  refine ⟨fun full => State.refuses_taken hs rfl rfl fun m taken => ?_,
    fun free busy => State.refuses_taken hs rfl rfl fun m taken => ?_⟩
  · have full : (s.onLnk fun _ => m).freeIndex = none := full
    simp [judge_cons, signed, names, guard, sized, fits, clear, full]
  · have free : (s.onLnk fun _ => m).freeIndex.isSome = true := free
    rw [State.freeDeferred_taken taken]
    simp [judge_cons, signed, names, guard, sized, fits, clear, free, busy]

/-- The checks of MODIFY_RANGE short of the deferred reply pass, and no entry is free. -/
theorem State.modifyChecks_busy {s : State} {hd : Header} {acting : Nat} {r : RangeIx} {flags : Option RangeFlags}
    {geometry : Option Geometry} {m : Lnk} (taken : s.lnk.Taken 1 m) (ha : s.adminActs acting = true)
    (hg : s.guardPasses hd.strap = true) (sized : hd.sized = true) (fits : flags.all (flagsFit (some r)) = true)
    (geometryFits : ∀ g, geometry = some g → (s.rmg.ranges.get r).lock = .locked ∧ 1 ≤ g.length ∧
      g.start + g.length ≤ s.sto.identity.capacity ∧ s.clearOf g (some r) = true)
    (busy : s.freeDeferred = none) :
    judge ((s.onLnk fun _ => m).modifyChecks hd acting (some r) flags geometry) = some .busy := by
  have guard : (s.onLnk fun _ => m).guardPasses hd.strap = true := hg
  rw [State.modifyChecks, judge_rangeChecks_admin (s := s.onLnk fun _ => m) ha, State.freeDeferred_taken taken]
  cases geometry with
  | none => simp [judge_cons, guard, sized, fits, busy]
  | some g =>
    obtain ⟨locked, length, below, clear⟩ := geometryFits g rfl
    have clear : (s.onLnk fun _ => m).clearOf g (some r) = true := clear
    simp [judge_cons, guard, sized, fits, busy, locked, clear, Geometry.below, Geometry.after, length, below]

theorem refuses_modifyRange_busy {s : State} {hd : Header} {acting : Nat} {r : RangeIx} {flags : RangeFlags}
    {geometry : Option Geometry} (hs : s.TakesUp (.modifyRange hd acting r.val flags geometry)) (ha : s.adminActs acting = true)
    (hg : s.guardPasses hd.strap = true) (defined : s.defined r = true)
    (fits : r = 0 → flags.conceal = false ∧ flags.concealOnWary = false)
    (geometryFits : ∀ g, geometry = some g → r ≠ 0 ∧ (s.rmg.ranges.get r).lock = .locked ∧ 1 ≤ g.length ∧
      g.start + g.length ≤ s.sto.identity.capacity ∧ s.clearOf g (some r) = true)
    (busy : s.freeDeferred = none) : s.Refuses (.modifyRange hd acting r.val flags geometry) .busy := by
  refine State.refuses_taken hs rfl rfl fun m taken => ?_
  have named : (s.onLnk fun _ => m).named (if geometry.isSome then 1 else 0) r.val = some r := by
    cases geometry with
    | none => exact State.named_zero (s := s) defined
    | some g => exact State.named_one (s := s) (geometryFits g rfl).1 defined
  simp only [named]
  exact State.modifyChecks_busy taken ha hg hs.2.2 (flagsFit_some fits) (fun g h => (geometryFits g h).2) busy

theorem refuses_modifyRangeGeometry_busy {s : State} {hd : Header} {acting : Nat} {r : RangeIx} {g : Geometry}
    (hs : s.TakesUp (.modifyRangeGeometry hd acting r.val g)) (ha : s.adminActs acting = true)
    (hg : s.guardPasses hd.strap = true) (h0 : r ≠ 0) (defined : s.defined r = true)
    (fits : (s.rmg.ranges.get r).lock = .locked ∧ 1 ≤ g.length ∧ g.start + g.length ≤ s.sto.identity.capacity ∧
      s.clearOf g (some r) = true)
    (busy : s.freeDeferred = none) : s.Refuses (.modifyRangeGeometry hd acting r.val g) .busy := by
  refine State.refuses_taken hs rfl rfl fun m taken => ?_
  have named : (s.onLnk fun _ => m).named 1 r.val = some r := State.named_one h0 defined
  rw [named]
  exact State.modifyChecks_busy taken ha hg hs.2.2 rfl (fun k hk => by cases hk; exact fits) busy

theorem refuses_deleteRange_busy {s : State} {hd : Header} {acting : Nat} {r : RangeIx}
    (hs : s.TakesUp (.deleteRange hd acting r.val)) (ha : s.adminActs acting = true) (hg : s.guardPasses hd.strap = true)
    (h0 : r ≠ 0) (defined : s.defined r = true) (locked : (s.rmg.ranges.get r).lock = .locked) (busy : s.freeDeferred = none) :
    s.Refuses (.deleteRange hd acting r.val) .busy := by
  have sized : hd.sized = true := hs.2.2
  refine State.refuses_taken hs rfl rfl fun m taken => ?_
  have named : (s.onLnk fun _ => m).named 1 r.val = some r := State.named_one h0 defined
  have guard : (s.onLnk fun _ => m).guardPasses hd.strap = true := hg
  rw [named, judge_rangeChecks_admin (s := s.onLnk fun _ => m) ha, State.freeDeferred_taken taken]
  simp [judge_cons, guard, sized, locked, busy]

theorem refuses_rekeyRange_busy {s : State} {hd : Header} {acting : Nat} {r : RangeIx}
    (hs : s.TakesUp (.rekeyRange hd acting r.val)) (ha : s.adminActs acting = true) (defined : s.defined r = true)
    (busy : s.rekeyDeferred (some r) = true ∨ s.freeDeferred = none) : s.Refuses (.rekeyRange hd acting r.val) .busy := by
  have sized : hd.sized = true := hs.2.2
  refine State.refuses_taken hs rfl rfl fun m taken => ?_
  have named : (s.onLnk fun _ => m).named 0 r.val = some r := State.named_zero (s := s) defined
  have rekeys : (s.onLnk fun _ => m).rekeyDeferred (some r) = s.rekeyDeferred (some r) := by
    rw [State.rekeyDeferred, State.rekeyDeferred, State.onLnk_lnk, taken.deferred]
  rw [named, judge_rangeChecks_admin (s := s.onLnk fun _ => m) ha, State.freeDeferred_taken taken, rekeys]
  rcases busy with k | k <;> simp [judge_cons, sized, k]

/-! ## Requests that the engine or a deferred reply must serve (R74, R86, R88) -/

theorem refuses_provision_busy {s : State} {hd : Header} {admin : List Byte} {rescue : Option (List Byte)}
    {adminSet rescueSet : List Nat} (hs : s.TakesUp (.provision hd admin rescue adminSet rescueSet))
    (lifecycle : s.aut.lifecycle ≠ .provisioned) (fits : credentialFits admin = true) (fitsRescue : rescue.all credentialFits = true)
    (empty : rescue = none → rescueSet = []) (adminFits : indexSet 0 16 adminSet = true)
    (rescueFits : indexSet 0 16 rescueSet = true) (busy : s.aut.engine ≠ .idle ∨ s.freeDeferred = none) :
    s.Refuses (.provision hd admin rescue adminSet rescueSet) .busy := by
  have sized : hd.sized = true := hs.2.2
  refine State.refuses_taken hs rfl rfl fun m taken => ?_
  have given : (rescue.isSome || rescueSet.isEmpty) = true := by
    cases rescue with
    | none => simp [empty rfl]
    | some l => rfl
  rw [State.freeDeferred_taken taken]
  rcases busy with k | k
  · simp [judge_cons, lifecycle, sized, fits, fitsRescue, given, adminFits, rescueFits, Engine.isIdle_eq_false k]
  · simp [judge_cons, lifecycle, sized, fits, fitsRescue, given, adminFits, rescueFits, k]

theorem refuses_setCredential_busy {s : State} {hd : Header} {acting : Nat} {u : AuthIx} {credential : List Byte}
    {grantSet startup : List Nat} (hs : s.TakesUp (.setCredential hd acting u.val credential grantSet startup))
    (ha : s.adminActs acting = true) (hu : isUser u = true) (fits : credentialFits credential = true)
    (grantFits : indexSet 1 15 grantSet = true) (startupFits : indexSet 0 16 startup = true)
    (busy : s.aut.engine ≠ .idle ∨ s.freeDeferred = none) :
    s.Refuses (.setCredential hd acting u.val credential grantSet startup) .busy := by
  have sized : hd.sized = true := hs.2.2
  obtain ⟨names, signed⟩ := State.adminActs_iff.mp ha
  refine State.refuses_taken hs rfl rfl fun m taken => ?_
  have signed : (s.onLnk fun _ => m).signedIn acting = true := signed
  rw [State.freeDeferred_taken taken]
  rcases busy with k | k
  · simp [judge_cons, signed, names, sized, userAt_val hu, fits, grantFits, startupFits, Engine.isIdle_eq_false k]
  · simp [judge_cons, signed, names, sized, userAt_val hu, fits, grantFits, startupFits, k]

theorem refuses_disableAuthority_busy {s : State} {hd : Header} {acting : Nat} {a : AuthIx}
    (hs : s.TakesUp (.disableAuthority hd acting a.val)) (ha : s.adminActs acting = true) (h0 : a ≠ 0) (self : a.val ≠ acting)
    (enabled : (s.aut.auth.get a).kept.enabled = true) (busy : s.freeDeferred = none) :
    s.Refuses (.disableAuthority hd acting a.val) .busy := by
  have zero (h : a = 7) : acting = 0 := by
    obtain ⟨names, -⟩ := State.adminActs_iff.mp ha
    have either : acting = 0 ∨ acting = 7 := by simpa [namesAdmin] using names
    exact either.resolve_right fun k => self (h ▸ k.symm)
  refine State.refuses_answered rfl (execDisableAuthority_accepted hs ha h0 self zero fun m taken => ⟨m, taken, ?_⟩)
  have run : (s.onLnk fun _ => m).disable hd a = (s.onLnk fun _ => m).answer 0x14 hd.tag (.plain .busy) := by
    simp [State.disable, enabled, State.freeDeferred_taken taken, busy]
  rw [run]

/-! ## Requests that a deferred reply must serve (R90, R114, R162, R163) -/

theorem refuses_setPairing_busy {s : State} {hd : Header} {acting : Nat} {secret token : Option (List Byte)}
    (hs : s.TakesUp (.setPairing hd acting secret token)) (ha : s.adminActs acting = true)
    (hg : s.guardPasses hd.strap = true) (fitsSecret : secret.all (fun l => l.length = 32) = true)
    (fitsToken : token.all tokenFits = true) (busy : s.freeDeferred = none) :
    s.Refuses (.setPairing hd acting secret token) .busy := by
  have sized : hd.sized = true := hs.2.2
  obtain ⟨names, signed⟩ := State.adminActs_iff.mp ha
  refine State.refuses_taken hs rfl rfl fun m taken => ?_
  have signed : (s.onLnk fun _ => m).signedIn acting = true := signed
  have guard : (s.onLnk fun _ => m).guardPasses hd.strap = true := hg
  rw [State.freeDeferred_taken taken]
  simp [judge_cons, signed, names, guard, sized, fitsSecret, fitsToken, busy]

theorem refuses_configure_busy {s : State} {hd : Header} {items : List SettingItem} (hs : s.TakesUp (.configure hd 0 items))
    (signed : (s.aut.auth.get 0).signedIn = true) (hg : s.guardPasses hd.strap = true) (fits : itemsFit items = true)
    (busy : s.freeDeferred = none) : s.Refuses (.configure hd 0 items) .busy := by
  have sized : hd.sized = true := hs.2.2
  refine State.refuses_taken hs rfl rfl fun m taken => ?_
  have itself : (s.onLnk fun _ => m).adminItself 0 = true := signed
  have guard : (s.onLnk fun _ => m).guardPasses hd.strap = true := hg
  rw [State.freeDeferred_taken taken]
  simp [judge_cons, itself, guard, sized, fits, busy]

theorem refuses_setGuard_busy {s : State} {hd : Header} {mode : GuardMode} (hs : s.TakesUp (.setGuard hd 0 (some mode)))
    (signed : (s.aut.auth.get 0).signedIn = true) (hg : s.guardPasses hd.strap = true) (other : mode ≠ s.sto.guard)
    (busy : s.freeDeferred = none) : s.Refuses (.setGuard hd 0 (some mode)) .busy := by
  have sized : hd.sized = true := hs.2.2
  refine State.refuses_answered rfl (State.accepted hs (fun m _ => ?_) fun m taken => ⟨m, taken, ?_⟩)
  · have itself : (s.onLnk fun _ => m).adminItself 0 = true := signed
    have guard : (s.onLnk fun _ => m).guardPasses hd.strap = true := hg
    simp [judge, itself, guard, sized]
  · have run : (s.onLnk fun _ => m).setGuard hd mode = (s.onLnk fun _ => m).answer 0x06 hd.tag (.plain .busy) := by
      simp [State.setGuard, Ne.symm other, State.freeDeferred_taken taken, busy]
    exact congrArg State.settle run

theorem refuses_clearCapture_busy {s : State} {hd : Header} {k : TriggerKind} (hs : s.TakesUp (.clearCapture hd 0 (some k)))
    (signed : (s.aut.auth.get 0).signedIn = true) (held : (s.thm.captures.get (kindIx k)).isSome)
    (busy : s.freeDeferred = none) : s.Refuses (.clearCapture hd 0 (some k)) .busy := by
  have sized : hd.sized = true := hs.2.2
  refine State.refuses_answered rfl (State.accepted hs (fun m _ => ?_) fun m taken => ⟨m, taken, ?_⟩)
  · have signed : (s.onLnk fun _ => m).signedIn 0 = true := signed
    simp [judge, signed, sized]
  · have run : (s.onLnk fun _ => m).clearCapture hd k = (s.onLnk fun _ => m).answer 0x35 hd.tag (.plain .busy) := by
      simp [State.clearCapture, Option.isSome_iff_ne_none.mp held, State.freeDeferred_taken taken, busy]
    exact congrArg State.settle run

/-- Settles O45: each refusal is the first check that fails, or the answer before anything is changed. -/
theorem refusalsShortOfAcceptanceHaveNoEffect : Obligations.RefusalsShortOfAcceptanceHaveNoEffect := by
  refine ⟨?_, ?_, ?_, ?_⟩
  · rintro s h a credential _ rfl hs fits
    exact authenticate_refusals hs fits
  · refine fun s h acting u r c hs ha => ⟨?_, ?_, ?_, ?_, ?_, ?_, ?_⟩
    · rintro rfl h0 defined hu keyed cached none_
      exact refuses_grant_noRoom hs ha h0 defined hu keyed cached none_
    · rintro rfl h0 defined hu present busy
      exact refuses_revoke_busy hs ha h0 defined hu present busy
    · rintro g flags rfl hg length below clear
      exact refuses_defineRange hs ha hg length below clear
    · rintro flags rfl hg defined fits busy
      exact refuses_modifyRange_busy hs ha hg defined fits nofun busy
    · rintro flags g (rfl | rfl) hg h0 defined locked length below clear busy
      · exact refuses_modifyRange_busy hs ha hg defined (fun k => absurd k h0)
          (fun _ k => by cases k; exact ⟨h0, locked, length, below, clear⟩) busy
      · exact refuses_modifyRangeGeometry_busy hs ha hg h0 defined ⟨locked, length, below, clear⟩ busy
    · rintro rfl hg h0 defined locked busy
      exact refuses_deleteRange_busy hs ha hg h0 defined locked busy
    · rintro rfl defined busy
      exact refuses_rekeyRange_busy hs ha defined busy
  · refine fun s h acting u c hs => ⟨?_, ?_, ?_⟩
    · rintro admin rescue adminSet rescueSet rfl lifecycle fits fitsRescue empty adminFits rescueFits busy
      exact refuses_provision_busy hs lifecycle fits fitsRescue empty adminFits rescueFits busy
    · rintro credential grantSet startup rfl ha hu fits grantFits startupFits busy
      exact refuses_setCredential_busy hs ha hu fits grantFits startupFits busy
    · rintro rfl ha h0 self enabled busy
      exact refuses_disableAuthority_busy hs ha h0 self enabled busy
  · refine fun s h c hs busy => ⟨?_, fun signed => ⟨?_, ?_, ?_⟩⟩
    · rintro acting secret token rfl ha hg fitsSecret fitsToken
      exact refuses_setPairing_busy hs ha hg fitsSecret fitsToken busy
    · rintro items rfl hg fits
      exact refuses_configure_busy hs signed hg fits busy
    · rintro mode rfl hg other
      exact refuses_setGuard_busy hs signed hg other busy
    · rintro k rfl held
      exact refuses_clearCapture_busy hs signed held busy

end Sys2Proof.Machine
end

section
/-! PROOFS. PROVISION up to its first stage (R74, R75). -/

namespace Sys2Proof.Machine

/-! ## The engine taken -/

theorem State.TakesEngine.engine {kind tag : Byte} {e : Engine} {s u t : State} (h : s.TakesEngine kind tag e u t) :
    t.aut.engine = e := by rw [h.aut]

/-- PROVISION taken up. -/
theorem provision_takes {s : State} {hd : Header} {admin : List Byte} {rescue : Option (List Byte)} {adminSet rescueSet : List Nat}
    (hs : s.TakesUp (.provision hd admin rescue adminSet rescueSet)) (lifecycle : s.aut.lifecycle ≠ .provisioned)
    (fits : credentialFits admin = true) (fitsRescue : rescue.all credentialFits = true) (empty : rescue = none → rescueSet = [])
    (adminFits : indexSet 0 16 adminSet = true) (rescueFits : indexSet 0 16 rescueSet = true) (idle : s.aut.engine = .idle)
    (free : s.freeDeferred.isSome) :
    ∃ t, exec (.provision hd admin rescue adminSet rescueSet) s = .next t ∧ s.Deferring 0x10 hd.tag .aut t ∧
      s.KeepsWorking t ∧ t.aut.engine = .deriving_ (.provision
        { admin := admin, rescue := rescue, adminSet := toIndices adminSet, rescueSet := toIndices rescueSet
          factor := s.sto.policy.workFactor, adminDone := false }) ∧ Unchanged [.waiting, .deferred, .engine] s t := by
  have sized : hd.sized = true := hs.2.2
  have given : (rescue.isSome || rescueSet.isEmpty) = true := by
    cases rescue with
    | none => simp [empty rfl]
    | some l => rfl
  refine State.accepted hs (fun m taken => ?_) (fun m taken => ?_)
  · rw [State.freeDeferred_taken taken]
    simp [judge, lifecycle, sized, fits, fitsRescue, given, adminFits, rescueFits, idle, Engine.isIdle, free]
  · have takes := (State.takeEngine_takes (kind := 0x10) (h := hd) (s := s) (u := s.onLnk fun _ => m) taken.waiting taken.deferred
      (e := .deriving_ (.provision
        { admin := admin, rescue := rescue, adminSet := toIndices adminSet, rescueSet := toIndices rescueSet
          factor := s.sto.policy.workFactor, adminDone := false })) free).settle
    exact ⟨takes.deferring, takes.working, takes.engine, ((State.taken_unchanged taken).append takes.frame).mono⟩

/-- SET_CREDENTIAL of a USER by a signed-in admin, taken up. -/
theorem setCredential_takes {s : State} {hd : Header} {acting : Nat} {u : AuthIx} {credential : List Byte}
    {grantSet startup : List Nat} (hs : s.TakesUp (.setCredential hd acting u.val credential grantSet startup))
    (ha : s.adminActs acting = true) (hu : isUser u = true) (fits : credentialFits credential = true)
    (grantFits : indexSet 1 15 grantSet = true) (startupFits : indexSet 0 16 startup = true) (idle : s.aut.engine = .idle)
    (free : s.freeDeferred.isSome) :
    ∃ t, exec (.setCredential hd acting u.val credential grantSet startup) s = .next t ∧ s.Deferring 0x13 hd.tag .aut t ∧
      s.KeepsWorking t ∧ t.model.draws = s.model.draws + 1 ∧
      t.aut.engine = .deriving_ (.setCredential u credential s.model.draws s.sto.policy.workFactor
        (toIndices grantSet) (toIndices startup)) ∧ Unchanged [.waiting, .deferred, .engine, .draws] s t := by
  have sized : hd.sized = true := hs.2.2
  obtain ⟨names, signed⟩ := State.adminActs_iff.mp ha
  refine State.accepted hs (fun m taken => ?_) (fun m taken => ?_)
  · have signed : (s.onLnk fun _ => m).signedIn acting = true := signed
    rw [State.freeDeferred_taken taken]
    simp [judge, signed, names, sized, userAt_val hu, fits, grantFits, startupFits, idle, Engine.isIdle, free]
  · have takes := (State.takeEngine_takes (kind := 0x13) (h := hd) (s := s) (u := (s.onLnk fun _ => m).draw) taken.waiting
      taken.deferred (e := .deriving_ (.setCredential u credential s.model.draws s.sto.policy.workFactor (toIndices grantSet)
        (toIndices startup))) free).settle
    simp only [userAt_val hu]
    refine ⟨takes.deferring, takes.working, takes.frame .draws (by decide), takes.engine, ?_⟩
    exact (((State.taken_unchanged taken).append (State.draw_unchanged _)).append takes.frame).mono

/-! ## Envelopes at the lowest empty positions (R6) -/

theorem State.emptyPosition_eq {s : State} {p : EnvIx} (empty : s.rmg.envelopes.get p = none)
    (before : ∀ q, q < p → s.rmg.envelopes.get q ≠ none) : s.emptyPosition = some p := by
  cases found : s.emptyPosition with
  | none =>
    have := Table.lowest_none.mp found p
    rw [empty] at this
    cases this
  | some q =>
    obtain ⟨here, earlier⟩ := Table.lowest_some found
    rcases lt_trichotomy q p with lt | rfl | gt
    · exact absurd (Option.isNone_iff_eq_none.mp here) (before q lt)
    · rfl
    · have := earlier p gt
      rw [empty] at this
      cases this

theorem placeEnvelope_at {e : Envelope} {s : State} {l : List EnvIx} {p : EnvIx} (h : s.emptyPosition = some p) :
    placeEnvelope e (s, l) = (s.putEnvelope p e, l ++ [p]) := by
  simp only [placeEnvelope, h]

theorem State.putEnvelope_get (p q : EnvIx) (e : Envelope) (s : State) :
    (s.putEnvelope p e).rmg.envelopes.get q = if p = q then some e else s.rmg.envelopes.get q := Table.get_set _ _ _ _

/-! ## PROVISION's derivations and its first stage -/

/-- A derivation of PROVISION completes. -/
theorem execDerivationComplete_provision {s : State} {p : ProvisionJob} (hp : s.pwc.power ≠ .unpowered)
    (engine : s.aut.engine = .deriving_ (.provision p)) :
    exec .derivationComplete s = .next (s.provisionDerived p).settle := by
  show execDerivationComplete s = _
  rw [execDerivationComplete, State.occur_of_powered (State.powered_of_ne hp)]
  simp only [engine]

/-- The state in which PROVISION places its envelopes: both credentials set, every envelope gone, the domain key drawn. -/
def State.provisionCleared (p : ProvisionJob) (s : State) : State :=
  ((s.provisionCredentials p).deleteEnvelopes ((s.provisionCredentials p).envelopesWhere fun _ => true)).draw

theorem State.provisionCleared_get (p : ProvisionJob) (q : EnvIx) (s : State) :
    (s.provisionCleared p).rmg.envelopes.get q = none := by
  refine (State.deleteEnvelopes_get _ q _).trans ?_
  split
  · rfl
  · next absent =>
    rw [State.mem_envelopesWhere] at absent
    cases held : (s.provisionCredentials p).rmg.envelopes.get q with
    | none => rfl
    | some e => exact absurd ⟨e, held, rfl⟩ absent

/-- A record of each envelope deleted or placed is among those that the stage writes. -/
theorem State.provisionAuthorities_run (p : ProvisionJob) (s : State) : ∃ waits records,
    s.provisionAuthorities p = ((s.provisionEnvelopes p).1.onAut fun a =>
      { a with engine := .finishing .authorities (.drawn (s.provisionCredentials p).model.draws) waits }).markAll records ∧
    .authority 0 ∈ records ∧ .authority 7 ∈ records ∧ ∀ q ∈ (s.provisionEnvelopes p).2, .envelope q ∈ records := by
  refine ⟨_, _, rfl, by simp, by simp, fun q hq => ?_⟩
  refine List.mem_append_right _ (List.mem_map_of_mem ?_)
  by_cases gone : q ∈ (s.provisionCredentials p).envelopesWhere fun _ => true
  · exact List.mem_append_left _ gone
  · have fresh : (!((s.provisionCredentials p).envelopesWhere fun _ => true).contains q) = true := by simpa using gone
    exact List.mem_append_right _ (List.mem_filter.mpr ⟨hq, fresh⟩)

/-- The domain envelope of ADMIN at position 0, RESCUE's at position 1. -/
theorem State.provisionEnvelopes_eq (p : ProvisionJob) (s : State) : ∃ n kek, n = (s.provisionCredentials p).model.draws ∧
    kek = Key.kek p.admin s.model.draws p.factor ∧
    s.provisionEnvelopes p = match p.rescue with
      | none => ((s.provisionCleared p).putEnvelope 0 (domainEnvelope 0 kek (.drawn n)), [0])
      | some c => (((s.provisionCleared p).putEnvelope 0 (domainEnvelope 0 kek (.drawn n))).putEnvelope 1
          (domainEnvelope 7 (.kek c (s.model.draws + 1) p.factor) (.drawn n)), [0, 1]) := by
  have first : (s.provisionCleared p).emptyPosition = some 0 :=
    State.emptyPosition_eq (s.provisionCleared_get p 0) fun q lt => absurd lt (Nat.not_lt_zero _)
  have second (e : Envelope) : ((s.provisionCleared p).putEnvelope 0 e).emptyPosition = some 1 := by
    refine State.emptyPosition_eq ?_ fun q lt => ?_
    · rw [State.putEnvelope_get, if_neg (by decide), s.provisionCleared_get]
    · have zero : q = 0 := Fin.ext (Nat.lt_one_iff.mp lt)
      simp [State.putEnvelope_get, zero]
  refine ⟨_, _, rfl, rfl, ?_⟩
  have admin (e : Envelope) := placeEnvelope_at (e := e) (l := []) first
  rw [State.provisionCleared] at admin
  cases hr : p.rescue with
  | none => simp only [State.provisionEnvelopes, hr, Option.map_none, admin, State.provisionCleared, List.nil_append]
  | some c =>
    have rescue (e f : Envelope) := placeEnvelope_at (e := f) (l := [0]) (second e)
    rw [State.provisionCleared] at rescue
    simp only [State.provisionEnvelopes, hr, Option.map_some, admin, List.nil_append, rescue, State.provisionCleared]
    rfl

theorem State.setCredential_auth (a b : AuthIx) (credential : List Byte) (factor : Nat) (startup : List RangeIx) (s : State) :
    (s.setCredential a credential factor startup).aut.auth.get b =
      if a = b then
        { s.aut.auth.get a with
          kept :=
            { enabled := true, failures := 0, limit := s.sto.policy.failureLimit, startup := startup
              credential := some ⟨s.model.draws, ⟨credential, s.model.draws, factor⟩, factor⟩ } }
      else s.aut.auth.get b := State.onAuthority_auth _ _ _ _

/-- The authorities after PROVISION's credentials are set. -/
structure State.Provisions (p : ProvisionJob) (s t : State) : Prop where
  draws : t.model.draws = s.model.draws + (if p.rescue.isSome then 2 else 1)
  admin : (t.aut.auth.get 0).kept =
    { enabled := true, failures := 0, limit := s.sto.policy.failureLimit, startup := p.adminSet
      credential := some ⟨s.model.draws, ⟨p.admin, s.model.draws, p.factor⟩, p.factor⟩ }
  disabled : p.rescue = none → (t.aut.auth.get 7).kept.enabled = false
  rescue : ∀ c, p.rescue = some c → (t.aut.auth.get 7).kept =
    { enabled := true, failures := 0, limit := s.sto.policy.failureLimit, startup := p.rescueSet
      credential := some ⟨s.model.draws + 1, ⟨c, s.model.draws + 1, p.factor⟩, p.factor⟩ }
  others : ∀ a, a ≠ 0 → a ≠ 7 → t.aut.auth.get a = s.aut.auth.get a
  signed : ∀ a, (t.aut.auth.get a).signedIn = (s.aut.auth.get a).signedIn

theorem State.provisionCredentials_provisions (p : ProvisionJob) (s : State) : s.Provisions p (s.provisionCredentials p) := by
  have first (b : AuthIx) := s.setCredential_auth 0 b p.admin p.factor p.adminSet
  cases hr : p.rescue with
  | none =>
    have run : s.provisionCredentials p = (s.setCredential 0 p.admin p.factor p.adminSet).onAuthority 7
        fun k => { k with enabled := false, startup := [] } := by simp only [State.provisionCredentials, hr]
    have auth (b : AuthIx) := (s.setCredential 0 p.admin p.factor p.adminSet).onAuthority_auth 7 b
      fun k => { k with enabled := false, startup := [] }
    rw [run]
    refine ⟨by rw [hr]; rfl, ?_, fun _ => by rw [auth, if_pos rfl], fun c k => by simp [hr] at k, fun a h0 h7 => ?_, fun a => ?_⟩
    · rw [auth, if_neg (by decide), first, if_pos rfl]
    · rw [auth, if_neg (Ne.symm h7), first, if_neg (Ne.symm h0)]
    · rw [auth, first, first]
      split <;> split <;> simp_all
  | some c =>
    have run : s.provisionCredentials p = (s.setCredential 0 p.admin p.factor p.adminSet).setCredential 7 c p.factor
        p.rescueSet := by simp only [State.provisionCredentials, hr]
    have auth (b : AuthIx) := (s.setCredential 0 p.admin p.factor p.adminSet).setCredential_auth 7 b c p.factor p.rescueSet
    rw [run]
    refine ⟨by rw [hr]; rfl, ?_, fun k => by simp [hr] at k, fun d k => ?_, fun a h0 h7 => ?_, fun a => ?_⟩
    · rw [auth, if_neg (by decide), first, if_pos rfl]
    · obtain rfl : c = d := Option.some.inj (hr.symm.trans k)
      rw [auth, if_pos rfl]
      rfl
    · rw [auth, if_neg (Ne.symm h7), first, if_neg (Ne.symm h0)]
    · rw [auth, first, first]
      split <;> split <;> simp_all

theorem Engine.eq_of_plain_finishing {e : Engine} {stage : Stage} {domain : Key} {ws : List Wait}
    (h : e.plain = .finishing stage domain ws) : ∃ waits, e = .finishing stage domain waits := by
  cases e with
  | finishing stage' domain' waits =>
    obtain ⟨rfl, rfl, -⟩ := Engine.finishing.inj h
    exact ⟨waits, rfl⟩
  | idle | charging | deriving_ => cases h

/-- Both derivations done, PROVISION's first stage is taken (R75). -/
theorem provision_firstStage {s : State} {p : ProvisionJob} (hp : s.pwc.power ≠ .unpowered)
    (engine : s.aut.engine = .deriving_ (.provision p)) (ready : p.rescue = none ∨ p.adminDone = true) :
    ∃ t n waits, exec .derivationComplete s = .next t ∧
      n = s.model.draws + (if p.rescue.isSome then 2 else 1) ∧ t.model.draws = n + 1 ∧
      t.aut.engine = .finishing .authorities (.drawn n) waits ∧
      (t.aut.auth.get 0).kept =
        { enabled := true, failures := 0, limit := s.sto.policy.failureLimit, startup := p.adminSet
          credential := some ⟨s.model.draws, ⟨p.admin, s.model.draws, p.factor⟩, p.factor⟩ } ∧
      t.rmg.envelopes.get 0 = some ⟨0, .domain, wrapped (.kek p.admin s.model.draws p.factor) (.drawn n)⟩ ∧
      (p.rescue = none → (t.aut.auth.get 7).kept.enabled = false ∧ t.rmg.envelopes.get 1 = none) ∧
      (∀ c, p.rescue = some c → (t.aut.auth.get 7).kept =
          { enabled := true, failures := 0, limit := s.sto.policy.failureLimit, startup := p.rescueSet
            credential := some ⟨s.model.draws + 1, ⟨c, s.model.draws + 1, p.factor⟩, p.factor⟩ } ∧
        t.rmg.envelopes.get 1 = some ⟨7, .domain, wrapped (.kek c (s.model.draws + 1) p.factor) (.drawn n)⟩) ∧
      (∀ q : EnvIx, 2 ≤ q.val → t.rmg.envelopes.get q = none) ∧
      (∀ a, isUser a = true → t.aut.auth.get a = s.aut.auth.get a) ∧
      (∀ a, (t.aut.auth.get a).signedIn = (s.aut.auth.get a).signedIn) ∧
      t.Marked (.authority 0) ∧ t.Marked (.authority 7) ∧ t.Marked (.envelope 0) ∧
      Unchanged [.authorities, .envelopes, .grants, .draws, .engine, .operation, .dirty] s t := by
  have derived : s.provisionDerived p = s.provisionAuthorities p := by
    rw [State.provisionDerived, if_neg]
    rcases ready with k | k <;> simp [k]
  obtain ⟨ws, records, run, adminIn, rescueIn, envelopesIn⟩ := s.provisionAuthorities_run p
  have provisions := s.provisionCredentials_provisions p
  obtain ⟨n, kek, hn, hkek, envelopes⟩ := s.provisionEnvelopes_eq p
  obtain ⟨u, hu⟩ : ∃ u, u = (s.provisionEnvelopes p).1.onAut fun a =>
      { a with engine := .finishing .authorities (.drawn (s.provisionCredentials p).model.draws) ws } := ⟨_, rfl⟩
  have after := (State.markAll_unchanged records u).append (State.settle_unchanged _)
  rw [← hu] at run
  have auth : (u.markAll records).settle.aut.auth = (s.provisionCredentials p).aut.auth := by
    refine (after .authorities (by decide)).trans ?_
    rw [hu, envelopes]
    cases p.rescue <;> rfl
  have draws : (u.markAll records).settle.model.draws = n + 1 := by
    refine (after .draws (by decide)).trans ?_
    rw [hu, envelopes, hn]
    cases p.rescue <;> rfl
  have envelope (q : EnvIx) : (u.markAll records).settle.rmg.envelopes.get q = (s.provisionEnvelopes p).1.rmg.envelopes.get q := by
    rw [(after .envelopes (by decide) : _ = u.rmg.envelopes), hu]
    rfl
  have plain : u.aut.engine.plain = .finishing .authorities (.drawn n) (waitsFor (ws.map Wait.record)) := by
    rw [hu, hn]
    rfl
  obtain ⟨waits, engine'⟩ := Engine.eq_of_plain_finishing ((after .engine (by decide)).trans plain)
  have zeroIn : .envelope 0 ∈ records := envelopesIn 0 (by rw [envelopes]; cases p.rescue <;> simp)
  have marked {r : RecordId} (hr : r ∈ records) : (u.markAll records).settle.Marked r :=
    (State.marked_markAll hr u).of_sto (State.settle_sto _)
  refine ⟨(u.markAll records).settle, n, waits, by rw [execDerivationComplete_provision hp engine, derived, run],
    hn.trans provisions.draws, draws, engine', by rw [auth, provisions.admin], ?_, fun absent => ⟨?_, ?_⟩,
    fun c given => ⟨by rw [auth, provisions.rescue c given], ?_⟩, fun q hq => ?_, fun a user => ?_, fun a => ?_,
    marked adminIn, marked rescueIn, marked zeroIn, ?_⟩
  · rw [envelope, envelopes, ← hkek]
    cases p.rescue with
    | none => exact (State.putEnvelope_get _ _ _ _).trans (if_pos rfl)
    | some c => simp [State.putEnvelope_get, domainEnvelope]
  · rw [auth, provisions.disabled absent]
  · rw [envelope, envelopes, absent]
    simp [State.putEnvelope_get, State.provisionCleared_get]
  · rw [envelope, envelopes, given]
    exact (State.putEnvelope_get _ _ _ _).trans (if_pos rfl)
  · have h0 : (0 : EnvIx) ≠ q := fun k => by rw [← k] at hq; simp at hq
    have h1 : (1 : EnvIx) ≠ q := fun k => by rw [← k] at hq; simp at hq
    rw [envelope, envelopes]
    cases p.rescue with
    | none => simp [State.putEnvelope_get, h0, State.provisionCleared_get]
    | some c => simp [State.putEnvelope_get, h0, h1, State.provisionCleared_get]
  · have ne : a ≠ 0 ∧ a ≠ 7 := by
      constructor <;> (rintro rfl; cases user)
    rw [auth, provisions.others a ne.1 ne.2]
  · rw [auth, provisions.signed]
  · have frame : Unchanged [.draws, .authorities, .envelopes, .grants, .engine] s u :=
      hu ▸ ((s.provisionEnvelopes_unchanged p).append (State.setEngine_unchanged _ _)).mono
    exact (frame.append after).mono

end Sys2Proof.Machine
end

section
/-! PROOFS. SET_CREDENTIAL's derivation and its grant set (R86, R87). -/

namespace Sys2Proof.Machine

/-! ## A grant set -/

/-- The range is defined, KEYED, and its key can be had. -/
def State.gives (s : State) (r : RangeIx) : Bool :=
  s.defined r && (s.rmg.ranges.get r).keyState == .keyed && (s.keyOf r).isSome

/-- What the ranges of a grant set come to, with the empty positions that are left. -/
def grantResults (gives : RangeIx → Bool) : List RangeIx → List EnvIx → List GrantResult
  | [], _ => []
  | r :: rs, [] => (if gives r then .noRoom else .wrongState) :: grantResults gives rs []
  | r :: rs, q :: qs =>
    if gives r then .position q :: grantResults gives rs qs else .wrongState :: grantResults gives rs (q :: qs)

/-- The empty positions for envelopes, ascending. -/
def State.emptyPositions (s : State) : List EnvIx := s.rmg.envelopes.positions Option.isNone

theorem State.emptyPosition_eq_head (s : State) : s.emptyPosition = s.emptyPositions.head? := (Table.head_positions _ _).symm

theorem Table.positions_nodup {α : Type} {n : Nat} (t : Table α n) (p : α → Bool) : (t.positions p).Nodup :=
  (List.nodup_finRange n).filter _

/-- The first position of those that satisfy `p`, set to an entry that does not, leaves the rest. -/
theorem Table.positions_set_first {α : Type} {n : Nat} {t : Table α n} {p : α → Bool} {i : Fin n} {rest : List (Fin n)} {a : α}
    (h : t.positions p = i :: rest) (ha : p a = false) : (t.set i a).positions p = rest := by
  have nodup : (i :: rest).Nodup := h ▸ Table.positions_nodup t p
  have left : (t.set i a).positions p = (t.positions p).filter fun j => j ≠ i := by
    simp only [Table.positions, List.filter_filter]
    refine List.filter_congr fun j _ => ?_
    rw [Table.get_set]
    by_cases same : i = j
    · simp [same, ha]
    · simp [same, Ne.symm same]
  have keep : ∀ j ∈ rest, j ≠ i := fun j hj same => (List.nodup_cons.mp nodup).1 (same ▸ hj)
  rw [left, h, List.filter_cons_of_neg (by simp)]
  exact List.filter_eq_self.mpr fun j hj => by simpa using keep j hj

theorem State.emptyPositions_putEnvelope {s : State} {p : EnvIx} {ps : List EnvIx} {e : Envelope}
    (h : s.emptyPositions = p :: ps) : (s.putEnvelope p e).emptyPositions = ps := Table.positions_set_first h rfl

/-- From `g` to `h` the ranges `rs` have been granted to `u`, as far as the empty positions go. -/
structure Granting.Grants (u : AuthIx) (kek : Key) (g h : Granting) (rs : List RangeIx) : Prop where
  frame : Unchanged [.envelopes] g.state h.state
  link : h.state.lnk = g.state.lnk
  placed : h.placed = g.placed ++ g.state.emptyPositions.take (rs.filter g.state.gives).length
  results : h.results = g.results ++ grantResults g.state.gives rs g.state.emptyPositions
  wrapped : ∀ (k : Nat) r q, (rs.filter g.state.gives)[k]? = some r → g.state.emptyPositions[k]? = some q →
    ∃ key, g.state.keyOf r = some key ∧
      h.state.rmg.envelopes.get q = some { authority := u, target := .range r, wrapped := wrapped kek key }
  others : ∀ q, q ∉ g.state.emptyPositions.take (rs.filter g.state.gives).length →
    h.state.rmg.envelopes.get q = g.state.rmg.envelopes.get q

theorem grantOne_wrongState {u : AuthIx} {kek : Key} {g : Granting} {r : RangeIx} (h : g.state.gives r = false) :
    grantOne u kek g r = { g with results := g.results ++ [.wrongState] } := by
  unfold grantOne
  by_cases keyed : (g.state.defined r && (g.state.rmg.ranges.get r).keyState == .keyed) = true
  · have absent : g.state.keyOf r = none := by simpa [State.gives, keyed] using h
    rw [if_pos keyed, absent]
  · rw [if_neg keyed]

theorem grantOne_noRoom {u : AuthIx} {kek : Key} {g : Granting} {r : RangeIx} (h : g.state.gives r = true)
    (full : g.state.emptyPosition = none) : grantOne u kek g r = { g with results := g.results ++ [.noRoom] } := by
  obtain ⟨keyed, key⟩ := Bool.and_eq_true _ _ ▸ h
  obtain ⟨k, hk⟩ := Option.isSome_iff_exists.mp key
  unfold grantOne
  rw [if_pos keyed, hk, full]

theorem grantOne_placed {u : AuthIx} {kek : Key} {g : Granting} {r : RangeIx} {p : EnvIx} {k : Key}
    (h : g.state.gives r = true) (hk : g.state.keyOf r = some k) (empty : g.state.emptyPosition = some p) :
    grantOne u kek g r =
      { state := g.state.putEnvelope p { authority := u, target := .range r, wrapped := wrapped kek k }
        placed := g.placed ++ [p], results := g.results ++ [.position p] } := by
  obtain ⟨keyed, -⟩ := Bool.and_eq_true _ _ ▸ h
  unfold grantOne
  rw [if_pos keyed, hk, empty]

theorem grants_run (u : AuthIx) (kek : Key) (rs : List RangeIx) (g : Granting) :
    g.Grants u kek (rs.foldl (grantOne u kek) g) rs := by
  induction rs generalizing g with
  | nil => exact ⟨.refl _ _, rfl, by simp, by simp [grantResults], by simp, by simp⟩
  | cons r rs ih =>
    rw [List.foldl_cons]
    by_cases gives : g.state.gives r = true
    · cases free : g.state.emptyPositions with
      | nil =>
        rw [grantOne_noRoom gives (by rw [State.emptyPosition_eq_head, free]; rfl)]
        obtain ⟨frame, link, placed, results, -, others⟩ := ih { g with results := g.results ++ [.noRoom] }
        rw [free] at placed results others
        refine ⟨frame, link, ?_, ?_, by simp [free], ?_⟩
        · simpa [free] using placed
        · simpa [free, grantResults, gives] using results
        · simpa [free] using others
      | cons p ps =>
        obtain ⟨key, hk⟩ := Option.isSome_iff_exists.mp ((Bool.and_eq_true _ _ ▸ gives : _ ∧ _).2)
        rw [grantOne_placed gives hk (by rw [State.emptyPosition_eq_head, free]; rfl)]
        obtain ⟨e, he⟩ : ∃ e : Envelope, e = { authority := u, target := .range r, wrapped := wrapped kek key } := ⟨_, rfl⟩
        rw [← he]
        obtain ⟨frame, link, placed, results, wraps, others⟩ := ih
          { state := g.state.putEnvelope p e, placed := g.placed ++ [p], results := g.results ++ [.position p] }
        have same : (g.state.putEnvelope p e).gives = g.state.gives := rfl
        rw [State.emptyPositions_putEnvelope free] at placed results wraps others
        simp only [same] at placed results wraps others
        have absent : p ∉ ps := (List.nodup_cons.mp (free ▸ Table.positions_nodup _ _)).1
        have here (n : Nat) : p ∉ ps.take n := fun k => absent (List.mem_of_mem_take k)
        have given : (r :: rs).filter g.state.gives = r :: rs.filter g.state.gives := List.filter_cons_of_pos gives
        refine ⟨((State.putEnvelope_unchanged p e g.state).append frame).mono, link, ?_, ?_, fun k x q hx hq => ?_, fun q hq => ?_⟩
        · rw [placed, free, given, List.length_cons, List.take_succ_cons, List.append_assoc, List.singleton_append]
        · rw [results, free, grantResults, if_pos gives, List.append_assoc, List.singleton_append]
        · rw [given] at hx
          rw [free] at hq
          cases k with
          | zero =>
            obtain rfl : r = x := by simpa using hx
            obtain rfl : p = q := by simpa using hq
            refine ⟨key, hk, ?_⟩
            rw [others p (here _), State.putEnvelope_get, if_pos rfl, he]
          | succ k => exact wraps k x q (by simpa using hx) (by simpa using hq)
        · rw [free, given, List.length_cons, List.take_succ_cons, List.mem_cons, not_or] at hq
          rw [others q hq.2, State.putEnvelope_get, if_neg (Ne.symm hq.1)]
    · have wrong : g.state.gives r = false := by simpa using gives
      rw [grantOne_wrongState wrong]
      obtain ⟨frame, link, placed, results, wraps, others⟩ := ih { g with results := g.results ++ [.wrongState] }
      have given : (r :: rs).filter g.state.gives = rs.filter g.state.gives := List.filter_cons_of_neg gives
      have result : grantResults g.state.gives (r :: rs) g.state.emptyPositions =
          .wrongState :: grantResults g.state.gives rs g.state.emptyPositions := by
        cases g.state.emptyPositions <;> simp [grantResults, wrong]
      exact ⟨frame, link, by rw [given]; exact placed, by rw [results, result, List.append_assoc, List.singleton_append],
        by rw [given]; exact wraps, by rw [given]; exact others⟩

/-- The result of a range by its place among those that can be granted. -/
theorem grantResults_eq {gives : RangeIx → Bool} {rs : List RangeIx} (nodup : rs.Nodup) (free : List EnvIx) :
    grantResults gives rs free = rs.map fun r => match (rs.filter gives).findIdx? (· == r) with
      | some k => match free[k]? with
        | some q => .position q
        | none => .noRoom
      | none => .wrongState := by
  induction rs generalizing free with
  | nil => rfl
  | cons r rs ih =>
    obtain ⟨absent, nodup⟩ := List.nodup_cons.mp nodup
    by_cases given : gives r = true
    · have later (x : RangeIx) (hx : x ∈ rs) : ((r :: rs).filter gives).findIdx? (· == x) =
          ((rs.filter gives).findIdx? (· == x)).map (· + 1) := by
        have ne : (r == x) = false := by simpa using fun k : r = x => absent (k ▸ hx)
        rw [List.filter_cons_of_pos given, List.findIdx?_cons, ne]
        rfl
      have first : ((r :: rs).filter gives).findIdx? (· == r) = some 0 := by
        rw [List.filter_cons_of_pos given, List.findIdx?_cons]
        simp
      rw [List.map_cons, first]
      cases free with
      | nil =>
        rw [grantResults, if_pos given, ih nodup]
        refine congrArg _ (List.map_congr_left fun x hx => ?_)
        rw [later x hx]
        cases (rs.filter gives).findIdx? (· == x) <;> rfl
      | cons q qs =>
        rw [grantResults, if_pos given, ih nodup]
        refine congrArg _ (List.map_congr_left fun x hx => ?_)
        rw [later x hx]
        cases (rs.filter gives).findIdx? (· == x) <;> rfl
    · have none_ : (rs.filter gives).findIdx? (· == r) = none := by
        rw [List.findIdx?_eq_none_iff]
        intro x hx
        simpa using fun k : x = r => absent (k ▸ List.mem_of_mem_filter hx)
      have result : grantResults gives (r :: rs) free = .wrongState :: grantResults gives rs free := by
        cases free <;> simp [grantResults, given]
      rw [result, List.map_cons, List.filter_cons_of_neg given, none_, ih nodup]

end Sys2Proof.Machine
end

section
/-! PROOFS. The end of a SET_CREDENTIAL's derivation (R87). -/

namespace Sys2Proof.Machine

theorem execDerivationComplete_credential {s : State} {u : AuthIx} {credential : List Byte} {salt factor : Nat}
    {grantSet startup : List RangeIx} (hp : s.pwc.power ≠ .unpowered)
    (engine : s.aut.engine = .deriving_ (.setCredential u credential salt factor grantSet startup)) :
    exec .derivationComplete s = .next (s.credentialSet u credential salt factor grantSet startup).settle := by
  show execDerivationComplete s = _
  rw [execDerivationComplete, State.occur_of_powered (State.powered_of_ne hp)]
  simp only [engine]

/-- Without a domain key the job ends, DENIED. -/
theorem credential_denied {s : State} {u : AuthIx} {credential : List Byte} {salt factor : Nat} {grantSet startup : List RangeIx}
    (hp : s.pwc.power ≠ .unpowered) (engine : s.aut.engine = .deriving_ (.setCredential u credential salt factor grantSet startup))
    (absent : s.rmg.domainKey = none) :
    ∃ t, exec .derivationComplete s = .next t ∧ t.aut.engine = .idle ∧
      (∀ i d, s.lnk.deferred.get i = some d → d.state = .working .engine → t.Finishes i d (.plain .denied)) ∧
      Unchanged [.deferred, .engine] s t := by
  have run : s.credentialSet u credential salt factor grantSet startup =
      (s.onAut fun a => { a with engine := .idle }).answerJob (.plain .denied) := by
    unfold State.credentialSet
    exact if_pos (by simp [absent])
  have answered := State.answerJob_unchanged (.plain .denied) (s.onAut fun a => { a with engine := .idle })
  have after := answered.append (State.settle_unchanged _)
  refine ⟨_, execDerivationComplete_credential hp engine, ?_, fun i d hd hw => ?_, ?_⟩
  · rw [run]
    exact after.engine_idle rfl
  · rw [run]
    exact (State.answerJob_finishes (s := s.onAut fun a => { a with engine := .idle }) _ hd hw).step (State.settle_keepsTold _)
  · rw [run]
    exact ((s.setEngine_unchanged .idle).append after).mono

/-- The user's record as SET_CREDENTIAL sets it. -/
def State.newCredential (s : State) (credential : List Byte) (salt factor : Nat) (startup : List RangeIx) : AuthorityRec :=
  { enabled := true, failures := 0, limit := s.sto.policy.failureLimit, startup := startup
    credential := some ⟨salt, ⟨credential, salt, factor⟩, factor⟩ }

/-- The state in which the grant set is gone through: the user signed out and set anew, its envelopes gone. -/
def State.renewed (u : AuthIx) (credential : List Byte) (salt factor : Nat) (startup : List RangeIx) (s : State) : State :=
  ((((s.onAut fun a => { a with engine := .idle }).deleteEnvelopes (s.envelopesWhere fun e => e.authority == u)).putOut
    u).onAuthority u fun _ => s.newCredential credential salt factor startup).withdraw (.backoff u)

/-- What stands then. -/
structure State.Renews (u : AuthIx) (k : AuthorityRec) (s t : State) : Prop where
  engine : t.aut.engine = .idle
  auth : t.aut.auth.get u = { signedIn := false, kept := k }
  kek : (s.aut.auth.get u).signedIn = true → t.rmg.keks.get u = none
  others : ∀ a, a ≠ u → t.aut.auth.get a = s.aut.auth.get a ∧ t.rmg.keks.get a = s.rmg.keks.get a
  domain : s.adminSignedIn = true → t.rmg.domainKey = s.rmg.domainKey
  backoff : t.deadline (.backoff u) = none
  envelopes : ∀ q, t.rmg.envelopes.get q =
    if q ∈ s.envelopesWhere (fun e => e.authority == u) then none else s.rmg.envelopes.get q
  link : t.lnk = s.lnk
  frame : Unchanged [.engine, .envelopes, .grants, .authorities, .domainKey, .keks, .deadlines] s t

theorem State.adminSignedIn_of_others {s t : State} {u : AuthIx} (hu : isUser u = true)
    (h : ∀ a, a ≠ u → t.aut.auth.get a = s.aut.auth.get a) : t.adminSignedIn = s.adminSignedIn := by
  have admin := isAdmin_false_of_isUser hu
  have h0 : (0 : AuthIx) ≠ u := by rintro rfl; cases hu
  have h7 : (7 : AuthIx) ≠ u := by rintro rfl; cases hu
  rw [State.adminSignedIn, State.adminSignedIn, h 0 h0, h 7 h7]

theorem State.renewed_renews {u : AuthIx} (hu : isUser u = true) (credential : List Byte) (salt factor : Nat)
    (startup : List RangeIx) (s : State) :
    s.Renews u (s.newCredential credential salt factor startup) (s.renewed u credential salt factor startup) := by
  obtain ⟨b, hb⟩ : ∃ b, b = (s.onAut fun a => { a with engine := .idle }).deleteEnvelopes
      (s.envelopesWhere fun e => e.authority == u) := ⟨_, rfl⟩
  obtain ⟨c, hc⟩ : ∃ c, c = b.putOut u := ⟨_, rfl⟩
  obtain ⟨d, hd⟩ : ∃ d, d = c.onAuthority u fun _ => s.newCredential credential salt factor startup := ⟨_, rfl⟩
  have run : s.renewed u credential salt factor startup = d.withdraw (.backoff u) := by rw [hd, hc, hb]; rfl
  have leaves : s.Leaves u c := by
    rw [hc, hb]
    exact (State.putOut_leaves u _).of_step rfl (fun _ _ => rfl) rfl rfl
  have set (a : AuthIx) := c.onAuthority_auth u a fun _ => s.newCredential credential salt factor startup
  have early : Unchanged [.engine, .envelopes, .grants] s b :=
    hb ▸ ((s.setEngine_unchanged .idle).append (State.deleteEnvelopes_unchanged _ _)).mono
  have out : Unchanged [.authorities, .domainKey, .keks] b c := hc ▸ State.putOut_unchanged u b
  have renew : Unchanged [.authorities] c d := hd ▸ State.onAuthority_unchanged u _ c
  have ended := State.withdraw_unchanged (.backoff u) d
  have late := (out.append renew).append ended
  have domain : s.adminSignedIn = true → c.rmg.domainKey = s.rmg.domainKey := by
    intro admin
    cases signed : (s.aut.auth.get u).signedIn with
    | false => exact (leaves.keys signed).2
    | true =>
      have same := State.adminSignedIn_of_others hu fun a ha => (leaves.others a ha).1
      rw [leaves.domain signed, same, admin]
      rfl
  rw [run]
  have auth (a : AuthIx) : (d.withdraw (.backoff u)).aut.auth.get a = d.aut.auth.get a := rfl
  refine ⟨late.engine_idle (hb ▸ rfl), ?_, fun signed => ?_, fun a ha => ⟨?_, ?_⟩, fun admin => ?_, State.withdraw_deadline _ _,
    fun q => ?_, ?_, ((early.append late)).mono⟩
  · rw [auth, hd, set, if_pos rfl]
    simp only [leaves.out]
  · exact hd ▸ leaves.kek signed hu
  · rw [auth, hd, set, if_neg (Ne.symm ha), (leaves.others a ha).1]
  · exact hd ▸ (leaves.others a ha).2
  · exact hd ▸ domain admin
  · rw [(late .envelopes (by decide) : _ = b.rmg.envelopes), hb]
    exact State.deleteEnvelopes_get _ _ _
  · have link : c.lnk = b.lnk := hc ▸ State.putOut_lnk u b
    exact hd ▸ link.trans (hb ▸ rfl)

/-- The grant set of SET_CREDENTIAL, gone through. -/
def State.granted (u : AuthIx) (kek : Key) (grantSet : List RangeIx) (s : State) : Granting :=
  grantSet.foldl (grantOne u kek) { state := s, placed := [], results := [] }

theorem State.credentialSet_eq {u : AuthIx} {credential : List Byte} {salt factor : Nat} {grantSet startup : List RangeIx}
    {s : State} (held : s.rmg.domainKey.isSome) : ∃ g records,
    g = (s.renewed u credential salt factor startup).granted u (.kek credential salt factor) grantSet ∧
    s.credentialSet u credential salt factor grantSet startup =
      (g.state.jobWaits records (okWith (.granted g.results)) (storeFault .none)).markAll records ∧
    .authority u ∈ records ∧ ∀ q ∈ g.placed, .envelope q ∈ records := by
  refine ⟨_, (s.envelopesWhere fun e => e.authority == u).map RecordId.envelope ++ [.authority u] ++
    (((s.renewed u credential salt factor startup).granted u (.kek credential salt factor) grantSet).placed.filter
      fun p => !((s.envelopesWhere fun e => e.authority == u).contains p)).map RecordId.envelope, rfl, ?_, by simp, fun q hq => ?_⟩
  · unfold State.credentialSet
    rw [if_neg (by simp [Option.isSome_iff_ne_none.mp held])]
    rfl
  · by_cases gone : q ∈ s.envelopesWhere fun e => e.authority == u
    · exact List.mem_append_left _ (List.mem_append_left _ (List.mem_map_of_mem gone))
    · have fresh : (!(s.envelopesWhere fun e => e.authority == u).contains q) = true := by simpa using gone
      exact List.mem_append_right _ (List.mem_map_of_mem (List.mem_filter.mpr ⟨hq, fresh⟩))

/-- The job's reply waits on the writes from here. -/
theorem State.jobWaits_entry {rs : List RecordId} {done fault : Reply} {i : DeferIx} {d : Deferred} {s : State}
    (hd : s.lnk.deferred.get i = some d) (hw : d.state = .working .engine) :
    (s.jobWaits rs done fault).lnk.deferred.get i = some { d with state := .working (.writes (waitsFor rs) none done fault) } := by
  refine (Table.get_imap _ _ _).trans ?_
  rw [hd]
  simp [hw]

theorem State.jobWaits_unchanged (rs : List RecordId) (done fault : Reply) (s : State) :
    Unchanged [.deferred] s (s.jobWaits rs done fault) := s.onWork_unchanged _

/-- The derivation of a SET_CREDENTIAL under a domain key. -/
structure State.SetsCredential (u : AuthIx) (credential : List Byte) (salt factor : Nat) (grantSet startup : List RangeIx)
    (s b t : State) (g : Granting) : Prop where
  renews : s.Renews u (s.newCredential credential salt factor startup) b
  grants : Granting.Grants u (.kek credential salt factor) { state := b, placed := [], results := [] } g grantSet
  engine : t.aut.engine = .idle
  entry : ∀ i d, s.lnk.deferred.get i = some d → d.state = .working .engine →
    ∃ waits, (t.lnk.deferred.get i).map Deferred.plain =
      some { d with state := .working (.writes waits none (okWith (.granted g.results)) (storeFault .none)) }
  own : t.Marked (.authority u)
  placed : ∀ q ∈ g.placed, t.Marked (.envelope q)
  frame : Unchanged [.deferred, .operation, .dirty] g.state t

theorem credential_sets {s : State} {u : AuthIx} {credential : List Byte} {salt factor : Nat} {grantSet startup : List RangeIx}
    (hp : s.pwc.power ≠ .unpowered) (hu : isUser u = true)
    (engine : s.aut.engine = .deriving_ (.setCredential u credential salt factor grantSet startup))
    (held : s.rmg.domainKey.isSome) :
    ∃ t b g, exec .derivationComplete s = .next t ∧ s.SetsCredential u credential salt factor grantSet startup b t g := by
  obtain ⟨g, records, hg, run, ownIn, placedIn⟩ := State.credentialSet_eq (u := u) (credential := credential) (salt := salt)
    (factor := factor) (grantSet := grantSet) (startup := startup) held
  have renews := State.renewed_renews hu credential salt factor startup s
  obtain ⟨b, hb⟩ : ∃ b, b = s.renewed u credential salt factor startup := ⟨_, rfl⟩
  rw [← hb] at renews hg
  have grants := grants_run u (.kek credential salt factor) grantSet { state := b, placed := [], results := [] }
  rw [← State.granted, ← hg] at grants
  obtain ⟨v, hv⟩ : ∃ v, v = g.state.jobWaits records (okWith (.granted g.results)) (storeFault .none) := ⟨_, rfl⟩
  have waits : Unchanged [.deferred] g.state v := hv ▸ State.jobWaits_unchanged _ _ _ _
  have after := (v.markAll_unchanged records).append (State.settle_unchanged _)
  have late := waits.append after
  have marked {r : RecordId} (hr : r ∈ records) : (v.markAll records).settle.Marked r :=
    (State.marked_markAll hr v).of_sto (State.settle_sto _)
  refine ⟨(v.markAll records).settle, b, g, by rw [execDerivationComplete_credential hp engine, run, hv], renews, grants,
    (grants.frame.append late).engine_idle renews.engine, fun i d hd hw => ⟨waitsFor records, ?_⟩, marked ownIn,
    fun q hq => marked (placedIn q hq), late.mono⟩
  have entry : v.lnk.deferred.get i = some { d with
      state := .working (.writes (waitsFor records) none (okWith (.granted g.results)) (storeFault .none)) } := by
    rw [hv]
    refine State.jobWaits_entry ?_ hw
    rw [grants.link, renews.link, hd]
  have kept := after .deferred (by decide) i (by rw [entry]; rfl)
  rw [kept, entry]
  simp [Deferred.plain, Work.plain, waitsFor]

/-- A position is free for the new envelopes where none stands or the user's own did. -/
theorem State.Renews.emptyPositions {u : AuthIx} {k : AuthorityRec} {s t : State} (h : s.Renews u k t) : t.emptyPositions =
    (List.finRange 48).filter fun q => (s.rmg.envelopes.get q).all fun e => e.authority == u := by
  refine List.filter_congr fun q _ => ?_
  rw [h.envelopes]
  simp only [State.mem_envelopesWhere]
  cases held : s.rmg.envelopes.get q with
  | none => simp
  | some e => by_cases own : e.authority = u <;> simp [own]

/-- Under a sound key cache what can be granted is what could be before. -/
theorem State.Renews.keyOf {u : AuthIx} {k : AuthorityRec} {s t : State} (h : s.Renews u k t) (held : s.rmg.domainKey.isSome)
    (sound : s.AuthorityKeysSound) : t.keyOf = s.keyOf := by
  have domain := h.domain (sound.1 held)
  have keys : t.rmg.rangeKeys = s.rmg.rangeKeys := h.frame .rangeKeys (by decide)
  have ranges : t.rmg.ranges = s.rmg.ranges := h.frame .ranges (by decide)
  funext r
  rw [State.keyOf, State.keyOf, keys, ranges, domain]

theorem State.Renews.gives {u : AuthIx} {k : AuthorityRec} {s t : State} (h : s.Renews u k t) (held : s.rmg.domainKey.isSome)
    (sound : s.AuthorityKeysSound) : t.gives =
      fun r => s.defined r && (s.rmg.ranges.get r).keyState == .keyed && (s.keyOf r).isSome := by
  have ranges : t.rmg.ranges = s.rmg.ranges := h.frame .ranges (by decide)
  funext r
  rw [State.gives, State.defined, h.keyOf held sound, ranges]
  rfl

theorem Granting.Grants.mem_placed {u : AuthIx} {kek : Key} {g h : Granting} {rs : List RangeIx} {q : EnvIx}
    (grants : g.Grants u kek h rs) (hq : q ∈ g.state.emptyPositions.take (rs.filter g.state.gives).length) :
    ∃ e, h.state.rmg.envelopes.get q = some e ∧ e.authority = u := by
  obtain ⟨k, lt, at_⟩ := List.mem_take_iff_getElem.mp hq
  obtain ⟨lk, le⟩ := Nat.lt_min.mp lt
  obtain ⟨key, -, held⟩ := grants.wrapped k _ q (List.getElem?_eq_getElem lk) (at_ ▸ List.getElem?_eq_getElem le)
  exact ⟨_, held, rfl⟩

/-- The envelopes of the other authorities stand. -/
theorem State.SetsCredential.othersEnvelopes {u : AuthIx} {credential : List Byte} {salt factor : Nat}
    {grantSet startup : List RangeIx} {s b t : State} {g : Granting}
    (h : s.SetsCredential u credential salt factor grantSet startup b t g) {q : EnvIx} {e : Envelope} (other : e.authority ≠ u) :
    t.rmg.envelopes.get q = some e ↔ s.rmg.envelopes.get q = some e := by
  rw [(h.frame .envelopes (by decide) : t.rmg.envelopes = g.state.rmg.envelopes)]
  by_cases placed : q ∈ b.emptyPositions.take (grantSet.filter b.gives).length
  · obtain ⟨f, held, own⟩ := h.grants.mem_placed placed
    have free : (s.rmg.envelopes.get q).all (fun e => e.authority == u) = true := by
      have := List.mem_of_mem_take placed
      rw [h.renews.emptyPositions] at this
      exact (List.mem_filter.mp this).2
    refine ⟨fun k => ?_, fun k => ?_⟩
    · rw [held] at k
      exact absurd (Option.some.inj k ▸ own) other
    · rw [k] at free
      exact absurd (by simpa using free) other
  · rw [h.grants.others q placed, h.renews.envelopes]
    simp only [State.mem_envelopesWhere]
    refine ⟨fun k => ?_, fun k => ?_⟩
    · split at k
      · cases k
      · exact k
    · rw [if_neg, k]
      rintro ⟨f, hf, own⟩
      rw [k] at hf
      exact other (Option.some.inj hf ▸ by simpa using own)

theorem notMem_take {α : Type} {l : List α} {a : α} {k n : Nat} (nodup : l.Nodup) (h : l[k]? = some a) (le : n ≤ k) :
    a ∉ l.take n := by
  intro mem
  obtain ⟨j, lt, at_⟩ := List.mem_take_iff_getElem.mp mem
  obtain ⟨lk, here⟩ := List.getElem?_eq_some_iff.mp h
  have same : j = k := nodup.getElem_inj_iff.mp (at_.trans here.symm)
  omega

/-- Settles O30: the engine is taken at once, and each derivation's end sets its credentials and envelopes. -/
theorem credentialJobsRunToTheirDerivation : Obligations.CredentialJobsRunToTheirDerivation := by
  refine ⟨fun s h admin rescue adminSet rescueSet hs lifecycle fits fitsRescue empty adminFits rescueFits idle free =>
      provision_takes hs lifecycle fits fitsRescue empty adminFits rescueFits idle free, ?_,
    fun s p hp engine => ⟨fun rescue first => ?_, fun ready => provision_firstStage hp engine ready⟩,
    fun s u credential salt factor grantSet startup hp hu engine =>
      ⟨fun absent => credential_denied hp engine absent, fun held => ?_⟩⟩
  · rintro s h acting _ u credential grantSet startup hs ha rfl hu fits grantFits startupFits idle free
    exact setCredential_takes hs ha hu fits grantFits startupFits idle free
  · have run : s.provisionDerived p =
        s.onAut fun a => { a with engine := .deriving_ (.provision { p with adminDone := true }) } :=
      if_pos (by simp [rescue, first])
    refine ⟨_, execDerivationComplete_provision hp engine, ?_, ?_⟩
    · rw [run, State.settle_aut]
      rfl
    · rw [run]
      exact ((s.setEngine_unchanged _).append (State.settle_unchanged _)).mono
  · obtain ⟨t, b, g, run, sets⟩ := credential_sets hp hu engine held
    obtain ⟨renews, grants, idle, entry, own, placed, after⟩ := id sets
    have late := grants.frame.append after
    have auth : t.aut.auth = b.aut.auth := late .authorities (by decide)
    have keks : t.rmg.keks = b.rmg.keks := late .keks (by decide)
    have domain : t.rmg.domainKey = b.rmg.domainKey := late .domainKey (by decide)
    have envelopes : t.rmg.envelopes = g.state.rmg.envelopes := after .envelopes (by decide)
    refine ⟨t, run, idle, by rw [auth]; exact renews.auth, fun signed => by rw [keks]; exact renews.kek signed,
      fun a ha => by rw [auth, keks]; exact renews.others a ha, fun admin => by rw [domain]; exact renews.domain admin,
      (late.deadline (p := .backoff u) nofun).trans renews.backoff, fun q e other => sets.othersEnvelopes other, ?_, own,
      (renews.frame.append late).mono⟩
    rintro given free results rfl rfl rfl nodup sound
    obtain ⟨-, -, placedAt, resultsAre, wraps, others⟩ := grants
    simp only [renews.emptyPositions, renews.gives held sound, renews.keyOf held sound, List.nil_append]
      at placedAt resultsAre wraps others
    refine ⟨fun k r key q hr hk hq => ?_, fun k q hq past => ?_, fun i d hd hw => ?_⟩
    · obtain ⟨key', hk', held'⟩ := wraps k r q hr hq
      obtain rfl : key' = key := Option.some.inj (hk'.symm.trans hk)
      refine ⟨by rw [envelopes]; exact held', placed q ?_⟩
      rw [placedAt]
      exact List.mem_of_getElem? (by
        rw [List.getElem?_take_of_lt (List.getElem?_eq_some_iff.mp hr).1]
        exact hq)
    · have empty : q ∈ b.emptyPositions := by
        rw [renews.emptyPositions]
        exact List.mem_of_getElem? hq
      rw [envelopes, others q (notMem_take ((List.nodup_finRange 48).filter _) hq (List.getElem?_eq_none_iff.mp past))]
      exact Option.isNone_iff_eq_none.mp (Table.mem_positions.mp empty)
    · obtain ⟨waits, here⟩ := entry i d hd hw
      rw [resultsAre, grantResults_eq nodup] at here
      exact ⟨waits, here⟩

end Sys2Proof.Machine
end

section
/-! PROOFS. The eager loads of several ranges, and their opening (R16, R55, R81). -/

namespace Sys2Proof.Machine

/-! ## Eager loads in ascending order (R55) -/

/-- The EMPTY slots, ascending. -/
def State.emptySlots (s : State) : List SlotIx := s.kln.slots.positions fun l => l.state == .empty

/-- The LOAD of each range for the slot it takes. -/
def State.loadFrames (s : State) (rs : List RangeIx) : List LaneFrame :=
  (rs.zip s.emptySlots).map fun w => { op := .load, slot := w.2, key := some (s.occupantOf w.1) }

/-- From `s` to `t` each of the ranges `rs`, none with a slot, has taken the lowest EMPTY slot left, as far as they go. -/
structure State.LoadsAll (rs : List RangeIx) (s t : State) : Prop where
  entry : ∀ q, t.rmg.ranges.get q = { s.rmg.ranges.get q with slot := (t.rmg.ranges.get q).slot }
  others : ∀ q, q ∉ rs → t.rmg.ranges.get q = s.rmg.ranges.get q
  slot : ∀ (k : Nat) r, rs[k]? = some r → (t.rmg.ranges.get r).slot = s.emptySlots[k]?
  taken : ∀ w ∈ rs.zip s.emptySlots, t.kln.slots.get w.2 =
    { state := .loading, occupant := some (s.occupantOf w.1), next := none, pins := 0, lastUse := s.tmb.uptime }
  standing : ∀ i, i ∉ s.emptySlots.take rs.length → t.kln.slots.get i = s.kln.slots.get i
  queue : t.kln.queue = s.kln.queue ++ s.loadFrames rs
  lane : t.kln.lane = s.kln.lane
  tmb : t.tmb = s.tmb
  model : t.model = s.model
  wpc : t.wpc = s.wpc

theorem State.emptySlot_eq_head (s : State) : s.emptySlot = s.emptySlots.head? := (Table.head_positions _ _).symm

theorem State.eagerLoad_full {r : RangeIx} {s : State} (full : s.emptySlots = []) : s.eagerLoad r = s := by
  rw [State.eagerLoad, State.emptySlot_eq_head, full]
  exact ite_self _

theorem State.eagerLoad_slotted {r : RangeIx} {s : State} (h : (s.rmg.ranges.get r).slot.isSome = true) : s.eagerLoad r = s :=
  if_pos h

theorem State.eagerLoad_takes {r : RangeIx} {i : SlotIx} {rest : List SlotIx} {s : State}
    (none_ : (s.rmg.ranges.get r).slot = none) (free : s.emptySlots = i :: rest) : s.eagerLoad r = s.assignSlot i r := by
  rw [State.eagerLoad, if_neg (by simp [none_]), State.emptySlot_eq_head, free]
  rfl

theorem State.assignSlot_ranges (i : SlotIx) (r q : RangeIx) (s : State) : (s.assignSlot i r).rmg.ranges.get q =
    if r = q then { s.rmg.ranges.get r with slot := some i } else s.rmg.ranges.get q :=
  State.onRange_get r q (fun e => { e with slot := some i }) _

theorem State.assignSlot_slots (i : SlotIx) (r : RangeIx) (s : State) : (s.assignSlot i r).kln.slots = s.kln.slots.set i
    { state := .loading, occupant := some (s.occupantOf r), next := none, pins := 0, lastUse := s.tmb.uptime } := rfl

theorem State.emptySlots_assignSlot {r : RangeIx} {i : SlotIx} {rest : List SlotIx} {s : State} (free : s.emptySlots = i :: rest) :
    (s.assignSlot i r).emptySlots = rest := Table.positions_set_first free rfl

theorem State.eagerLoadFold_loads {rs : List RangeIx} (nodup : rs.Nodup) {s : State}
    (none_ : ∀ r ∈ rs, (s.rmg.ranges.get r).slot = none) : s.LoadsAll rs (rs.foldl (fun s r => s.eagerLoad r) s) := by
  induction rs generalizing s with
  | nil => exact ⟨fun _ => rfl, fun _ _ => rfl, by simp, by simp, fun _ _ => rfl, by simp [State.loadFrames], rfl, rfl, rfl, rfl⟩
  | cons r rs ih =>
    obtain ⟨absent, nodup⟩ := List.nodup_cons.mp nodup
    have own := none_ r List.mem_cons_self
    rw [List.foldl_cons]
    cases free : s.emptySlots with
    | nil =>
      rw [State.eagerLoad_full free]
      obtain ⟨entry, others, slot, -, standing, queue, lane, tmb, model, wpc⟩ := ih nodup (s := s) fun q hq =>
        none_ q (List.mem_cons_of_mem _ hq)
      refine ⟨entry, fun q hq => others q fun k => hq (List.mem_cons_of_mem _ k), fun k q hq => ?_, by simp [free],
        fun i _ => standing i (by simp [free]), ?_, lane, tmb, model, wpc⟩
      · rw [free, List.getElem?_nil]
        cases k with
        | zero =>
          obtain rfl : r = q := by simpa using hq
          rw [others r absent, own]
        | succ k =>
          have := slot k q (by simpa using hq)
          rw [this, free, List.getElem?_nil]
      · rw [queue]
        simp [State.loadFrames, free]
    | cons i rest =>
      rw [State.eagerLoad_takes own free]
      have ranges (q : RangeIx) := s.assignSlot_ranges i r q
      have apart {q : RangeIx} (hq : q ∈ rs) : (s.assignSlot i r).rmg.ranges.get q = s.rmg.ranges.get q := by
        rw [ranges, if_neg]
        rintro rfl
        exact absent hq
      have left : (s.assignSlot i r).emptySlots = rest := State.emptySlots_assignSlot free
      obtain ⟨entry, others, slot, taken, standing, queue, lane, tmb, model, wpc⟩ := ih nodup (s := s.assignSlot i r) fun q hq => by
        rw [apart hq]
        exact none_ q (List.mem_cons_of_mem _ hq)
      rw [left] at slot taken standing
      have fresh : i ∉ rest := (List.nodup_cons.mp (free ▸ Table.positions_nodup _ _)).1
      have occupant {q : RangeIx} (hq : q ∈ rs) : (s.assignSlot i r).occupantOf q = s.occupantOf q := by
        rw [State.occupantOf, State.occupantOf, apart hq]
      refine ⟨fun q => ?_, fun q hq => ?_, fun k q hq => ?_, fun w hw => ?_, fun j hj => ?_, ?_, lane, tmb, model, wpc⟩
      · rw [entry q, ranges]
        split
        · next same => rw [same]
        · rfl
      · rw [List.mem_cons, not_or] at hq
        rw [others q hq.2, ranges, if_neg (Ne.symm hq.1)]
      · rw [free]
        cases k with
        | zero =>
          obtain rfl : r = q := by simpa using hq
          rw [others r absent, ranges, if_pos rfl]
          rfl
        | succ k => exact slot k q (by simpa using hq)
      · rw [free, List.zip_cons_cons, List.mem_cons] at hw
        rcases hw with rfl | hw
        · rw [standing i fun k => fresh (List.mem_of_mem_take k), State.assignSlot_slots, Table.get_set_self]
        · rw [taken w hw, occupant (List.of_mem_zip hw).1]
          rfl
      · rw [free, List.length_cons, List.take_succ_cons, List.mem_cons, not_or] at hj
        rw [standing j hj.2, State.assignSlot_slots, Table.get_set_ne _ _ (Ne.symm hj.1)]
      · have frames : (s.assignSlot i r).loadFrames rs =
            (rs.zip rest).map fun w => { op := .load, slot := w.2, key := some (s.occupantOf w.1) } := by
          rw [State.loadFrames, left]
          exact List.map_congr_left fun w hw => by rw [occupant (List.of_mem_zip hw).1]
        rw [queue, frames, State.loadFrames, free, List.zip_cons_cons, List.map_cons, ← List.singleton_append, ← List.append_assoc]
        rfl

/-- The ranges that an occurrence has opened and that have no slot, ascending. -/
def State.slotless (s : State) (opened : List RangeIx) : List RangeIx :=
  (List.finRange 16).filter fun r => opened.contains r && (s.rmg.ranges.get r).slot.isNone

theorem State.eagerLoads_eq (opened : List RangeIx) (s : State) :
    s.eagerLoads opened = (s.slotless opened).foldl (fun s r => s.eagerLoad r) s := by
  have general (rs : List RangeIx) (nodup : rs.Nodup) (u : State) :
      rs.foldl (fun s r => if opened.contains r then s.eagerLoad r else s) u =
        (rs.filter fun r => opened.contains r && (u.rmg.ranges.get r).slot.isNone).foldl (fun s r => s.eagerLoad r) u := by
    induction rs generalizing u with
    | nil => rfl
    | cons r rs ih =>
      obtain ⟨absent, nodup⟩ := List.nodup_cons.mp nodup
      rw [List.foldl_cons, ih nodup]
      by_cases given : opened.contains r = true
      · rw [if_pos given]
        cases slot : (u.rmg.ranges.get r).slot with
        | some i => rw [State.eagerLoad_slotted (by simp [slot]), List.filter_cons_of_neg (by simp [slot])]
        | none =>
          rw [List.filter_cons_of_pos (by simp [slot, List.contains_iff_mem.mp given]), List.foldl_cons]
          refine congrArg (List.foldl _ (u.eagerLoad r)) (List.filter_congr fun q hq => ?_)
          rw [State.eagerLoad_get, if_neg]
          rintro rfl
          exact absent hq
      · rw [if_neg given, List.filter_cons_of_neg (by simpa using fun k => absurd (List.contains_iff_mem.mpr k) given)]
  exact general _ (List.nodup_finRange 16) s

theorem State.eagerLoads_loadsAll (opened : List RangeIx) (s : State) :
    s.LoadsAll (s.slotless opened) (s.eagerLoads opened) := by
  rw [State.eagerLoads_eq]
  refine State.eagerLoadFold_loads ((List.nodup_finRange 16).filter _) fun r hr => ?_
  have := (List.mem_filter.mp hr).2
  rw [Bool.and_eq_true] at this
  exact Option.isNone_iff_eq_none.mp this.2

/-- The eager loads in the terms of the statements. -/
theorem State.LoadsAll.loads {rs : List RangeIx} {s t u : State} {e : List Part} (h : s.LoadsAll rs t) (k : Unchanged e t u)
    (he : Part.ranges ∉ e ∧ Part.slots ∉ e ∧ Part.lane ∉ e ∧ Part.uptime ∉ e := by decide) :
    u.Loads rs s.kln.slots s.kln.queue s.kln.lane := by
  obtain ⟨noRanges, noSlots, noLane, noUptime⟩ := he
  have ranges : u.rmg.ranges = t.rmg.ranges := k .ranges noRanges
  have slots : u.kln.slots = t.kln.slots := k .slots noSlots
  have uptime : u.tmb.uptime = t.tmb.uptime := k .uptime noUptime
  have occupant (r : RangeIx) : s.occupantOf r = { range := r, generation := (u.rmg.ranges.get r).generation } := by
    rw [State.occupantOf, ranges, h.entry]
  refine ⟨fun n r hr => ?_, fun w hw => ?_, fun i hi => ?_, ?_⟩
  · rw [ranges]
    exact h.slot n r hr
  · rw [slots, h.taken w hw, uptime, h.tmb, occupant]
  · rw [slots]
    exact h.standing i hi
  · refine State.laneQueue_of_same (k .lane noLane) h.lane (h.queue.trans ?_)
    simp only [State.loadFrames, occupant]
    rfl

/-! ## Several ranges opened (R16, R81) -/

/-- From `s` to `t` each range to which `key` gives a key has opened with it; the others stand. -/
structure State.OpensWith (key : RangeIx → Option Key) (s t : State) : Prop where
  ranges : ∀ r, t.rmg.ranges.get r =
    if (key r).isSome then { s.rmg.ranges.get r with lock := .opened } else s.rmg.ranges.get r
  keys : ∀ r, t.rmg.rangeKeys.get r = (key r).or (s.rmg.rangeKeys.get r)
  kln : t.kln = s.kln
  tmb : t.tmb = s.tmb
  thm : t.thm = s.thm
  aut : t.aut = s.aut
  model : t.model = s.model
  link : t.lnk = s.lnk
  pwc : t.pwc = s.pwc
  wpc : t.wpc = s.wpc
  mapGen : t.rmg.mapGen = s.rmg.mapGen
  frame : Unchanged [.rangeKeys, .ranges, .faulty] s t

theorem State.OpensWith.refl (s : State) : s.OpensWith (fun _ => none) s :=
  ⟨fun _ => rfl, fun _ => rfl, rfl, rfl, rfl, rfl, rfl, rfl, rfl, rfl, rfl, .refl _ _⟩

theorem State.OpensWith.trans {f g : RangeIx → Option Key} {s t u : State} (h : s.OpensWith f t) (k : t.OpensWith g u) :
    s.OpensWith (fun r => (g r).or (f r)) u := by
  refine ⟨fun r => ?_, fun r => ?_, k.kln.trans h.kln, k.tmb.trans h.tmb, k.thm.trans h.thm, k.aut.trans h.aut,
    k.model.trans h.model, k.link.trans h.link, k.pwc.trans h.pwc, k.wpc.trans h.wpc,
    k.mapGen.trans h.mapGen,
    (h.frame.append k.frame).mono⟩
  · rw [k.ranges, h.ranges]
    cases g r <;> cases f r <;> rfl
  · rw [k.keys, h.keys, Option.or_assoc]

theorem State.OpensWith.congr {f g : RangeIx → Option Key} {s t : State} (h : s.OpensWith f t) (same : ∀ r, g r = f r) :
    s.OpensWith g t := by
  obtain rfl : g = f := funext same
  exact h

theorem State.openWith_opens (r : RangeIx) (k : Key) (s : State) :
    s.OpensWith (fun q => if q = r then some k else none) (s.openWith r k .opened) := by
  refine ⟨fun q => ?_, fun q => ?_, rfl, rfl, rfl, rfl, rfl, rfl, rfl, rfl, rfl, (s.openWith_unchanged _ _ _).mono⟩
  · rw [State.openWith_get]
    by_cases same : q = r
    · subst same
      simp
    · simp [same, Ne.symm same]
  · rw [State.openWith_keys, Table.get_set]
    by_cases same : q = r
    · subst same
      simp
    · simp [same, Ne.symm same]

theorem State.addFaulty_opens (r : RecordId) (s : State) : s.OpensWith (fun _ => none) (s.addFaulty r) := by
  have frame : Unchanged [.rangeKeys, .ranges, .faulty] s (s.addFaulty r) := (s.addFaulty_unchanged r).mono
  unfold State.addFaulty at frame ⊢
  split at frame
  · next known =>
    rw [if_pos known]
    exact .refl s
  · next new =>
    rw [if_neg new]
    exact ⟨fun _ => rfl, fun _ => rfl, rfl, rfl, rfl, rfl, rfl, rfl, rfl, rfl, rfl, frame⟩

/-- The key with which R16 opens a range, if it does. -/
def State.plainKey (s : State) (r : RangeIx) : Option Key :=
  if s.opensPlain LockState.isLocked r then unwrap (s.rmg.ranges.get r).deviceWrap (some .device) else none

theorem openPlainStep_opens (acc : State × List RangeIx) (r : RangeIx) :
    acc.1.OpensWith (fun q => if q = r then acc.1.plainKey r else none) (openPlainStep LockState.isLocked acc r).1 ∧
      (openPlainStep LockState.isLocked acc r).2 = acc.2 ++ if (acc.1.plainKey r).isSome then [r] else [] := by
  unfold openPlainStep State.plainKey
  split
  · split
    · next k hk => exact ⟨(acc.1.openWith_opens r k).congr fun q => by rw [hk], by simp [hk]⟩
    · next hk => exact ⟨(acc.1.addFaulty_opens _).congr fun q => by rw [hk, ite_self], by simp [hk]⟩
  · exact ⟨(State.OpensWith.refl _).congr fun q => ite_self _, by simp⟩

theorem State.OpensWith.plainKey {f : RangeIx → Option Key} {s t : State} (h : s.OpensWith f t) {q : RangeIx}
    (none_ : f q = none) : t.plainKey q = s.plainKey q := by
  have same : t.rmg.ranges.get q = s.rmg.ranges.get q := by rw [h.ranges, none_]; rfl
  rw [State.plainKey, State.plainKey, State.opensPlain_congr same h.thm, same]

/-- R16 for several ranges. -/
theorem openPlainFold_opens {rs : List RangeIx} (nodup : rs.Nodup) (acc : State × List RangeIx) :
    acc.1.OpensWith (fun q => if q ∈ rs then acc.1.plainKey q else none) (rs.foldl (openPlainStep LockState.isLocked) acc).1 ∧
      (rs.foldl (openPlainStep LockState.isLocked) acc).2 = acc.2 ++ rs.filter fun q => (acc.1.plainKey q).isSome := by
  induction rs generalizing acc with
  | nil => exact ⟨(State.OpensWith.refl _).congr fun q => by simp, by simp⟩
  | cons r rs ih =>
    obtain ⟨absent, nodup⟩ := List.nodup_cons.mp nodup
    obtain ⟨first, opened⟩ := openPlainStep_opens acc r
    obtain ⟨rest, listed⟩ := ih nodup (openPlainStep LockState.isLocked acc r)
    have same {q : RangeIx} (hq : q ∈ rs) : (openPlainStep LockState.isLocked acc r).1.plainKey q = acc.1.plainKey q :=
      first.plainKey (if_neg fun k : q = r => absent (k ▸ hq))
    rw [List.foldl_cons]
    refine ⟨(first.trans rest).congr fun q => ?_, ?_⟩
    · by_cases later : q ∈ rs
      · have ne : q ≠ r := fun k => absent (k ▸ later)
        simp [later, ne, same later]
      · by_cases here : q = r <;> simp [later, here, absent]
    · rw [listed, opened, List.filter_congr fun q hq => by rw [same hq], List.append_assoc]
      by_cases some_ : (acc.1.plainKey r).isSome = true
      · rw [if_pos some_, List.filter_cons, if_pos some_, List.singleton_append]
      · rw [if_neg some_, List.filter_cons, if_neg some_, List.nil_append]

end Sys2Proof.Machine
end

section
/-! PROOFS. A matching derivation: the state before the openings (R80, R102, R107). -/

namespace Sys2Proof.Machine

theorem State.deadline_none_of_othersStand {p : Purpose} {mine : Purpose → Bool} {s t : State} (h : s.deadline p = none)
    (k : s.OthersStand mine t) (hp : mine p = false) (ha : p ≠ .absence) : t.deadline p = none :=
  State.deadline_eq_none.mpr fun d hd e => by
    subst e
    exact State.deadline_eq_none.mp h d ((k d hp ha).1.mp hd) rfl

/-- What a sign-in of `a` concerns before it opens a range. -/
def Part.signIn : List Part :=
  [.authorities, .tryCount, .lastSignIn, .engine, .armed, .deadlines, .fallen, .domainKey, .keks, .level, .grace, .reports]

/-- From `s` to `b` the authority has joined the signed-in set, its charge refunded. -/
structure State.JoinsSet (a : AuthIx) (s b : State) : Prop where
  engine : b.aut.engine = .idle
  signed : (b.aut.auth.get a).signedIn = true
  kept : (b.aut.auth.get a).kept = { (s.aut.auth.get a).kept with failures := 0 }
  others : ∀ c, c ≠ a → b.aut.auth.get c = s.aut.auth.get c
  tries : b.aut.tryCount = 0
  last : b.aut.lastSignIn = s.pscNow
  backoff : b.deadline (.backoff a) = none
  armed : b.thm.armed = true
  kln : b.kln = s.kln
  lnk : b.lnk = s.lnk
  model : b.model = s.model
  othersStand : s.OthersStand (fun p => p == .backoff a || p == .grace) b
  frame : Unchanged Part.signIn s b

theorem State.joinSet_unchanged (a : AuthIx) (s : State) :
    Unchanged [.authorities, .tryCount, .lastSignIn, .engine, .armed, .deadlines] s (s.joinSet a) := by
  have refund : Unchanged [.authorities] s (s.onAuthority a fun k => { k with failures := 0 }) := State.onAuthority_unchanged _ _ _
  obtain ⟨u, hu⟩ : ∃ u, u = s.onAuthority a fun k => { k with failures := 0 } := ⟨_, rfl⟩
  rw [← hu] at refund
  have counts : Unchanged [.tryCount, .lastSignIn, .engine] u
      (u.onAut fun t => { t with tryCount := 0, lastSignIn := s.pscNow, engine := .idle }) := by
    intro p hp; cases p <;> simp_all [Part.same]
  obtain ⟨v, hv⟩ : ∃ v, v = ((u.onAut fun t => { t with tryCount := 0, lastSignIn := s.pscNow, engine := .idle }).withdraw
      (.backoff a)).setSignedIn a true := ⟨_, rfl⟩
  have signs : Unchanged [.deadlines, .authorities] _ v :=
    hv ▸ (State.withdraw_unchanged _ _).append (State.setSignedIn_unchanged _ _ _)
  have arms : Unchanged [.armed] v (v.onThm fun t => { t with armed := true }) := by
    intro p hp; cases p <;> simp_all [Part.same]
  have run : s.joinSet a = v.onThm fun t => { t with armed := true } := by rw [hv, hu]; rfl
  rw [run]
  exact (((refund.append counts).append signs).append arms).mono

theorem State.joinSet_auth (a c : AuthIx) (s : State) : (s.joinSet a).aut.auth.get c =
    if a = c then { s.aut.auth.get a with signedIn := true, kept := { (s.aut.auth.get a).kept with failures := 0 } }
    else s.aut.auth.get c := by
  have refund (b : AuthIx) := s.onAuthority_auth a b fun k => { k with failures := 0 }
  obtain ⟨u, hu⟩ : ∃ u, u = ((s.onAuthority a fun k => { k with failures := 0 }).onAut fun t =>
    { t with tryCount := 0, lastSignIn := s.pscNow, engine := .idle }).withdraw (.backoff a) := ⟨_, rfl⟩
  have same (b : AuthIx) : u.aut.auth.get b = (s.onAuthority a fun k => { k with failures := 0 }).aut.auth.get b := hu ▸ rfl
  have run : (s.joinSet a).aut = (u.setSignedIn a true).aut := hu ▸ rfl
  rw [run, State.setSignedIn_auth, same, same, refund, refund, if_pos rfl]
  split <;> rfl

theorem State.joinSet_joins (a : AuthIx) (s : State) : s.JoinsSet a (s.joinSet a) := by
  have auth := s.joinSet_auth a
  refine ⟨rfl, by rw [auth, if_pos rfl], by rw [auth, if_pos rfl], fun c hc => by rw [auth, if_neg (Ne.symm hc)], rfl, rfl, ?_,
    rfl, rfl, rfl, rfl, ?_, (s.joinSet_unchanged a).mono⟩
  · exact State.withdraw_deadline (.backoff a)
      ((s.onAuthority a fun k => { k with failures := 0 }).onAut fun t =>
        { t with tryCount := 0, lastSignIn := s.pscNow, engine := .idle })
  · have tmb : (s.joinSet a).tmb = (s.withdraw (.backoff a)).tmb := rfl
    have stands := s.withdraw_othersStand (.backoff a)
    unfold State.OthersStand at *
    rw [tmb]
    exact fun d hd => stands d (by simp_all)

/-- A step that leaves AUT, KLN and LNK. -/
theorem State.JoinsSet.step {a : AuthIx} {s b c : State} (h : s.JoinsSet a b) (aut : c.aut = b.aut)
    (armed : c.thm.armed = b.thm.armed) (kln : c.kln = b.kln) (lnk : c.lnk = b.lnk) (model : c.model = b.model)
    (stands : b.OthersStand (· == .grace) c)
    (frame : Unchanged [.domainKey, .keks, .level, .grace, .reports, .deadlines, .fallen] b c) : s.JoinsSet a c where
  engine := by rw [aut, h.engine]
  signed := by rw [aut, h.signed]
  kept := by rw [aut, h.kept]
  others := by rw [aut]; exact h.others
  tries := by rw [aut, h.tries]
  last := by rw [aut, h.last]
  backoff := State.deadline_none_of_othersStand h.backoff stands rfl nofun
  armed := by rw [armed, h.armed]
  kln := kln.trans h.kln
  lnk := lnk.trans h.lnk
  model := model.trans h.model
  othersStand := h.othersStand.trans (stands.mono fun p hp => by rw [hp, Bool.or_true])
  frame := (h.frame.append frame).mono

/-- The domain key that an admin's envelope yields enters the cache. -/
def State.cacheDomain (k : Option Key) (s : State) : State :=
  match k with
  | some k => s.onRmg fun m => { m with domainKey := some k }
  | none => s

theorem State.cacheDomain_unchanged (k : Option Key) (s : State) : Unchanged [.domainKey] s (s.cacheDomain k) := by
  cases k with
  | none => exact .refl _ _
  | some k => intro p hp; cases p <;> simp_all [Part.same, State.cacheDomain]

theorem State.cacheDomain_domainKey (k : Option Key) (s : State) : (s.cacheDomain k).rmg.domainKey = k.or s.rmg.domainKey := by
  cases k <;> rfl

theorem State.cacheDomain_others (k : Option Key) (s : State) : (s.cacheDomain k).aut = s.aut ∧ (s.cacheDomain k).thm = s.thm ∧
    (s.cacheDomain k).kln = s.kln ∧ (s.cacheDomain k).lnk = s.lnk ∧ (s.cacheDomain k).model = s.model ∧
    (s.cacheDomain k).tmb = s.tmb := by
  cases k <;> exact ⟨rfl, rfl, rfl, rfl, rfl, rfl⟩

/-- An admin's sign-in brings WARY and ALARM to CALM (R107). -/
def State.calms (s : State) : Bool := s.thm.level = .wary || s.thm.level = .alarm

def State.calmed (a : AuthIx) (s : State) : State :=
  if s.calms then s.clearGrace.setLevel .calm .signIn (some a) else s

theorem State.calmed_unchanged (a : AuthIx) (s : State) :
    Unchanged [.grace, .deadlines, .fallen, .level, .reports] s (s.calmed a) := by
  unfold State.calmed
  split
  · exact s.clearGrace_unchanged.append (State.setLevel_unchanged _ _ _ _)
  · exact .refl _ _

theorem State.calmed_others (a : AuthIx) (s : State) : (s.calmed a).aut = s.aut ∧ (s.calmed a).thm.armed = s.thm.armed ∧
    (s.calmed a).kln = s.kln ∧ (s.calmed a).lnk = s.lnk ∧ (s.calmed a).model = s.model := by
  unfold State.calmed
  split <;> exact ⟨rfl, rfl, rfl, rfl, rfl⟩

theorem State.calmed_othersStand (a : AuthIx) (s : State) : s.OthersStand (· == .grace) (s.calmed a) := by
  unfold State.calmed
  split
  · exact State.cancel_othersStand .grace (s.onThm fun t => { t with grace := none })
  · exact .refl _ _

theorem State.calmed_level (a : AuthIx) (s : State) :
    (s.calmed a).thm.level = if s.calms then .calm else s.thm.level := by
  unfold State.calmed
  split <;> rfl

theorem State.calmed_grace {a : AuthIx} {s : State} (h : s.calms = true) :
    (s.calmed a).thm.grace = none ∧ (s.calmed a).deadline .grace = none := by
  rw [State.calmed, if_pos h]
  exact ⟨rfl, (State.cancel_ended .grace (s.onThm fun t => { t with grace := none })).1⟩

/-- The state in which an admin's sign-in opens ranges. -/
def State.adminBase (a : AuthIx) (kek : Key) (s : State) : State :=
  ((s.joinSet a).cacheDomain (unwrap (s.envelopeWrap a .domain) (some kek))).calmed a

/-- The state in which a user's sign-in opens ranges. -/
def State.userBase (a : AuthIx) (kek : Key) (s : State) : State :=
  (s.joinSet a).onRmg fun m => { m with keks := m.keks.set a (some kek) }

theorem State.adminBase_joins (a : AuthIx) (kek : Key) (s : State) : s.JoinsSet a (s.adminBase a kek) := by
  have domain := (s.joinSet a).cacheDomain_unchanged (unwrap (s.envelopeWrap a .domain) (some kek))
  obtain ⟨aut, thm, kln, lnk, model, -⟩ := (s.joinSet a).cacheDomain_others (unwrap (s.envelopeWrap a .domain) (some kek))
  obtain ⟨aut', armed', kln', lnk', model'⟩ :=
    ((s.joinSet a).cacheDomain (unwrap (s.envelopeWrap a .domain) (some kek))).calmed_others a
  refine ((s.joinSet_joins a).step aut (by rw [thm]) kln lnk model domain.othersStand domain.mono).step aut' armed' kln' lnk' model'
    (State.calmed_othersStand _ _) (State.calmed_unchanged _ _).mono

theorem State.userBase_joins (a : AuthIx) (kek : Key) (s : State) : s.JoinsSet a (s.userBase a kek) := by
  have cached : Unchanged [.keks] (s.joinSet a) (s.userBase a kek) := by
    intro p hp; cases p <;> simp_all [Part.same, State.userBase]
  exact (s.joinSet_joins a).step rfl rfl rfl rfl rfl cached.othersStand cached.mono

end Sys2Proof.Machine
end

section
/-! PROOFS. A matching derivation: the openings of a sign-in (R16, R81). -/

namespace Sys2Proof.Machine

/-! ## The start-up set -/

/-- The key with which a start-up set opens a range, if it does. -/
def State.startupKey (wrapOf : RangeIx → Option Wrapped) (under : Key) (s : State) (r : RangeIx) : Option Key :=
  if s.startsUp r then unwrap (wrapOf r) (some under) else none

/-- A range of a start-up set whose unwrap fails. -/
def State.startupFails (wrapOf : RangeIx → Option Wrapped) (under : Key) (s : State) (r : RangeIx) : Bool :=
  s.startsUp r && (unwrap (wrapOf r) (some under)).isNone

theorem State.startsUp_congr {s t : State} {r : RangeIx} (h : t.rmg.ranges.get r = s.rmg.ranges.get r) :
    t.startsUp r = s.startsUp r := by
  simp only [State.startsUp, State.defined, h]

section
variable {wrapOf : RangeIx → Option Wrapped} {under : Key}

theorem openStartup_opens (o : Opening) (r : RangeIx) :
    o.state.OpensWith (fun q => if q = r then o.state.startupKey wrapOf under r else none) (openStartup wrapOf under o r).state ∧
      (∀ q, q ∈ (openStartup wrapOf under o r).opened ↔
        q ∈ o.opened ∨ q = r ∧ (o.state.startupKey wrapOf under r).isSome = true) ∧
      ∀ q, q ∈ (openStartup wrapOf under o r).failed ↔
        q ∈ o.failed ∨ q = r ∧ o.state.startupFails wrapOf under r = true := by
  unfold openStartup State.startupKey State.startupFails
  by_cases starts : o.state.startsUp r = true
  · rw [if_pos starts, if_pos starts]
    split
    · next k hk => exact ⟨(o.state.openWith_opens r k).congr fun q => by rw [hk], by simp [hk], by simp [hk]⟩
    · next hk => exact ⟨(State.OpensWith.refl _).congr fun q => by rw [hk, ite_self], by simp [hk], by simp [hk, starts]⟩
  · rw [if_neg starts, if_neg starts]
    exact ⟨(State.OpensWith.refl _).congr fun q => ite_self _, by simp, by simp [starts]⟩

theorem openStartupFold_opens {rs : List RangeIx} (nodup : rs.Nodup) (o : Opening) :
    o.state.OpensWith (fun q => if q ∈ rs then o.state.startupKey wrapOf under q else none)
      (rs.foldl (openStartup wrapOf under) o).state ∧
      (∀ q, q ∈ (rs.foldl (openStartup wrapOf under) o).opened ↔
        q ∈ o.opened ∨ q ∈ rs ∧ (o.state.startupKey wrapOf under q).isSome = true) ∧
      ∀ q, q ∈ (rs.foldl (openStartup wrapOf under) o).failed ↔
        q ∈ o.failed ∨ q ∈ rs ∧ o.state.startupFails wrapOf under q = true := by
  induction rs generalizing o with
  | nil => exact ⟨(State.OpensWith.refl _).congr fun q => by simp, by simp, by simp⟩
  | cons r rs ih =>
    obtain ⟨absent, nodup⟩ := List.nodup_cons.mp nodup
    obtain ⟨first, opened, failed⟩ := openStartup_opens (wrapOf := wrapOf) (under := under) o r
    obtain ⟨rest, openedRest, failedRest⟩ := ih nodup (openStartup wrapOf under o r)
    have same {q : RangeIx} (hq : q ∈ rs) : (openStartup wrapOf under o r).state.startsUp q = o.state.startsUp q := by
      refine State.startsUp_congr ?_
      rw [first.ranges, if_neg fun k : q = r => absent (k ▸ hq)]
      rfl
    have key {q : RangeIx} (hq : q ∈ rs) : (openStartup wrapOf under o r).state.startupKey wrapOf under q =
        o.state.startupKey wrapOf under q := by rw [State.startupKey, State.startupKey, same hq]
    have fails {q : RangeIx} (hq : q ∈ rs) : (openStartup wrapOf under o r).state.startupFails wrapOf under q =
        o.state.startupFails wrapOf under q := by rw [State.startupFails, State.startupFails, same hq]
    rw [List.foldl_cons]
    refine ⟨(first.trans rest).congr fun q => ?_, fun q => ?_, fun q => ?_⟩
    · by_cases later : q ∈ rs
      · have ne : q ≠ r := fun k => absent (k ▸ later)
        simp [later, ne, key later]
      · by_cases here : q = r <;> simp [later, here, absent]
    · rw [openedRest, opened, List.mem_cons]
      by_cases later : q ∈ rs
      · have ne : q ≠ r := fun k => absent (k ▸ later)
        simp [later, ne, key later]
      · by_cases here : q = r <;> simp [later, here, absent]
    · rw [failedRest, failed, List.mem_cons]
      by_cases later : q ∈ rs
      · have ne : q ≠ r := fun k => absent (k ▸ later)
        simp [later, ne, fails later]
      · by_cases here : q = r <;> simp [later, here, absent]

end

/-- What a sign-in has opened from `b`, and with which keys. -/
structure State.OpensFor (key : RangeIx → Option Key) (fails : RangeIx → Bool) (b : State) (o : Opening) : Prop where
  opens : b.OpensWith key o.state
  opened : ∀ r, r ∈ o.opened ↔ (key r).isSome = true
  failed : ∀ r, r ∈ o.failed ↔ fails r = true

theorem State.startupSet_nodup (s : State) (a : AuthIx) : (s.startupSet a).Nodup := (List.nodup_finRange 16).filter _

theorem State.mem_startupSet {s : State} {a : AuthIx} {r : RangeIx} :
    r ∈ s.startupSet a ↔ r ∈ (s.aut.auth.get a).kept.startup := by
  simp [State.startupSet]

/-! ## A user's sign-in -/

/-- The key with which a user's sign-in opens a range. -/
def State.takesUp (s : State) (a : AuthIx) (r : RangeIx) : Bool :=
  (s.aut.auth.get a).kept.startup.contains r && !(s.skipped r) && (s.envelopeAt a (.range r)).isSome

def State.userKey (a : AuthIx) (kek : Key) (b : State) (r : RangeIx) : Option Key :=
  if b.takesUp a r then b.startupKey (fun q => b.envelopeWrap a (.range q)) kek r else none

def State.userFails (a : AuthIx) (kek : Key) (b : State) (r : RangeIx) : Bool :=
  b.takesUp a r && b.startupFails (fun q => b.envelopeWrap a (.range q)) kek r

theorem State.openForUser_opens (a : AuthIx) (kek : Key) (s : State) :
    (s.userBase a kek).OpensFor ((s.userBase a kek).userKey a kek) ((s.userBase a kek).userFails a kek)
      ((s.joinSet a).openForUser a kek) := by
  obtain ⟨b, hb⟩ : ∃ b, b = s.userBase a kek := ⟨_, rfl⟩
  have run : (s.joinSet a).openForUser a kek =
      ((b.startupSet a).filter fun r => !(b.skipped r) && (b.envelopeAt a (.range r)).isSome).foldl
        (openStartup (fun r => b.envelopeWrap a (.range r)) kek) { state := b, opened := [], failed := [] } := hb ▸ rfl
  obtain ⟨opens, opened, failed⟩ := openStartupFold_opens (wrapOf := fun r => b.envelopeWrap a (.range r)) (under := kek)
    ((b.startupSet_nodup a).filter fun r => !(b.skipped r) && (b.envelopeAt a (.range r)).isSome)
    { state := b, opened := [], failed := [] }
  have mem (r : RangeIx) : (r ∈ (b.startupSet a).filter fun r => !(b.skipped r) && (b.envelopeAt a (.range r)).isSome) ↔
      b.takesUp a r = true := by
    rw [List.mem_filter, State.mem_startupSet]
    simp [State.takesUp, and_assoc]
  rw [← hb, run]
  refine ⟨opens.congr fun r => ?_, fun r => ?_, fun r => ?_⟩
  · simp only [State.userKey, mem]
  · rw [opened, mem, State.userKey]
    by_cases h : b.takesUp a r = true <;> simp [h]
  · rw [failed, mem, State.userFails]
    simp

/-! ## An admin's sign-in -/

/-- R16's part of the key: the return to CALM opens the ranges with `lock_enabled` false. -/
def State.calmKey (b : State) (returns : Bool) (r : RangeIx) : Option Key := if returns then b.plainKey r else none

/-- The start-up set's part of the key, under the domain key. -/
def State.domainKeyed (a : AuthIx) (domain : Option Key) (b : State) (r : RangeIx) : Option Key :=
  match domain with
  | some k => if r ∈ (b.aut.auth.get a).kept.startup then b.startupKey (fun q => (b.rmg.ranges.get q).domainWrap) k r else none
  | none => none

def State.adminKey (a : AuthIx) (domain : Option Key) (returns : Bool) (b : State) (r : RangeIx) : Option Key :=
  (b.domainKeyed a domain r).or (b.calmKey returns r)

def State.adminFails (a : AuthIx) (domain : Option Key) (returns : Bool) (b : State) (r : RangeIx) : Bool :=
  returns && (b.opensPlain LockState.isLocked r && (unwrap (b.rmg.ranges.get r).deviceWrap (some .device)).isNone) ||
    match domain with
    | some k => (b.aut.auth.get a).kept.startup.contains r && b.startupFails (fun q => (b.rmg.ranges.get q).domainWrap) k r
    | none => false

theorem State.plainKey_shut {s : State} {r : RangeIx} (h : (s.plainKey r).isSome = true) :
    (s.rmg.ranges.get r).flags.lockEnabled = false := by
  unfold State.plainKey at h
  split at h
  · next opens =>
    simp only [State.opensPlain, Bool.and_eq_true] at opens
    obtain ⟨⟨⟨⟨⟨-, plain⟩, -⟩, -⟩, -⟩, -⟩ := opens
    simpa using plain
  · cases h

theorem State.returnToCalm_calms {a : AuthIx} {s : State} (h : s.calms = true) : s.returnToCalm a =
    { state := ((List.finRange 16).foldl (openPlainStep LockState.isLocked) (s.calmed a, [])).1
      opened := ((List.finRange 16).foldl (openPlainStep LockState.isLocked) (s.calmed a, [])).2
      failed := (List.finRange 16).filter fun r => (s.calmed a).opensPlain LockState.isLocked r &&
        (unwrap ((s.calmed a).rmg.ranges.get r).deviceWrap (some .device)).isNone } := by
  rw [State.calmed, if_pos h]
  exact if_pos h

theorem State.returnToCalm_stays {a : AuthIx} {s : State} (h : s.calms = false) :
    s.returnToCalm a = { state := s.calmed a, opened := [], failed := [] } := by
  rw [State.calmed, if_neg (by simp [h])]
  exact if_neg (Bool.eq_false_iff.mp h)

/-- The return to CALM opens what R16 lets open. -/
theorem State.returnToCalm_opens (a : AuthIx) (s : State) : (s.calmed a).OpensFor ((s.calmed a).calmKey s.calms)
    (fun r => s.calms && ((s.calmed a).opensPlain LockState.isLocked r &&
      (unwrap ((s.calmed a).rmg.ranges.get r).deviceWrap (some .device)).isNone)) (s.returnToCalm a) := by
  cases returns : s.calms with
  | true =>
    obtain ⟨rs, hrs⟩ : ∃ rs, rs = List.finRange 16 := ⟨_, rfl⟩
    have all (r : RangeIx) : r ∈ rs := hrs ▸ List.mem_finRange r
    obtain ⟨opens, opened⟩ := openPlainFold_opens (hrs ▸ List.nodup_finRange 16 : rs.Nodup) (s.calmed a, [])
    rw [State.returnToCalm_calms returns, ← hrs]
    refine ⟨opens.congr fun r => ?_, fun r => ?_, fun r => ?_⟩
    · rw [if_pos (all r), State.calmKey, if_pos rfl]
    · rw [opened, List.nil_append, List.mem_filter, State.calmKey, if_pos rfl]
      exact and_iff_right (all r)
    · rw [List.mem_filter, Bool.true_and]
      exact and_iff_right (all r)
  | false =>
    rw [State.returnToCalm_stays returns]
    exact ⟨.refl _, fun r => by simp [State.calmKey], fun r => by simp⟩

/-- An admin's start-up set opens under the domain key, if there is one. -/
def Opening.startUp (a : AuthIx) (domain : Option Key) (o : Opening) : Opening :=
  match domain with
  | some k => (o.state.startupSet a).foldl (openStartup (fun r => (o.state.rmg.ranges.get r).domainWrap) k) o
  | none => o

theorem State.openForAdmin_eq {a : AuthIx} {kek : Key} {s : State} {domain : Option Key}
    (h : domain = unwrap (s.envelopeWrap a .domain) (some kek)) :
    s.openForAdmin a kek = ((s.cacheDomain domain).returnToCalm a).startUp a domain := by
  subst h
  rfl

/-- The level from which the sign-in returns to CALM stands until it does. -/
theorem State.adminBase_calms (a : AuthIx) (kek : Key) (s : State) :
    ((s.joinSet a).cacheDomain (unwrap (s.envelopeWrap a .domain) (some kek))).calms = s.calms := by
  obtain ⟨-, thm, -⟩ := (s.joinSet a).cacheDomain_others (unwrap (s.envelopeWrap a .domain) (some kek))
  rw [State.calms, thm]
  rfl

theorem State.openForAdmin_opens (a : AuthIx) (kek : Key) (s : State) :
    (s.adminBase a kek).OpensFor
      ((s.adminBase a kek).adminKey a (unwrap (s.envelopeWrap a .domain) (some kek)) s.calms)
      ((s.adminBase a kek).adminFails a (unwrap (s.envelopeWrap a .domain) (some kek)) s.calms)
      ((s.joinSet a).openForAdmin a kek) := by
  have calms := s.adminBase_calms a kek
  obtain ⟨domain, hdomain⟩ : ∃ domain, domain = unwrap (s.envelopeWrap a .domain) (some kek) := ⟨_, rfl⟩
  obtain ⟨b, hb⟩ : ∃ b, b = s.adminBase a kek := ⟨_, rfl⟩
  obtain ⟨c, hc⟩ : ∃ c, c = (s.joinSet a).cacheDomain domain := ⟨_, rfl⟩
  have base : b = c.calmed a := by rw [hb, hc, hdomain]; rfl
  rw [← hdomain, ← hc] at calms
  rw [← hb, ← hdomain]
  obtain ⟨opens, opened, failed⟩ := c.returnToCalm_opens a
  rw [← base, calms] at opens opened failed
  have run : (s.joinSet a).openForAdmin a kek = (c.returnToCalm a).startUp a domain :=
    hc ▸ State.openForAdmin_eq (s := s.joinSet a) hdomain
  rw [run]
  cases domain with
  | none =>
    refine ⟨opens.congr fun r => ?_, fun r => ?_, fun r => ?_⟩
    · simp [State.adminKey, State.domainKeyed]
    · refine (opened r).trans ?_
      simp [State.adminKey, State.domainKeyed]
    · refine (failed r).trans ?_
      simp [State.adminFails]
  | some k =>
    have starts (r : RangeIx) : (c.returnToCalm a).state.startsUp r = b.startsUp r := by
      cases key : b.calmKey s.calms r with
      | none =>
        refine State.startsUp_congr ?_
        rw [opens.ranges, key]
        rfl
      | some k =>
        have shut : (b.rmg.ranges.get r).flags.lockEnabled = false := by
          refine State.plainKey_shut ?_
          unfold State.calmKey at key
          split at key
          · rw [key]
            rfl
          · cases key
        simp only [State.startsUp, opens.ranges, key]
        simp [shut]
    have wraps (r : RangeIx) : ((c.returnToCalm a).state.rmg.ranges.get r).domainWrap = (b.rmg.ranges.get r).domainWrap := by
      rw [opens.ranges]
      split <;> rfl
    have member (r : RangeIx) : r ∈ (c.returnToCalm a).state.startupSet a ↔ r ∈ (b.aut.auth.get a).kept.startup := by
      rw [State.mem_startupSet, opens.aut]
    obtain ⟨more, openedMore, failedMore⟩ := openStartupFold_opens (under := k)
      (wrapOf := fun r => ((c.returnToCalm a).state.rmg.ranges.get r).domainWrap)
      ((c.returnToCalm a).state.startupSet_nodup a) (c.returnToCalm a)
    refine ⟨(opens.trans more).congr fun r => ?_, fun r => ?_, fun r => ?_⟩
    · simp only [member, State.startupKey, starts, wraps, State.adminKey, State.domainKeyed]
    · refine (openedMore r).trans ?_
      rw [opened, member]
      simp only [State.startupKey, starts, wraps, State.adminKey, State.domainKeyed, Option.isSome_or]
      by_cases h : r ∈ (b.aut.auth.get a).kept.startup <;> simp [h, or_comm]
    · refine (failedMore r).trans ?_
      rw [failed, member]
      simp [State.startupFails, starts, wraps, State.adminFails]

end Sys2Proof.Machine
end

section
/-! PROOFS. A matching derivation: loads, map generation, notice and reply (R80, R81, R102, R107). -/

namespace Sys2Proof.Machine

/-- A list of ranges in ascending order of index. -/
def ascending (l : List RangeIx) : List RangeIx := (List.finRange 16).filter fun r => l.contains r

theorem mem_ascending {l : List RangeIx} {r : RangeIx} : r ∈ ascending l ↔ r ∈ l := by simp [ascending]

theorem ascending_isEmpty (l : List RangeIx) : ascending l = [] ↔ l.isEmpty = true := by
  rw [List.isEmpty_iff, List.eq_nil_iff_forall_not_mem, List.eq_nil_iff_forall_not_mem]
  exact forall_congr' fun r => not_congr mem_ascending

/-- The eager loads of a sign-in, with the map generation and the THREAT notice of a change (R107). -/
def State.signInLoads (a : AuthIx) (before : Level) (o : Opening) : State :=
  let loaded := o.state.eagerLoads o.opened
  let counted := if (loaded.thm.level != before) || !o.opened.isEmpty then loaded.bump else loaded
  if loaded.thm.level != before then counted.threatNotice before .signIn (some a) else counted

/-- The reply of a sign-in (R80). -/
def State.signInReply (a : AuthIx) (o : Opening) (s : State) : Reply :=
  okWith (.signedIn a s.thm.level (ascending o.opened) (ascending o.failed)
    (if isAdmin a then some s.rmg.domainKey.isSome else none))

theorem State.signIn_eq (a : AuthIx) (kek : Key) (s : State) : ∃ o,
    o = (if isAdmin a then (s.joinSet a).openForAdmin a kek else (s.joinSet a).openForUser a kek) ∧
    s.signIn a kek = ((State.signInLoads a s.thm.level o).answerJob
      ((State.signInLoads a s.thm.level o).signInReply a o)).markAll [.authority a, .counters] := ⟨_, rfl, rfl⟩

/-- What `signInLoads` leaves, before the reply. -/
structure State.SignInLoads (a : AuthIx) (before : Level) (o : Opening) (z : State) : Prop where
  entry : ∀ r, z.rmg.ranges.get r = { o.state.rmg.ranges.get r with slot := (z.rmg.ranges.get r).slot }
  standing : ∀ r, r ∉ o.state.slotless o.opened → z.rmg.ranges.get r = o.state.rmg.ranges.get r
  loads : ∀ e u, Unchanged e z u → Part.ranges ∉ e ∧ Part.slots ∉ e ∧ Part.lane ∉ e ∧ Part.uptime ∉ e →
    u.Loads (o.state.slotless o.opened) o.state.kln.slots o.state.kln.queue o.state.kln.lane
  mapGen : o.state.model.bumped = false →
    z.rmg.mapGen = if o.state.thm.level = before ∧ ascending o.opened = [] then o.state.rmg.mapGen
      else nextMapGen o.state.rmg.mapGen
  notified : o.state.thm.level ≠ before → o.state.thm.level ≠ .alarm → o.state.pwc.power = .active →
    z.Notified (.threat o.state.thm.level before .signIn (some a) none z.rmg.mapGen)
  frame : Unchanged (Part.notices ++ [.slots, .lane, .ranges, .mapGen]) o.state z

theorem State.signInLoads_loads (a : AuthIx) (before : Level) (o : Opening) :
    State.SignInLoads a before o (State.signInLoads a before o) := by
  obtain ⟨x, hx⟩ : ∃ x, x = o.state.eagerLoads o.opened := ⟨_, rfl⟩
  obtain ⟨y, hy⟩ : ∃ y, y = if (x.thm.level != before) || !o.opened.isEmpty then x.bump else x := ⟨_, rfl⟩
  obtain ⟨z, hz⟩ : ∃ z, z = if x.thm.level != before then y.threatNotice before .signIn (some a) else y := ⟨_, rfl⟩
  have run : State.signInLoads a before o = z := by rw [hz, hy, hx]; rfl
  rw [run]
  have loads : o.state.LoadsAll (o.state.slotless o.opened) x := hx ▸ State.eagerLoads_loadsAll _ _
  have first : Unchanged [.slots, .lane, .ranges] o.state x := hx ▸ State.eagerLoads_unchanged _ _
  have level : x.thm.level = o.state.thm.level := first .level (by decide)
  have counts : Unchanged [.mapGen] x y := by
    rw [hy]
    split
    · exact x.bump_unchanged
    · exact .refl _ _
  have tells : Unchanged Part.notices y z := by
    rw [hz]
    split
    · exact y.threatNotice_unchanged _ _ _
    · exact .refl _ _
  have late := counts.append tells
  have ranges : z.rmg.ranges = x.rmg.ranges := late .ranges (by decide)
  have mapGen : z.rmg.mapGen = y.rmg.mapGen := tells .mapGen (by decide)
  refine ⟨fun r => ?_, fun r hr => ?_, fun e u k he => ?_, fun fresh => ?_, fun changed calm active => ?_,
    ((first.append late)).mono⟩
  · rw [ranges]
    exact loads.entry r
  · rw [ranges]
    exact loads.others r hr
  · refine loads.loads (late.append k) ?_
    simpa [Part.notices] using he
  · have old : x.rmg.mapGen = o.state.rmg.mapGen := first .mapGen (by decide)
    have fresh : x.model.bumped = false := by rw [loads.model, fresh]
    rw [mapGen, hy, level]
    by_cases same : o.state.thm.level = before
    · by_cases empty : o.opened.isEmpty = true
      · simp [same, empty, ascending_isEmpty, old]
      · simp [same, empty, ascending_isEmpty, State.bump_mapGen fresh, old]
    · simp [same, State.bump_mapGen fresh, old]
  · have differs : (x.thm.level != before) = true := by simp [level, changed]
    have yLevel : y.thm.level = o.state.thm.level := (counts .level (by decide)).trans level
    have power : y.pwc.power = .active := ((first.append counts) .power (by decide)).trans active
    rw [mapGen, hz, if_pos differs, State.threatNotice, yLevel, if_neg calm]
    exact State.notified_notify (State.linkOpen_of_active power)

/-- What a sign-in leaves, from the state `b` in which it opens ranges with these keys. -/
structure State.SignsIn (a : AuthIx) (key : RangeIx → Option Key) (o : Opening) (s b t : State) : Prop where
  joins : s.JoinsSet a b
  ownMarked : t.Marked (.authority a)
  countersMarked : t.Marked .counters
  finishes : ∀ i d, s.lnk.deferred.get i = some d → d.state = .working .engine → t.Finishes i d (okWith
    (.signedIn a t.thm.level (ascending o.opened) (ascending o.failed)
      (if isAdmin a then some t.rmg.domainKey.isSome else none)))
  shut : ∀ r, key r = none → t.rmg.ranges.get r = s.rmg.ranges.get r
  keys : ∀ r, t.rmg.rangeKeys.get r = (key r).or (s.rmg.rangeKeys.get r)
  entry : ∀ r, (key r).isSome = true → t.rmg.ranges.get r =
    { s.rmg.ranges.get r with lock := .opened, slot := (t.rmg.ranges.get r).slot }
  slotted : ∀ r, (s.rmg.ranges.get r).slot.isSome = true → (t.rmg.ranges.get r).slot = (s.rmg.ranges.get r).slot
  loads : t.Loads ((List.finRange 16).filter fun r => (ascending o.opened).contains r && (s.rmg.ranges.get r).slot.isNone)
    s.kln.slots s.kln.queue s.kln.lane
  mapGen : s.model.bumped = false → t.rmg.mapGen =
    if t.thm.level = s.thm.level ∧ ascending o.opened = [] then s.rmg.mapGen else nextMapGen s.rmg.mapGen
  notified : b.thm.level ≠ s.thm.level → b.thm.level ≠ .alarm → s.pwc.power = .active →
    t.Notified (.threat b.thm.level s.thm.level .signIn (some a) none t.rmg.mapGen)
  after : Unchanged (Part.notices ++ [.deferred, .rangeKeys, .ranges, .faulty, .slots, .lane, .mapGen, .operation, .dirty]) b t

theorem State.signIn_signsIn {a : AuthIx} {key : RangeIx → Option Key} {fails : RangeIx → Bool} {o : Opening} {s b : State}
    (joins : s.JoinsSet a b) (opening : b.OpensFor key fails o) :
    s.SignsIn a key o b (((State.signInLoads a s.thm.level o).answerJob
      ((State.signInLoads a s.thm.level o).signInReply a o)).markAll [.authority a, .counters]).settle := by
  obtain ⟨opens, opened, -⟩ := opening
  obtain ⟨z, hz⟩ : ∃ z, z = State.signInLoads a s.thm.level o := ⟨_, rfl⟩
  have loaded : State.SignInLoads a s.thm.level o z := hz ▸ State.signInLoads_loads a s.thm.level o
  rw [← hz]
  obtain ⟨w, hw⟩ : ∃ w, w = z.answerJob (z.signInReply a o) := ⟨_, rfl⟩
  rw [← hw]
  obtain ⟨t, ht⟩ : ∃ t, t = (w.markAll [.authority a, .counters]).settle := ⟨_, rfl⟩
  rw [← ht]
  have answers : Unchanged [.deferred] z w := hw ▸ z.answerJob_unchanged _
  have marks : Unchanged (Part.marks ++ []) w t := ht ▸ (w.markAll_unchanged _).append (State.settle_unchanged _)
  have late := answers.append marks
  have told : w.lnk.KeepsTold t.lnk := ht ▸ (w.markAll_keepsTold _).trans (State.settle_keepsTold _)
  have marked (r : RecordId) (hr : r ∈ [RecordId.authority a, .counters]) : t.Marked r :=
    ht ▸ (State.marked_markAll hr w).of_sto (State.settle_sto _)
  have whole := (opens.frame.append loaded.frame).append late
  have level : t.thm.level = z.thm.level := late .level (by decide)
  have domain : t.rmg.domainKey = z.rmg.domainKey := late .domainKey (by decide)
  have ranges : t.rmg.ranges = z.rmg.ranges := late .ranges (by decide)
  have mapGen : t.rmg.mapGen = z.rmg.mapGen := late .mapGen (by decide)
  have openLevel : o.state.thm.level = b.thm.level := by rw [opens.thm]
  have tLevel : t.thm.level = o.state.thm.level := level.trans (loaded.frame .level (by decide))
  have base : b.rmg.ranges = s.rmg.ranges := joins.frame .ranges (by decide)
  have notOpened {r : RangeIx} (h : key r = none) : r ∉ o.opened := fun k => by
    rw [opened, h] at k
    cases k
  have slot (r : RangeIx) : (o.state.rmg.ranges.get r).slot = (s.rmg.ranges.get r).slot := by
    rw [opens.ranges, base]
    split <;> rfl
  have listed : o.state.slotless o.opened =
      (List.finRange 16).filter fun r => (ascending o.opened).contains r && (s.rmg.ranges.get r).slot.isNone := by
    refine List.filter_congr fun r _ => ?_
    have same : (ascending o.opened).contains r = o.opened.contains r := by
      rw [Bool.eq_iff_iff, List.contains_iff_mem, List.contains_iff_mem]
      exact mem_ascending
    rw [slot, same]
  refine ⟨joins, marked _ (by simp), marked _ (by simp), fun i d hd hs => ?_, fun r none_ => ?_, fun r => ?_, fun r some_ => ?_,
    fun r slotted => ?_, ?_, fun fresh => ?_, fun changed calm active => ?_, whole.mono⟩
  · have entry : z.lnk.deferred.get i = some d :=
      ((joins.frame.append opens.frame).append loaded.frame).engineEntry hd hs
    have finished : w.Finishes i d (z.signInReply a o) := hw ▸ State.answerJob_finishes _ entry hs
    rw [level, domain]
    exact finished.step told
  · have out : r ∉ o.state.slotless o.opened := fun k => by
      have := (List.mem_filter.mp k).2
      simp [notOpened none_] at this
    rw [ranges, loaded.standing r out, opens.ranges, none_, base]
    rfl
  · have keys : t.rmg.rangeKeys = o.state.rmg.rangeKeys := (loaded.frame.append late) .rangeKeys (by decide)
    have before : b.rmg.rangeKeys = s.rmg.rangeKeys := joins.frame .rangeKeys (by decide)
    rw [keys, opens.keys, before]
  · rw [ranges, loaded.entry, opens.ranges, if_pos some_, base]
  · have out : r ∉ o.state.slotless o.opened := fun k => by
      have := (List.mem_filter.mp k).2
      rw [Bool.and_eq_true, slot] at this
      rw [Option.isNone_iff_eq_none.mp this.2] at slotted
      cases slotted
    rw [ranges, loaded.standing r out, slot]
  · have all := loaded.loads _ t late (by decide)
    rw [opens.kln, joins.kln, listed] at all
    exact all
  · have same : o.state.rmg.mapGen = s.rmg.mapGen := opens.mapGen.trans (joins.frame .mapGen (by decide))
    rw [mapGen, loaded.mapGen (by rw [opens.model, joins.model, fresh]), tLevel, same]
  · have power : o.state.pwc.power = .active := by
      rw [opens.pwc]
      exact (joins.frame .power (by decide)).trans active
    have notice := loaded.notified (openLevel ▸ changed) (openLevel ▸ calm) power
    rw [openLevel, ← mapGen] at notice
    exact (notice.step (hw ▸ Lnk.onWork_keepsTold _ _)).step told

/-- DERIVATION_COMPLETE of an attempt that matches. -/
theorem execDerivationComplete_matches {s : State} {a : AuthIx} {credential : List Byte} {c : Credential}
    (hp : s.pwc.power ≠ .unpowered) (engine : s.aut.engine = .deriving_ (.authenticate a credential))
    (hc : (s.aut.auth.get a).kept.credential = some c)
    (same : c.verifier = { credential := credential, salt := c.salt, factor := c.factor }) :
    exec .derivationComplete s = .next (s.signIn a (.kek credential c.salt c.factor)).settle := by
  show execDerivationComplete s = _
  rw [execDerivationComplete, State.occur_of_powered (State.powered_of_ne hp)]
  simp only [engine, State.authenticated, hc, if_pos same]

end Sys2Proof.Machine
end

section
/-! PROOFS. A matching derivation: which ranges a sign-in opens (R16, R81). -/

namespace Sys2Proof.Machine

theorem unwrap_isSome {w : Wrapped} {k : Key} : (unwrap (some w) (some k)).isSome = true ↔ w.intact = true ∧ w.under = k := by
  by_cases h : w.intact = true ∧ w.under = k
  · simp [unwrap, h]
  · simp only [unwrap, Bool.and_eq_true, decide_eq_true_eq, h]
    simp

theorem unwrap_isNone {w : Wrapped} {k : Key} :
    (unwrap (some w) (some k)).isNone = true ↔ ¬(w.intact = true ∧ w.under = k) := by
  rw [← unwrap_isSome]
  cases unwrap (some w) (some k) <;> simp

theorem unwrap_holds {w : Wrapped} {k : Key} (h : w.intact = true ∧ w.under = k) : unwrap (some w) (some k) = some w.holds := by
  simp [unwrap, h]

theorem State.startsUp_iff {s : State} {r : RangeIx} : s.startsUp r = true ↔ s.defined r = true ∧
    (s.rmg.ranges.get r).keyState = .keyed ∧ (s.rmg.ranges.get r).flags.lockEnabled = true ∧
      ((s.rmg.ranges.get r).lock = .locked ∨ (s.rmg.ranges.get r).lock = .readOnly) := by
  simp [State.startsUp, and_assoc]

theorem State.opensPlain_iff {s : State} {r : RangeIx} : s.opensPlain LockState.isLocked r = true ↔ s.defined r = true ∧
    (s.rmg.ranges.get r).flags.lockEnabled = false ∧ (s.rmg.ranges.get r).keyState = .keyed ∧
      (s.rmg.ranges.get r).deviceWrap.isSome = true ∧ s.thm.level.opensPlain = true ∧ (s.rmg.ranges.get r).lock = .locked := by
  simp [State.opensPlain, LockState.isLocked, and_assoc]

section
variable {a : AuthIx} {b : State} {r : RangeIx} {returns : Bool}

theorem State.calmKey_enabled (enabled : (b.rmg.ranges.get r).flags.lockEnabled = true) : b.calmKey returns r = none := by
  have closed : b.opensPlain LockState.isLocked r = false := by simp [State.opensPlain, enabled]
  simp [State.calmKey, State.plainKey, closed]

theorem State.startsUp_plain (plain : (b.rmg.ranges.get r).flags.lockEnabled = false) : b.startsUp r = false := by
  simp [State.startsUp, plain]

/-- Without a domain key no range with `lock_enabled` opens, or fails to. -/
theorem State.admin_undomained (enabled : (b.rmg.ranges.get r).flags.lockEnabled = true) :
    b.adminKey a none returns r = none ∧ b.adminFails a none returns r = false := by
  have closed : b.opensPlain LockState.isLocked r = false := by simp [State.opensPlain, enabled]
  refine ⟨?_, by simp [State.adminFails, closed]⟩
  rw [State.adminKey, State.calmKey_enabled enabled]
  rfl

/-- With a domain key a range with `lock_enabled` opens from its domain wrap, where the start-up set names it. -/
theorem State.admin_domained {k : Key} {w : Wrapped} (defined : b.defined r = true) (keyed : (b.rmg.ranges.get r).keyState = .keyed)
    (enabled : (b.rmg.ranges.get r).flags.lockEnabled = true) (wrap : (b.rmg.ranges.get r).domainWrap = some w) :
    ((b.adminKey a (some k) returns r).isSome = true ↔ (r ∈ (b.aut.auth.get a).kept.startup ∧
        ((b.rmg.ranges.get r).lock = .locked ∨ (b.rmg.ranges.get r).lock = .readOnly)) ∧ w.intact = true ∧ w.under = k) ∧
      (b.adminFails a (some k) returns r = true ↔ (r ∈ (b.aut.auth.get a).kept.startup ∧
        ((b.rmg.ranges.get r).lock = .locked ∨ (b.rmg.ranges.get r).lock = .readOnly)) ∧ ¬(w.intact = true ∧ w.under = k)) ∧
      ((b.adminKey a (some k) returns r).isSome = true → b.adminKey a (some k) returns r = some w.holds) := by
  have starts : b.startsUp r = true ↔ (b.rmg.ranges.get r).lock = .locked ∨ (b.rmg.ranges.get r).lock = .readOnly :=
    State.startsUp_iff.trans (by simp [defined, keyed, enabled])
  have closed : b.opensPlain LockState.isLocked r = false := by simp [State.opensPlain, enabled]
  have key : b.adminKey a (some k) returns r = if r ∈ (b.aut.auth.get a).kept.startup then
      if b.startsUp r then unwrap (some w) (some k) else none else none := by
    rw [State.adminKey, State.calmKey_enabled enabled, Option.or_none, State.domainKeyed]
    simp only [State.startupKey, wrap]
  rw [key, ← starts]
  refine ⟨?_, ?_, fun h => ?_⟩
  · by_cases listed : r ∈ (b.aut.auth.get a).kept.startup <;> by_cases up : b.startsUp r = true <;>
      simp [listed, up, unwrap_isSome]
  · simp only [State.adminFails, closed, State.startupFails, wrap]
    rw [Bool.false_and, Bool.and_false, Bool.false_or, Bool.and_eq_true, Bool.and_eq_true, List.contains_iff_mem, unwrap_isNone,
      and_assoc]
  · by_cases listed : r ∈ (b.aut.auth.get a).kept.startup
    · by_cases up : b.startsUp r = true
      · rw [if_pos listed, if_pos up] at h ⊢
        exact unwrap_holds (unwrap_isSome.mp h)
      · simp [up] at h
    · simp [listed] at h

/-- A range with `lock_enabled` false opens from its device wrap as the level returns to CALM. -/
theorem State.admin_plain {domain : Option Key} {w : Wrapped} (calm : b.thm.level = .calm) (defined : b.defined r = true)
    (keyed : (b.rmg.ranges.get r).keyState = .keyed) (plain : (b.rmg.ranges.get r).flags.lockEnabled = false)
    (wrap : (b.rmg.ranges.get r).deviceWrap = some w) :
    ((b.adminKey a domain returns r).isSome = true ↔ (returns = true ∧ (b.rmg.ranges.get r).lock = .locked) ∧
        w.intact = true ∧ w.under = .device) ∧
      (b.adminFails a domain returns r = true ↔ (returns = true ∧ (b.rmg.ranges.get r).lock = .locked) ∧
        ¬(w.intact = true ∧ w.under = .device)) ∧
      ((b.adminKey a domain returns r).isSome = true → b.adminKey a domain returns r = some w.holds) := by
  have opens : b.opensPlain LockState.isLocked r = true ↔ (b.rmg.ranges.get r).lock = .locked :=
    State.opensPlain_iff.trans (by simp [defined, keyed, plain, wrap, calm, Level.opensPlain])
  have shut : b.startsUp r = false := State.startsUp_plain plain
  have undomained : b.domainKeyed a domain r = none := by
    cases domain with
    | none => rfl
    | some k => simp [State.domainKeyed, State.startupKey, shut]
  have key : b.adminKey a domain returns r = if returns then
      if b.opensPlain LockState.isLocked r then unwrap (some w) (some .device) else none else none := by
    rw [State.adminKey, undomained, Option.none_or, State.calmKey, State.plainKey, wrap]
  rw [key, ← opens]
  refine ⟨?_, ?_, fun h => ?_⟩
  · cases returns <;> by_cases open_ : b.opensPlain LockState.isLocked r = true <;> simp [open_, unwrap_isSome]
  · have fails : b.adminFails a domain returns r =
        (returns && (b.opensPlain LockState.isLocked r && (unwrap (some w) (some .device)).isNone)) := by
      cases domain <;> simp [State.adminFails, State.startupFails, shut, wrap]
    rw [fails, Bool.and_eq_true, Bool.and_eq_true, unwrap_isNone, and_assoc]
  · by_cases open_ : returns = true ∧ b.opensPlain LockState.isLocked r = true
    · rw [if_pos open_.1, if_pos open_.2] at h ⊢
      exact unwrap_holds (unwrap_isSome.mp h)
    · rw [not_and] at open_
      by_cases back : returns = true
      · simp [open_ back] at h
      · simp [back] at h

/-- What a user's sign-in may open at all. -/
theorem State.takesUp_iff : b.takesUp a r = true ↔ r ∈ (b.aut.auth.get a).kept.startup ∧
    ¬(b.thm.level = .wary ∧ (b.rmg.ranges.get r).flags.concealOnWary = true) ∧ (b.envelopeAt a (.range r)).isSome = true := by
  simp [State.takesUp, State.skipped, and_assoc, imp_iff_not_or]

theorem State.user_mayOpen {kek : Key} (h : (b.userKey a kek r).isSome = true ∨ b.userFails a kek r = true) :
    b.takesUp a r = true ∧ b.startsUp r = true := by
  unfold State.userKey State.userFails State.startupKey State.startupFails at h
  by_cases takes : b.takesUp a r = true
  · by_cases up : b.startsUp r = true
    · exact ⟨takes, up⟩
    · simp [up] at h
  · simp [takes] at h

/-- A user's sign-in opens a range of its start-up set from the user's envelope. -/
theorem State.user_opens {kek : Key} {p : EnvIx} {e : Envelope} (takes : b.takesUp a r = true) (up : b.startsUp r = true)
    (position : b.envelopeAt a (.range r) = some p) (held : b.rmg.envelopes.get p = some e) :
    b.userKey a kek r = unwrap (some e.wrapped) (some kek) ∧
      b.userFails a kek r = (unwrap (some e.wrapped) (some kek)).isNone := by
  have wrap : b.envelopeWrap a (.range r) = some e.wrapped := by simp [State.envelopeWrap, position, held]
  simp [State.userKey, State.userFails, State.startupKey, State.startupFails, takes, up, wrap]

end

/-! ## The state from which each sign-in opens ranges -/

theorem State.adminBase_unchanged (a : AuthIx) (kek : Key) (s : State) :
    Unchanged [.authorities, .tryCount, .lastSignIn, .engine, .armed, .deadlines, .fallen, .domainKey, .level, .grace, .reports] s
      (s.adminBase a kek) :=
  (((s.joinSet_unchanged a).append (State.cacheDomain_unchanged _ _)).append (State.calmed_unchanged _ _)).mono

theorem State.userBase_unchanged (a : AuthIx) (kek : Key) (s : State) :
    Unchanged [.authorities, .tryCount, .lastSignIn, .engine, .armed, .deadlines, .keks] s (s.userBase a kek) := by
  have cached : Unchanged [.keks] (s.joinSet a) (s.userBase a kek) := by
    intro p hp; cases p <;> simp_all [Part.same, State.userBase]
  exact ((s.joinSet_unchanged a).append cached).mono

/-- A level that is neither WIPING nor one that an admin's sign-in leaves is CALM. -/
theorem State.calms_iff {s : State} (wiping : s.thm.level ≠ .wiping) : s.calms = true ↔ s.thm.level ≠ .calm := by
  unfold State.calms
  cases level : s.thm.level with
  | wiping => exact absurd level wiping
  | calm | wary | alarm => simp

theorem State.adminBase_level {a : AuthIx} {kek : Key} {s : State} (wiping : s.thm.level ≠ .wiping) :
    (s.adminBase a kek).thm.level = .calm := by
  have before := s.adminBase_calms a kek
  rw [State.adminBase, State.calmed_level, before]
  split
  · rfl
  · next stays =>
    have calm : s.thm.level = .calm := by
      by_contra other
      exact stays ((State.calms_iff wiping).mpr other)
    obtain ⟨-, thm, -⟩ := (s.joinSet a).cacheDomain_others (unwrap (s.envelopeWrap a .domain) (some kek))
    rw [thm]
    exact calm

theorem State.adminBase_grace {a : AuthIx} {kek : Key} {s : State} (h : s.calms = true) :
    (s.adminBase a kek).thm.grace = none ∧ (s.adminBase a kek).deadline .grace = none :=
  State.calmed_grace ((s.adminBase_calms a kek).trans h)

theorem State.adminBase_domainKey (a : AuthIx) (kek : Key) (s : State) : (s.adminBase a kek).rmg.domainKey =
    (unwrap (s.envelopeWrap a .domain) (some kek)).or s.rmg.domainKey := by
  rw [State.adminBase, (State.calmed_unchanged a _ .domainKey (by decide) : _ = _), State.cacheDomain_domainKey]
  rfl

/-! ## The openings in the terms of the state before -/

section
variable {a : AuthIx} {kek : Key} {o : Opening} {key : RangeIx → Option Key} {fails : RangeIx → Bool} {s b t : State}

theorem State.JoinsSet.ranges (h : s.JoinsSet a b) : b.rmg.ranges = s.rmg.ranges := h.frame .ranges (by decide)

theorem State.JoinsSet.defined (h : s.JoinsSet a b) (r : RangeIx) : b.defined r = s.defined r := by
  rw [State.defined, State.defined, h.ranges]

theorem State.JoinsSet.startup (h : s.JoinsSet a b) : (b.aut.auth.get a).kept.startup = (s.aut.auth.get a).kept.startup := by
  rw [h.kept]

theorem State.OpensFor.mem_opened (h : b.OpensFor key fails o) {r : RangeIx} : r ∈ ascending o.opened ↔ (key r).isSome = true :=
  mem_ascending.trans (h.opened r)

theorem State.OpensFor.mem_failed (h : b.OpensFor key fails o) {r : RangeIx} : r ∈ ascending o.failed ↔ fails r = true :=
  mem_ascending.trans (h.failed r)

theorem State.SignsIn.level (h : s.SignsIn a key o b t) : t.thm.level = b.thm.level := h.after .level (by decide)

theorem State.SignsIn.opensRange (h : s.SignsIn a key o b t) {r : RangeIx} {k : Key} (hk : key r = some k) :
    t.rmg.rangeKeys.get r = some k := by
  rw [h.keys, hk]
  rfl

/-! ## An admin's sign-in -/

/-- What an admin's sign-in opens, and with which key, from the base state. -/
structure State.AdminSignsIn (a : AuthIx) (kek : Key) (o : Opening) (s t : State) : Prop where
  signs : s.SignsIn a ((s.adminBase a kek).adminKey a (unwrap (s.envelopeWrap a .domain) (some kek)) s.calms) o
    (s.adminBase a kek) t
  opening : (s.adminBase a kek).OpensFor ((s.adminBase a kek).adminKey a (unwrap (s.envelopeWrap a .domain) (some kek)) s.calms)
    ((s.adminBase a kek).adminFails a (unwrap (s.envelopeWrap a .domain) (some kek)) s.calms) o
  wiping : s.thm.level ≠ .wiping

theorem State.AdminSignsIn.domainKey (h : s.AdminSignsIn a kek o t) :
    t.rmg.domainKey = (unwrap (s.envelopeWrap a .domain) (some kek)).or s.rmg.domainKey :=
  (h.signs.after .domainKey (by decide) : _ = _).trans (State.adminBase_domainKey a kek s)

theorem State.AdminSignsIn.keks (h : s.AdminSignsIn a kek o t) : t.rmg.keks = s.rmg.keks :=
  (h.signs.after .keks (by decide) : _ = _).trans (State.adminBase_unchanged a kek s .keks (by decide))

/-- WARY or ALARM falls to CALM, with its notice (R107). -/
theorem State.AdminSignsIn.calms (h : s.AdminSignsIn a kek o t) (other : s.thm.level ≠ .calm) :
    t.thm.grace = none ∧ t.deadline .grace = none ∧ (s.pwc.power = .active →
      t.Notified (.threat .calm s.thm.level .signIn (some a) none t.rmg.mapGen)) := by
  have calm := State.adminBase_level (a := a) (kek := kek) h.wiping
  obtain ⟨grace, due⟩ := State.adminBase_grace (a := a) (kek := kek) ((State.calms_iff h.wiping).mpr other)
  refine ⟨(h.signs.after .grace (by decide) : _ = _).trans grace, (h.signs.after.deadline (p := .grace) nofun).trans due,
    fun active => ?_⟩
  have notice := h.signs.notified (by rw [calm]; exact Ne.symm other) (by rw [calm]; exact nofun) active
  rw [calm] at notice
  exact notice

/-- A domain envelope that yields its key caches it, and the start-up set opens under it (R81). -/
theorem State.AdminSignsIn.domainOpens (h : s.AdminSignsIn a kek o t) {p : EnvIx} {e : Envelope}
    (position : s.envelopeAt a .domain = some p) (held : s.rmg.envelopes.get p = some e)
    (yields : e.wrapped.intact = true ∧ e.wrapped.under = kek) : t.rmg.domainKey = some e.wrapped.holds ∧
      ∀ r w, s.defined r = true → (s.rmg.ranges.get r).keyState = .keyed →
        (s.rmg.ranges.get r).flags.lockEnabled = true → (s.rmg.ranges.get r).domainWrap = some w →
        (r ∈ ascending o.opened ↔ (r ∈ (s.aut.auth.get a).kept.startup ∧
          ((s.rmg.ranges.get r).lock = .locked ∨ (s.rmg.ranges.get r).lock = .readOnly)) ∧
          w.intact = true ∧ w.under = e.wrapped.holds) ∧
        (r ∈ ascending o.failed ↔ (r ∈ (s.aut.auth.get a).kept.startup ∧
          ((s.rmg.ranges.get r).lock = .locked ∨ (s.rmg.ranges.get r).lock = .readOnly)) ∧
          ¬(w.intact = true ∧ w.under = e.wrapped.holds)) ∧
        (r ∈ ascending o.opened → t.rmg.rangeKeys.get r = some w.holds) := by
  have domainKey := h.domainKey
  obtain ⟨signs, opening, -⟩ := h
  have joins := signs.joins
  have domain : unwrap (s.envelopeWrap a .domain) (some kek) = some e.wrapped.holds := by
    have wrap : s.envelopeWrap a .domain = some e.wrapped := by simp [State.envelopeWrap, position, held]
    rw [wrap, unwrap_holds yields]
  rw [domain] at signs opening domainKey
  refine ⟨domainKey, fun r w defined keyed enabled wrap => ?_⟩
  obtain ⟨opened, failed, holds⟩ := State.admin_domained (a := a) (returns := s.calms) (k := e.wrapped.holds)
    ((joins.defined r).trans defined) (by rw [joins.ranges]; exact keyed) (by rw [joins.ranges]; exact enabled)
    (by rw [joins.ranges]; exact wrap)
  rw [joins.ranges, joins.startup] at opened failed
  exact ⟨opening.mem_opened.trans opened, opening.mem_failed.trans failed,
    fun hr => signs.opensRange (holds (opening.mem_opened.mp hr))⟩

/-- Without a key from the domain envelope no range with `lock_enabled` is concerned. -/
theorem State.AdminSignsIn.undomained (h : s.AdminSignsIn a kek o t)
    (none_ : ∀ p e, s.envelopeAt a .domain = some p → s.rmg.envelopes.get p = some e →
      ¬(e.wrapped.intact = true ∧ e.wrapped.under = kek)) : t.rmg.domainKey = s.rmg.domainKey ∧
      ∀ r, (s.rmg.ranges.get r).flags.lockEnabled = true → r ∉ ascending o.opened ∧ r ∉ ascending o.failed := by
  have domainKey := h.domainKey
  obtain ⟨signs, opening, -⟩ := h
  have joins := signs.joins
  have domain : unwrap (s.envelopeWrap a .domain) (some kek) = none := by
    cases position : s.envelopeAt a .domain with
    | none => simp [State.envelopeWrap, position, unwrap]
    | some p =>
      cases held : s.rmg.envelopes.get p with
      | none => simp [State.envelopeWrap, position, held, unwrap]
      | some e =>
        have wrap : s.envelopeWrap a .domain = some e.wrapped := by simp [State.envelopeWrap, position, held]
        rw [wrap, ← Option.isNone_iff_eq_none, unwrap_isNone]
        exact none_ p e position held
  rw [domain] at opening domainKey
  refine ⟨domainKey, fun r enabled => ?_⟩
  obtain ⟨shut, sound⟩ := State.admin_undomained (a := a) (returns := s.calms) (b := s.adminBase a kek) (r := r)
    (by rw [joins.ranges]; exact enabled)
  rw [opening.mem_opened, opening.mem_failed, shut, sound]
  exact ⟨nofun, nofun⟩

/-- The ranges with `lock_enabled` false open as the level falls to CALM (R16, R81). -/
theorem State.AdminSignsIn.plainOpens (h : s.AdminSignsIn a kek o t) {r : RangeIx} {w : Wrapped} (defined : s.defined r = true)
    (keyed : (s.rmg.ranges.get r).keyState = .keyed) (plain : (s.rmg.ranges.get r).flags.lockEnabled = false)
    (wrap : (s.rmg.ranges.get r).deviceWrap = some w) :
    (r ∈ ascending o.opened ↔ (s.thm.level ≠ .calm ∧ (s.rmg.ranges.get r).lock = .locked) ∧
      w.intact = true ∧ w.under = .device) ∧
    (r ∈ ascending o.failed ↔ (s.thm.level ≠ .calm ∧ (s.rmg.ranges.get r).lock = .locked) ∧
      ¬(w.intact = true ∧ w.under = .device)) ∧
    (r ∈ ascending o.opened → t.rmg.rangeKeys.get r = some w.holds) := by
  obtain ⟨signs, opening, wiping⟩ := h
  have joins := signs.joins
  obtain ⟨opened, failed, holds⟩ := State.admin_plain (a := a) (returns := s.calms) (r := r)
    (domain := unwrap (s.envelopeWrap a .domain) (some kek)) (State.adminBase_level (kek := kek) wiping)
    ((joins.defined r).trans defined) (by rw [joins.ranges]; exact keyed) (by rw [joins.ranges]; exact plain)
    (by rw [joins.ranges]; exact wrap)
  rw [joins.ranges, State.calms_iff wiping] at opened failed
  exact ⟨opening.mem_opened.trans opened, opening.mem_failed.trans failed,
    fun hr => signs.opensRange (holds (opening.mem_opened.mp hr))⟩

/-! ## A user's sign-in -/

/-- What a user's sign-in opens, and with which key, from the base state. -/
structure State.UserSignsIn (a : AuthIx) (kek : Key) (o : Opening) (s t : State) : Prop where
  signs : s.SignsIn a ((s.userBase a kek).userKey a kek) o (s.userBase a kek) t
  opening : (s.userBase a kek).OpensFor ((s.userBase a kek).userKey a kek) ((s.userBase a kek).userFails a kek) o

theorem State.UserSignsIn.stands (h : s.UserSignsIn a kek o t) : t.thm.level = s.thm.level ∧
    t.rmg.keks = s.rmg.keks.set a (some kek) ∧ t.rmg.domainKey = s.rmg.domainKey :=
  ⟨h.signs.level.trans (State.userBase_unchanged a kek s .level (by decide)), h.signs.after .keks (by decide),
    (h.signs.after .domainKey (by decide) : _ = _).trans (State.userBase_unchanged a kek s .domainKey (by decide))⟩

theorem State.UserSignsIn.takesUp_iff (h : s.UserSignsIn a kek o t) (r : RangeIx) : (s.userBase a kek).takesUp a r = true ↔
    r ∈ (s.aut.auth.get a).kept.startup ∧ ¬(s.thm.level = .wary ∧ (s.rmg.ranges.get r).flags.concealOnWary = true) ∧
      (s.envelopeAt a (.range r)).isSome = true := by
  rw [State.takesUp_iff, h.signs.joins.startup]
  exact Iff.rfl

theorem State.UserSignsIn.startsUp_iff (h : s.UserSignsIn a kek o t) (r : RangeIx) : (s.userBase a kek).startsUp r = true ↔
    s.defined r = true ∧ (s.rmg.ranges.get r).keyState = .keyed ∧ (s.rmg.ranges.get r).flags.lockEnabled = true ∧
      ((s.rmg.ranges.get r).lock = .locked ∨ (s.rmg.ranges.get r).lock = .readOnly) := by
  rw [State.startsUp_iff, h.signs.joins.defined, h.signs.joins.ranges]

theorem State.UserSignsIn.mayOpen (h : s.UserSignsIn a kek o t) {r : RangeIx}
    (hr : r ∈ ascending o.opened ∨ r ∈ ascending o.failed) : r ∈ (s.aut.auth.get a).kept.startup ∧ s.defined r = true ∧
      (s.rmg.ranges.get r).keyState = .keyed ∧ (s.rmg.ranges.get r).flags.lockEnabled = true ∧
      ((s.rmg.ranges.get r).lock = .locked ∨ (s.rmg.ranges.get r).lock = .readOnly) ∧
      ¬(s.thm.level = .wary ∧ (s.rmg.ranges.get r).flags.concealOnWary = true) ∧ (s.envelopeAt a (.range r)).isSome := by
  rw [h.opening.mem_opened, h.opening.mem_failed] at hr
  obtain ⟨takes, up⟩ := State.user_mayOpen hr
  obtain ⟨listed, shown, position⟩ := (h.takesUp_iff r).mp takes
  obtain ⟨defined, keyed, enabled, lock⟩ := (h.startsUp_iff r).mp up
  exact ⟨listed, defined, keyed, enabled, lock, shown, position⟩

/-- The user's envelope opens the range, or its unwrap fails (R81). -/
theorem State.UserSignsIn.opens (h : s.UserSignsIn a kek o t) {r : RangeIx} {p : EnvIx} {e : Envelope}
    (listed : r ∈ (s.aut.auth.get a).kept.startup) (defined : s.defined r = true)
    (keyed : (s.rmg.ranges.get r).keyState = .keyed) (enabled : (s.rmg.ranges.get r).flags.lockEnabled = true)
    (lock : (s.rmg.ranges.get r).lock = .locked ∨ (s.rmg.ranges.get r).lock = .readOnly)
    (shown : ¬(s.thm.level = .wary ∧ (s.rmg.ranges.get r).flags.concealOnWary = true))
    (position : s.envelopeAt a (.range r) = some p) (held : s.rmg.envelopes.get p = some e) :
    if e.wrapped.intact = true ∧ e.wrapped.under = kek then
      r ∈ ascending o.opened ∧ r ∉ ascending o.failed ∧ t.rmg.rangeKeys.get r = some e.wrapped.holds
    else r ∈ ascending o.failed ∧ r ∉ ascending o.opened := by
  have takes := (h.takesUp_iff r).mpr ⟨listed, shown, by rw [position]; rfl⟩
  have up := (h.startsUp_iff r).mpr ⟨defined, keyed, enabled, lock⟩
  obtain ⟨key, fails⟩ := State.user_opens (kek := kek) takes up position held
  rw [h.opening.mem_opened, h.opening.mem_failed, key, fails]
  split
  · next yields =>
    rw [unwrap_holds yields] at key ⊢
    exact ⟨rfl, nofun, h.signs.opensRange key⟩
  · next yields => exact ⟨unwrap_isNone.mpr yields, fun k => yields (unwrap_isSome.mp k)⟩

end

/-- The two kinds of sign-in (R80). -/
theorem State.signIn_cases (a : AuthIx) (kek : Key) {s : State} (wiping : s.thm.level ≠ .wiping) : ∃ o key fails b,
    s.SignsIn a key o b (s.signIn a kek).settle ∧ b.OpensFor key fails o ∧
      (isAdmin a = true → s.AdminSignsIn a kek o (s.signIn a kek).settle ∧ b.thm.level = .calm) ∧
      (isUser a = true → s.UserSignsIn a kek o (s.signIn a kek).settle) := by
  obtain ⟨o, ho, run⟩ := s.signIn_eq a kek
  rw [run]
  by_cases admin : isAdmin a = true
  · rw [if_pos admin] at ho
    have opening := s.openForAdmin_opens a kek
    rw [← ho] at opening
    have signs := State.signIn_signsIn (s.adminBase_joins a kek) opening
    refine ⟨o, _, _, _, signs, opening, fun _ => ⟨⟨signs, opening, wiping⟩, State.adminBase_level wiping⟩, fun user => ?_⟩
    rw [isAdmin_false_of_isUser user] at admin
    cases admin
  · rw [if_neg admin] at ho
    have opening := s.openForUser_opens a kek
    rw [← ho] at opening
    have signs := State.signIn_signsIn (s.userBase_joins a kek) opening
    exact ⟨o, _, _, _, signs, opening, fun k => absurd k admin, fun _ => ⟨signs, opening⟩⟩

/-- Settles O34: the sign-in opens ranges from the state in which the authority has joined the set, then loads, counts and answers. -/
theorem matchingDerivationSignsIn : Obligations.MatchingDerivationSignsIn := by
  rintro s a credential c _ hp ⟨wipingIdle, -⟩ engine hc same rfl
  have wiping : s.thm.level ≠ .wiping := fun k => by
    have idle := wipingIdle k
    rw [engine] at idle
    cases idle
  obtain ⟨o, key, fails, b, signs, opening, admin, user⟩ :=
    s.signIn_cases a (.kek credential c.salt c.factor) wiping
  refine ⟨_, ascending o.opened, ascending o.failed, execDerivationComplete_matches hp engine hc same, ?_⟩
  obtain ⟨t, ht⟩ : ∃ t, t = (s.signIn a (.kek credential c.salt c.factor)).settle := ⟨_, rfl⟩
  rw [← ht] at signs admin user ⊢
  obtain ⟨joins, ownMarked, countersMarked, finishes, shut, keys, entry, slotted, loads, mapGen, -, after⟩ := id signs
  have auth : t.aut.auth = b.aut.auth := after .authorities (by decide)
  refine ⟨after.engine_idle joins.engine, by rw [auth]; exact joins.signed, by rw [auth]; exact joins.kept,
    by rw [auth]; exact joins.others, (after .tryCount (by decide) : _ = _).trans joins.tries,
    (after .lastSignIn (by decide) : _ = _).trans joins.last, (after.deadline (p := .backoff a) nofun).trans joins.backoff,
    (after .armed (by decide) : _ = _).trans joins.armed, ownMarked, countersMarked, finishes, fun r hr => ?_, fun r hr => ?_,
    fun r _ held => slotted r held, loads, joins.othersStand.trans after.othersStand, mapGen, fun ha => ?_, fun hu => ?_,
    (joins.frame.append after).mono⟩
  · have none_ : key r = none := by simpa using mt opening.mem_opened.mpr hr
    exact ⟨shut r none_, by rw [keys, none_]; rfl⟩
  · exact entry r (opening.mem_opened.mp hr)
  · obtain ⟨signsIn, calm⟩ := admin ha
    exact ⟨⟨signs.level.trans calm, signsIn.keks⟩, signsIn.calms, fun p e position held yields =>
      signsIn.domainOpens position held yields, signsIn.undomained,
      fun r w defined keyed plain wrap => signsIn.plainOpens defined keyed plain wrap⟩
  · have signsIn := user hu
    obtain ⟨level, keks, domainKey⟩ := signsIn.stands
    exact ⟨level, keks, domainKey, fun r hr => signsIn.mayOpen hr,
      fun r p e listed defined keyed enabled lock shown position held =>
        signsIn.opens listed defined keyed enabled lock shown position held⟩

end Sys2Proof.Machine
end

section
/-! PROOFS. What the engine does as a write it waits on ends: the charge (R79), and a failed write (R75, R79). -/

namespace Sys2Proof.Machine

/-! ## A write that only the engine and deferred replies wait on -/

theorem State.deleteEnvelopes_nil (s : State) : s.deleteEnvelopes [] = s := by
  have envelopes : (s.rmg.envelopes.imap fun p e => if ([] : List EnvIx).contains p then none else e) = s.rmg.envelopes :=
    Table.ext_get fun p => by simp
  have grants : (s.rmg.grants.filter fun w => !(([] : List EnvIx).any fun p => w.record == .envelope p)) = s.rmg.grants :=
    List.filter_eq_self.mpr fun _ _ => rfl
  rw [State.deleteEnvelopes, State.onRmg, envelopes, grants]

theorem State.reportGrants_unheard {r : RecordId} {good : Bool} {s : State} (h : waitsOn r s.rmg.grants = false) :
    s.reportGrants r good = s := by
  have none_ : s.grantFailed r = [] := by simp [State.grantFailed, h]
  have served : servedWait r s.rmg.grants = s.rmg.grants := servedWait_of_not_waitsOn h
  have kept : (if good then s else s.deleteEnvelopes (s.grantFailed r)) = s := by
    rw [none_, State.deleteEnvelopes_nil, ite_self]
  rw [State.reportGrants, kept]
  show s.onRmg _ = s
  rw [State.onRmg, served]

/-- The state in which the engine hears of a write of `c`. -/
def State.heard (c : RecContent) (good : Bool) (s : State) : State :=
  (s.storeWritten c good).onLnk (Lnk.onWork (workWritten c.id good))

/-- The blocks other than STO and LNK are as they were. -/
structure State.Hears (c : RecContent) (good : Bool) (s u : State) : Prop where
  aut : u.aut = s.aut
  rmg : u.rmg = s.rmg
  thm : u.thm = s.thm
  tmb : u.tmb = s.tmb
  kln : u.kln = s.kln
  wpc : u.wpc = s.wpc
  pwc : u.pwc = s.pwc
  model : u.model = s.model
  inFlight : u.sto.inFlight = s.sto.inFlight
  entry : ∀ i d, s.lnk.deferred.get i = some d → d.state = .working .engine → u.lnk.deferred.get i = some d
  frame : Unchanged [.outbound, .pendingSet, .period, .deferred, .records, .faulty] s u
  quiet : good = true → Unchanged [.deferred, .records, .faulty] s u

theorem State.addFaulty_others (r : RecordId) (s : State) : (s.addFaulty r).aut = s.aut ∧ (s.addFaulty r).rmg = s.rmg ∧
    (s.addFaulty r).thm = s.thm ∧ (s.addFaulty r).tmb = s.tmb ∧ (s.addFaulty r).kln = s.kln ∧ (s.addFaulty r).wpc = s.wpc ∧
    (s.addFaulty r).model = s.model ∧ (s.addFaulty r).sto.inFlight = s.sto.inFlight := by
  unfold State.addFaulty
  split <;> exact ⟨rfl, rfl, rfl, rfl, rfl, rfl, rfl, rfl⟩

theorem State.notify_others (n : Notice) (s : State) : (s.notify n).aut = s.aut ∧ (s.notify n).tmb = s.tmb ∧
    (s.notify n).wpc = s.wpc := by
  unfold State.notify
  split <;> exact ⟨rfl, rfl, rfl⟩

theorem State.storeWritten_unchanged (c : RecContent) (good : Bool) (s : State) :
    Unchanged [.outbound, .pendingSet, .period, .records, .faulty] s (s.storeWritten c good) ∧
      (good = true → Unchanged [.records, .faulty] s (s.storeWritten c good)) := by
  cases good with
  | true =>
    have written : Unchanged [.records, .faulty] s (s.storeWritten c true) := by
      intro p hp; cases p <;> simp_all [Part.same, State.storeWritten]
    exact ⟨written.mono, fun _ => written⟩
  | false =>
    have spoiled : Unchanged [.records] s (s.onSto fun t => { t with records := t.records.spoil c.id }) := by
      intro p hp; cases p <;> simp_all [Part.same]
    exact ⟨((spoiled.append (State.addFaulty_unchanged _ _)).append (State.notify_unchanged _ _)).mono, nofun⟩

theorem State.storeWritten_others (c : RecContent) (good : Bool) (s : State) : (s.storeWritten c good).aut = s.aut ∧
    (s.storeWritten c good).rmg = s.rmg ∧ (s.storeWritten c good).thm = s.thm ∧ (s.storeWritten c good).tmb = s.tmb ∧
    (s.storeWritten c good).kln = s.kln ∧ (s.storeWritten c good).wpc = s.wpc ∧ (s.storeWritten c good).pwc = s.pwc ∧
    (s.storeWritten c good).model = s.model ∧ (s.storeWritten c good).sto.inFlight = s.sto.inFlight ∧
    (s.storeWritten c good).lnk.deferred = s.lnk.deferred := by
  cases good with
  | true => exact ⟨rfl, rfl, rfl, rfl, rfl, rfl, rfl, rfl, rfl, rfl⟩
  | false =>
    obtain ⟨u, hu⟩ : ∃ u, u = (s.onSto fun t => { t with records := t.records.spoil c.id }).addFaulty c.id := ⟨_, rfl⟩
    have run : s.storeWritten c false = u.notify (.store (.write c.id) u.sto.faulty.length) := hu ▸ rfl
    obtain ⟨aut, rmg, thm, tmb, kln, wpc, model, inFlight⟩ :=
      (s.onSto fun t => { t with records := t.records.spoil c.id }).addFaulty_others c.id
    obtain ⟨aut', tmb', wpc'⟩ := u.notify_others (.store (.write c.id) u.sto.faulty.length)
    rw [run, aut', tmb', wpc', State.notify_rmg, State.notify_thm, State.notify_kln, State.notify_pwc, State.notify_model,
      State.notify_sto, State.notify_deferred, hu]
    exact ⟨aut, rmg, thm, tmb, kln, wpc, State.addFaulty_pwc _ _, model, inFlight,
      congrArg Lnk.deferred (State.addFaulty_lnk _ _)⟩

theorem State.heard_hears (c : RecContent) (good : Bool) (s : State) : s.Hears c good (s.heard c good) := by
  obtain ⟨aut, rmg, thm, tmb, kln, wpc, pwc, model, inFlight, deferred⟩ := s.storeWritten_others c good
  obtain ⟨frame, quiet⟩ := s.storeWritten_unchanged c good
  have work := State.onWork_unchanged (workWritten c.id good) (s.storeWritten c good)
  refine ⟨aut, rmg, thm, tmb, kln, wpc, pwc, model, inFlight, fun i d hd hw => ?_, (frame.append work).mono,
    fun h => ((quiet h).append work).mono⟩
  refine (Table.get_imap _ _ _).trans ?_
  rw [deferred, hd, Option.map_some, hw]
  obtain ⟨kind, tag, owner, range, state⟩ := d
  cases hw
  rfl

/-- A write that neither WPC nor a GRANT nor the start waits on ends with the engine's part, and STO's next start. -/
theorem State.writeDone_engine {s x : State} {c : RecContent} {good first : Bool} (wipe : waitsOn c.id s.wpc.waits = false)
    (grants : waitsOn c.id s.rmg.grants = false) (run : (s.heard c good).reportEngine c.id good = x) (stage : x.pwc.stage = .done)
    (wpc : x.wpc = s.wpc) : s.writeDone c false good first = x.operationOver.beginOp := by
  have hears := s.heard_hears c good
  have reported : (s.storeWritten c good).reportWrite c.id good = x := by
    rw [State.reportWrite, ← State.heard, State.reportGrants_unheard (by rw [hears.rmg]; exact grants), run,
      State.reportStart_done stage]
  have turn : waitsOn c.id x.wpc.waits = false := by rw [wpc]; exact wipe
  unfold State.writeDone
  simp only [reported, turn, State.turns]
  rfl

theorem State.nextOp_unchanged (x : State) : Unchanged [.operation, .dirty] x x.operationOver.beginOp.settle :=
  (((x.setOperation_unchanged none).append (State.beginOp_unchanged _)).append (State.settle_unchanged _)).mono

theorem State.nextOp_told (x : State) : x.lnk.KeepsTold x.operationOver.beginOp.settle.lnk :=
  x.nextOp_keepsTold.trans (State.settle_keepsTold _)

section
variable {s : State} {c : RecContent} {retry good first : Bool}

/-- RECORD_WRITE ends such a write. -/
theorem execRecordWrite_engine {x : State} (hp : s.pwc.power ≠ .unpowered) (hf : s.sto.inFlight = some (.write c retry false))
    (h : good = true ∨ retry = true) (wipe : waitsOn c.id s.wpc.waits = false) (grants : waitsOn c.id s.rmg.grants = false)
    (run : (s.heard c good).reportEngine c.id good = x) (stage : x.pwc.stage = .done) (wpc : x.wpc = s.wpc) :
    exec (.recordWrite good first) s = .next x.operationOver.beginOp.settle := by
  rw [execRecordWrite_ends hp hf h, State.writeDone_engine wipe grants run stage wpc]

/-- The failed write's record is faulty at the end. -/
theorem State.writeDone_faulty : c.id ∈ (s.writeDone c false false first).sto.faulty :=
  (State.writeDone_holdsStore c false false first s).faulty _ (s.storeWritten_failed c).2.1

end

/-! ## Which writes are left to wait on -/

theorem servedWait_nil {r : RecordId} {ws : List Wait} (h : ∀ x ∈ ws, x.record = r ∧ x.started = true) : servedWait r ws = [] := by
  rw [servedWait, List.filter_eq_nil_iff]
  intro x hx
  simp [h x hx]

theorem servedWait_ne_nil {r : RecordId} {ws : List Wait} (h : ∃ x ∈ ws, x.record ≠ r) : (servedWait r ws).isEmpty = false := by
  obtain ⟨x, hx, ne⟩ := h
  have stays : x ∈ servedWait r ws := List.mem_filter.mpr ⟨hx, by simp [ne]⟩
  rw [List.isEmpty_eq_false_iff]
  exact List.ne_nil_of_mem stays

theorem Engine.eq_of_plain_deriving {e : Engine} {j : Job} (h : e.plain = .deriving_ j) : e = .deriving_ j := by
  cases e with
  | deriving_ k => exact h
  | idle | charging | finishing => cases h

/-! ## The charge (R79) -/

section
variable {u : State} {r : RecordId} {job : Job} {waits : List Wait}

theorem State.reportEngine_charged (engine : u.aut.engine = .charging job waits) (hw : waitsOn r waits = true) :
    u.reportEngine r true = u.onAut fun a =>
      { a with engine := if (servedWait r waits).isEmpty then .deriving_ job else .charging job (servedWait r waits) } := by
  rw [State.reportEngine, engine]
  exact if_pos hw

theorem State.reportEngine_chargeFails (engine : u.aut.engine = .charging job waits) (hw : waitsOn r waits = true) :
    u.reportEngine r false = u.abortJob (storeFault .none) := by
  rw [State.reportEngine, engine]
  exact if_pos hw

end

/-- What an abort of the engine's job leaves. -/
structure State.AbortsJob (r : Reply) (u x : State) : Prop where
  idle : x.aut.engine = .idle
  finishes : ∀ i d, u.lnk.deferred.get i = some d → d.state = .working .engine → x.Finishes i d r
  backoff : ∀ a credential, u.aut.engine.job = some (.authenticate a credential) →
    x.deadline (.backoff a) = some (u.tmb.uptime + delay (u.aut.auth.get a).kept.failures * 1024)
  othersStand : u.OthersStand (fun p => u.aut.engine.backoff == some p) x
  wpc : x.wpc = u.wpc
  pwc : x.pwc = u.pwc
  frame : Unchanged [.deferred, .engine, .deadlines] u x

theorem State.abortJob_aborts (r : Reply) (u : State) : u.AbortsJob r (u.abortJob r) := by
  obtain ⟨v, hv⟩ : ∃ v, v = u.abortBackoff := ⟨_, rfl⟩
  have run : u.abortJob r = (v.onAut fun t => { t with engine := .idle }).answerJob r := hv ▸ rfl
  have lists : Unchanged [.deadlines] u v ∧ v.lnk = u.lnk ∧ v.wpc = u.wpc ∧ v.pwc = u.pwc ∧
      (∀ a credential, u.aut.engine.job = some (.authenticate a credential) →
        v.deadline (.backoff a) = some (u.tmb.uptime + delay (u.aut.auth.get a).kept.failures * 1024)) ∧
      u.OthersStand (fun p => u.aut.engine.backoff == some p) v := by
    rw [hv, State.abortBackoff, Engine.backoff]
    cases job : u.aut.engine.job with
    | none => exact ⟨.refl _ _, rfl, rfl, rfl, nofun, .refl _ _⟩
    | some j =>
      cases j with
      | provision | setCredential => exact ⟨.refl _ _, rfl, rfl, rfl, nofun, .refl _ _⟩
      | authenticate a credential =>
        refine ⟨u.setBackoff_lists a, rfl, rfl, rfl, fun b _ k => ?_, (u.setBackoff_othersStand a).mono fun p hp => ?_⟩
        · obtain ⟨rfl, -⟩ := Job.authenticate.inj (Option.some.inj k)
          exact u.setBackoff_deadline a
        · obtain rfl := eq_of_beq hp
          exact beq_self_eq_true _
  obtain ⟨lists, link, wpc, pwc, backoff, stands⟩ := lists
  have answers := State.answerJob_unchanged r (v.onAut fun t => { t with engine := .idle })
  have after := (v.setEngine_unchanged .idle).append answers
  rw [run]
  exact ⟨answers.engine_idle rfl, fun i d hd hw => State.answerJob_finishes _ (link ▸ hd) hw,
    fun a credential k => (after.deadline (p := .backoff a) nofun).trans (backoff a credential k),
    stands.trans after.othersStand, wpc, pwc, (lists.append after).mono⟩

section
variable {s : State} {c : RecContent} {retry first : Bool} {job : Job} {waits : List Wait}

/-- A write of the charge that verified good. -/
theorem charge_goesOn (hp : s.pwc.power ≠ .unpowered) (stage : s.pwc.stage = .done)
    (hf : s.sto.inFlight = some (.write c retry false)) (wipe : waitsOn c.id s.wpc.waits = false)
    (grants : waitsOn c.id s.rmg.grants = false) (engine : s.aut.engine = .charging job waits)
    (hw : waitsOn c.id waits = true) : ∃ t, exec (.recordWrite true first) s = .next t ∧
      ((∀ x ∈ waits, x.record = c.id ∧ x.started = true) → t.aut.engine = .deriving_ job) ∧
      ((∃ x ∈ waits, x.record ≠ c.id) →
        t.aut.engine.plain = .charging job (waitsFor ((servedWait c.id waits).map Wait.record))) ∧
      Unchanged [.outbound, .deferred, .engine, .records, .operation, .dirty, .faulty] s t := by
  have hears := s.heard_hears c true
  obtain ⟨e, he⟩ : ∃ e, e = if (servedWait c.id waits).isEmpty then Engine.deriving_ job
      else .charging job (servedWait c.id waits) := ⟨_, rfl⟩
  obtain ⟨x, hx⟩ : ∃ x, x = (s.heard c true).onAut fun a => { a with engine := e } := ⟨_, rfl⟩
  have run : (s.heard c true).reportEngine c.id true = x := by
    rw [State.reportEngine_charged (by rw [hears.aut]; exact engine) hw, hx, he]
  have sets : Unchanged [.engine] (s.heard c true) x := hx ▸ State.setEngine_unchanged _ _
  have after := x.nextOp_unchanged
  have plain : x.operationOver.beginOp.settle.aut.engine.plain = e.plain := (after .engine (by decide)).trans (hx ▸ rfl)
  refine ⟨_, execRecordWrite_engine hp hf (.inl rfl) wipe grants run (hx ▸ (congrArg Pwc.stage hears.pwc).trans stage)
    (hx ▸ hears.wpc), fun all => ?_, fun some_ => ?_, (((hears.quiet rfl).append sets).append after).mono⟩
  · rw [he, servedWait_nil all] at plain
    exact Engine.eq_of_plain_deriving plain
  · rw [plain, he, servedWait_ne_nil some_]
    rfl

/-- A write of the charge that failed twice. -/
theorem charge_fails (hp : s.pwc.power ≠ .unpowered) (stage : s.pwc.stage = .done)
    (hf : s.sto.inFlight = some (.write c true false)) (wipe : waitsOn c.id s.wpc.waits = false)
    (grants : waitsOn c.id s.rmg.grants = false) (engine : s.aut.engine = .charging job waits)
    (hw : waitsOn c.id waits = true) : ∃ t, exec (.recordWrite false first) s = .next t ∧ t.aut.engine = .idle ∧
      (∀ i d, s.lnk.deferred.get i = some d → d.state = .working .engine → t.Finishes i d (storeFault .none)) ∧
      (∀ a credential, job = .authenticate a credential → t.deadline (.backoff a) =
        some (s.tmb.uptime + delay (s.aut.auth.get a).kept.failures * 1024)) ∧
      s.OthersStand (fun p => s.aut.engine.backoff == some p) t ∧ c.id ∈ t.sto.faulty ∧
      Unchanged [.outbound, .pendingSet, .period, .deferred, .engine, .deadlines, .records, .operation, .dirty, .faulty] s t := by
  have hears := s.heard_hears c false
  obtain ⟨x, hx⟩ : ∃ x, x = (s.heard c false).abortJob (storeFault .none) := ⟨_, rfl⟩
  have run : (s.heard c false).reportEngine c.id false = x := by
    rw [State.reportEngine_chargeFails (by rw [hears.aut]; exact engine) hw, hx]
  have aborts : (s.heard c false).AbortsJob (storeFault .none) x := hx ▸ State.abortJob_aborts _ _
  have xStage : x.pwc.stage = .done := by rw [aborts.pwc, hears.pwc]; exact stage
  have xWpc : x.wpc = s.wpc := aborts.wpc.trans hears.wpc
  have done := State.writeDone_engine (first := first) wipe grants run xStage xWpc
  have after := x.nextOp_unchanged
  refine ⟨_, execRecordWrite_engine hp hf (.inr rfl) wipe grants run xStage xWpc, after.engine_idle aborts.idle,
    fun i d hd hs => (aborts.finishes i d (hears.entry i d hd hs) hs).step x.nextOp_told, fun a credential k => ?_, ?_, ?_,
    ((hears.frame.append aborts.frame).append after).mono⟩
  · have backoff := aborts.backoff a credential (by rw [hears.aut, engine, k]; rfl)
    rw [hears.tmb, hears.aut] at backoff
    exact (after.deadline (p := .backoff a) nofun).trans backoff
  · have stands := aborts.othersStand
    rw [hears.aut] at stands
    exact (hears.frame.othersStand.trans stands).trans after.othersStand
  · rw [State.settle_sto, ← done]
    exact State.writeDone_faulty

end

end Sys2Proof.Machine
end

section
/-! PROOFS. PROVISION's stages after its first (R16, R75). -/

namespace Sys2Proof.Machine

/-! ## Marks while an operation is in flight (R157) -/

/-- The records are on the dirty list, and nothing but the list and the count of marks has changed. -/
structure State.Lists (rs : List RecordId) (s t : State) : Prop where
  listed : ∀ r, r ∈ rs ∨ (∃ e ∈ s.sto.dirty, e.record = r) → ∃ e ∈ t.sto.dirty, e.record = r
  inFlight : t.sto.inFlight = s.sto.inFlight
  aut : t.aut = s.aut
  wpc : t.wpc = s.wpc
  pwc : t.pwc = s.pwc
  frame : Unchanged [.operation, .dirty] s t

theorem State.markAll_lists {s : State} (busy : s.sto.inFlight.isSome = true) (rs : List RecordId) : s.Lists rs (s.markAll rs) := by
  induction rs generalizing s with
  | nil => exact ⟨fun r h => h.resolve_left (by simp), rfl, rfl, rfl, rfl, .refl _ _⟩
  | cons q rs ih =>
    obtain ⟨u, hu⟩ : ∃ u, u = (s.onSto fun t => { t with dirty := markDirty q q.urgent s.model.marks t.dirty }).onModel fun m =>
      { m with marks := m.marks + 1 } := ⟨_, rfl⟩
    have still : u.sto.inFlight = s.sto.inFlight := hu ▸ rfl
    have marked : s.mark q = u := by
      have begins : u.beginOp = u := by
        rw [State.beginOp, if_neg]
        rw [still, Option.isNone_eq_false_iff.mpr busy, Bool.and_false]
        exact nofun
      rw [← begins, hu]
      rfl
    obtain ⟨listed, inFlight, aut, wpc, pwc, frame⟩ := ih (s := u) (by rw [still]; exact busy)
    have run : s.markAll (q :: rs) = u.markAll rs := congrArg (fun s : State => s.markAll rs) marked
    rw [run]
    refine ⟨fun r h => listed r ?_, inFlight.trans still, aut.trans (hu ▸ rfl), wpc.trans (hu ▸ rfl), pwc.trans (hu ▸ rfl),
      ((marked ▸ s.mark_unchanged q : Unchanged Part.marks s u).append frame).mono⟩
    have dirty : u.sto.dirty = markDirty q q.urgent s.model.marks s.sto.dirty := hu ▸ rfl
    rw [dirty]
    rcases h with h | h
    · rcases List.mem_cons.mp h with rfl | h
      · exact .inr (markDirty_mem _ _ _ _)
      · exact .inl h
    · exact .inr (markDirty_keeps _ _ _ h)

/-- A record on the dirty list is marked to the end of the occurrence in which the operation ends. -/
theorem State.marked_nextOp {r : RecordId} {x : State} (h : ∃ e ∈ x.sto.dirty, e.record = r) :
    x.operationOver.beginOp.settle.Marked r :=
  (State.Marked.beginOp (s := x.operationOver) (.inl h)).of_sto (State.settle_sto _)

/-! ## Fresh keys for several ranges (R4) -/

/-- A range table entry with a fresh key (R4, R10). -/
def RangeEntry.freshened (e : RangeEntry) (domain : Key) (n : Nat) : RangeEntry :=
  { e with
    keyState := .keyed, generation := (e.generation + 1) % 65536, domainWrap := some (wrapped domain (.drawn n))
    deviceWrap := if e.flags.lockEnabled then none else some (wrapped .device (.drawn n)) }

/-- The ranges `rs` have fresh keys, in their order. -/
structure State.FreshKeys (domain : Key) (rs : List RangeIx) (s t : State) : Prop where
  fresh : ∀ r ∈ rs, t.rmg.ranges.get r = (s.rmg.ranges.get r).freshened domain (s.model.draws + rs.idxOf r)
  others : ∀ r, r ∉ rs → t.rmg.ranges.get r = s.rmg.ranges.get r
  draws : t.model.draws = s.model.draws + rs.length
  bumped : t.model.bumped = s.model.bumped
  rangeKeys : t.rmg.rangeKeys = s.rmg.rangeKeys
  mapGen : t.rmg.mapGen = s.rmg.mapGen
  kln : t.kln = s.kln
  thm : t.thm = s.thm
  wpc : t.wpc = s.wpc
  pwc : t.pwc = s.pwc
  frame : Unchanged [.draws, .ranges] s t

theorem State.freshKeys_fresh (domain : Key) {rs : List RangeIx} (nodup : rs.Nodup) (s : State) :
    s.FreshKeys domain rs (rs.foldl (fun s r => s.freshKey domain r) s) := by
  induction rs generalizing s with
  | nil => exact ⟨by simp, fun _ _ => rfl, rfl, rfl, rfl, rfl, rfl, rfl, rfl, rfl, .refl _ _⟩
  | cons q rs ih =>
    obtain ⟨absent, nodup⟩ := List.nodup_cons.mp nodup
    have get (r : RangeIx) := s.freshKey_get domain q r
    obtain ⟨fresh, others, draws, bumped, rangeKeys, mapGen, kln, thm, wpc, pwc, frame⟩ := ih nodup (s.freshKey domain q)
    have drawn : (s.freshKey domain q).model.draws = s.model.draws + 1 := rfl
    rw [List.foldl_cons]
    refine ⟨fun r hr => ?_, fun r hr => ?_, ?_, bumped, rangeKeys, mapGen, kln, thm, wpc, pwc,
      ((s.freshKey_unchanged domain q).append frame).mono⟩
    · by_cases same : q = r
      · subst same
        rw [others q absent, get, if_pos rfl, List.idxOf_cons_self]
        rfl
      · have later : r ∈ rs := (List.mem_cons.mp hr).resolve_left (Ne.symm same)
        rw [fresh r later, get, if_neg same, drawn, List.idxOf_cons_ne _ same]
        congr 1
        omega
    · rw [List.mem_cons, not_or] at hr
      rw [others r hr.2, get, if_neg (Ne.symm hr.1)]
    · rw [draws, drawn, List.length_cons]
      omega

/-! ## R16 for several ranges at once -/

theorem State.eagerLoads_nil (s : State) : s.eagerLoads [] = s := by
  have none_ : s.slotless [] = [] := by simp [State.slotless]
  rw [State.eagerLoads_eq, none_]
  rfl

/-- Where the map generation has been counted, R16 opens the ranges and loads them. -/
theorem State.openPlain_eq {rs : List RangeIx} {s : State} (nodup : rs.Nodup) (bumped : s.model.bumped = true) :
    ∃ u, s.OpensWith (fun r => if r ∈ rs then s.plainKey r else none) u ∧
      s.openPlain LockState.isLocked rs = u.eagerLoads (rs.filter fun r => (s.plainKey r).isSome) := by
  obtain ⟨opens, listed⟩ := openPlainFold_opens nodup (s, [])
  refine ⟨_, opens, ?_⟩
  rw [List.nil_append] at listed
  rw [State.openPlain, listed]
  by_cases empty : rs.filter (fun r => (s.plainKey r).isSome) = []
  · rw [empty, State.eagerLoads_nil]
    rfl
  · have loads := State.eagerLoads_loadsAll (rs.filter fun r => (s.plainKey r).isSome)
      (rs.foldl (openPlainStep LockState.isLocked) (s, [])).1
    rw [if_neg (by rw [List.isEmpty_iff]; exact empty), State.bump_of_bumped]
    rw [loads.model, opens.model]
    exact bumped

/-! ## PROVISION's range keys -/

theorem State.definedRanges_nodup (s : State) : s.definedRanges.Nodup := (List.nodup_finRange 16).filter _

theorem State.mem_definedRanges {s : State} {r : RangeIx} : r ∈ s.definedRanges ↔ s.defined r = true := by
  simp [State.definedRanges]

/-- The number of the key that a defined range draws. -/
def State.keyNumber (s : State) (r : RangeIx) : Nat := s.model.draws + s.definedRanges.idxOf r

/-- The key with which the range opens as its fresh key is made, if it does (R16). -/
def State.freshOpening (s : State) (r : RangeIx) : Option Key :=
  if s.defined r = true ∧ (s.rmg.ranges.get r).flags.lockEnabled = false ∧ (s.rmg.ranges.get r).lock = .locked ∧
      (s.thm.level = .calm ∨ s.thm.level = .wary) then some (.drawn (s.keyNumber r))
  else none

/-- What the openings of PROVISION's second stage leave (R75). -/
structure State.Provides (domain : Key) (s y : State) : Prop where
  armed : y.thm.armed = true
  fresh : ∀ r, s.defined r = true → y.rmg.ranges.get r =
    { (s.rmg.ranges.get r).freshened domain (s.keyNumber r) with
      lock := if (s.freshOpening r).isSome then .opened else (s.rmg.ranges.get r).lock
      slot := (y.rmg.ranges.get r).slot }
  undefined : ∀ r, s.defined r = false → y.rmg.ranges.get r = s.rmg.ranges.get r
  rangeKeys : ∀ r, y.rmg.rangeKeys.get r = (s.freshOpening r).or (s.rmg.rangeKeys.get r)
  draws : y.model.draws = s.model.draws + s.definedRanges.length
  mapGen : s.model.bumped = false → y.rmg.mapGen = nextMapGen s.rmg.mapGen
  loads : ∀ e u, Unchanged e y u → Part.ranges ∉ e ∧ Part.slots ∉ e ∧ Part.lane ∉ e ∧ Part.uptime ∉ e →
    u.Loads ((List.finRange 16).filter fun r => (s.freshOpening r).isSome && (s.rmg.ranges.get r).slot.isNone)
      s.kln.slots s.kln.queue s.kln.lane
  wpc : y.wpc = s.wpc
  frame : Unchanged [.armed, .draws, .rangeKeys, .ranges, .faulty, .slots, .lane, .mapGen] s y

theorem Level.opensPlain_iff_calm_or_wary (l : Level) : l.opensPlain = true ↔ l = .calm ∨ l = .wary := by cases l <;> simp [Level.opensPlain]

theorem State.bump_wpc (s : State) : s.bump.wpc = s.wpc := by
  unfold State.bump
  split <;> rfl

/-- Every defined range has its fresh key, the absence check is armed and the map generation counted, before R16. -/
def State.rekeyed (domain : Key) (s : State) : State :=
  (s.definedRanges.foldl (fun s r => s.freshKey domain r) (s.onThm fun t => { t with armed := true })).bump

structure State.Rekeyed (domain : Key) (s b : State) : Prop where
  entry : ∀ r, s.defined r = true → b.rmg.ranges.get r = (s.rmg.ranges.get r).freshened domain (s.keyNumber r)
  undefined : ∀ r, ¬ s.defined r = true → b.rmg.ranges.get r = s.rmg.ranges.get r
  thm : b.thm = { s.thm with armed := true }
  rangeKeys : b.rmg.rangeKeys = s.rmg.rangeKeys
  draws : b.model.draws = s.model.draws + s.definedRanges.length
  mapGen : s.model.bumped = false → b.rmg.mapGen = nextMapGen s.rmg.mapGen
  bumped : b.model.bumped = true
  kln : b.kln = s.kln
  wpc : b.wpc = s.wpc
  frame : Unchanged [.armed, .draws, .ranges, .mapGen] s b

theorem State.rekeyed_rekeyed (domain : Key) (s : State) : s.Rekeyed domain (s.rekeyed domain) := by
  obtain ⟨f, hf⟩ : ∃ f, f = s.definedRanges.foldl (fun s r => s.freshKey domain r) (s.onThm fun t => { t with armed := true }) :=
    ⟨_, rfl⟩
  obtain ⟨fresh, others, draws, bumped, rangeKeys, mapGen, kln, thm, wpc, -, frame⟩ :=
    State.freshKeys_fresh domain s.definedRanges_nodup (s.onThm fun t => { t with armed := true })
  have run : s.rekeyed domain = f.bump := hf ▸ rfl
  rw [← hf] at fresh others draws bumped rangeKeys mapGen kln thm wpc frame
  have arms : Unchanged [.armed] s (s.onThm fun t => { t with armed := true }) := by
    intro p hp; cases p <;> simp_all [Part.same]
  rw [run]
  refine ⟨fun r hr => ?_, fun r hr => ?_, (State.bump_thm f).trans thm, (State.bump_keys f).trans rangeKeys,
    (State.bump_draws f).trans draws, fun unbumped => ?_, f.bump_bumped, (State.bump_kln f).trans kln,
    (State.bump_wpc f).trans wpc, ((arms.append frame).append f.bump_unchanged).mono⟩
  · rw [State.bump_ranges, fresh r (State.mem_definedRanges.mpr hr)]
    rfl
  · rw [State.bump_ranges, others r fun k => hr (State.mem_definedRanges.mp k)]
    rfl
  · rw [State.bump_mapGen (bumped.trans unbumped), mapGen]
    rfl

section
variable {domain : Key} {s b : State} {r : RangeIx}

theorem State.Rekeyed.slot (h : s.Rekeyed domain b) : (b.rmg.ranges.get r).slot = (s.rmg.ranges.get r).slot := by
  by_cases hr : s.defined r = true
  · rw [h.entry r hr]
    rfl
  · rw [h.undefined r hr]

/-- R16 lets a range with its fresh key open where it is LOCKED, `lock_enabled` false, under CALM or WARY. -/
theorem State.Rekeyed.opensPlain (h : s.Rekeyed domain b) (hr : s.defined r = true) :
    b.opensPlain LockState.isLocked r = true ↔ (s.rmg.ranges.get r).flags.lockEnabled = false ∧
      (s.rmg.ranges.get r).lock = .locked ∧ (s.thm.level = .calm ∨ s.thm.level = .wary) := by
  have defined : b.defined r = true := by
    rw [State.defined, h.entry r hr]
    exact hr
  rw [State.opensPlain_iff, h.entry r hr, h.thm, Level.opensPlain_iff_calm_or_wary]
  constructor
  · rintro ⟨-, plain, -, -, calm, locked⟩
    exact ⟨plain, locked, calm⟩
  · rintro ⟨plain, locked, calm⟩
    exact ⟨defined, plain, rfl, by simp [RangeEntry.freshened, plain], calm, locked⟩

theorem State.Rekeyed.plainKey (h : s.Rekeyed domain b) (r : RangeIx) :
    (if r ∈ s.definedRanges then b.plainKey r else none) = s.freshOpening r := by
  rw [State.freshOpening]
  by_cases hr : s.defined r = true
  · rw [if_pos (State.mem_definedRanges.mpr hr), State.plainKey]
    by_cases may : (s.rmg.ranges.get r).flags.lockEnabled = false ∧ (s.rmg.ranges.get r).lock = .locked ∧
        (s.thm.level = .calm ∨ s.thm.level = .wary)
    · rw [if_pos ((h.opensPlain hr).mpr may), if_pos ⟨hr, may⟩, h.entry r hr]
      simp only [RangeEntry.freshened, may.1, if_neg Bool.false_ne_true]
      exact unwrap_wrapped _ _
    · rw [if_neg fun k => may ((h.opensPlain hr).mp k), if_neg fun k => may k.2]
  · rw [if_neg fun k => hr (State.mem_definedRanges.mp k), if_neg fun k => hr k.1]

/-- The ranges that R16 opens, as a list. -/
theorem State.Rekeyed.opened (h : s.Rekeyed domain b) (r : RangeIx) :
    (s.definedRanges.filter fun r => (b.plainKey r).isSome).contains r = (s.freshOpening r).isSome := by
  rw [Bool.eq_iff_iff, List.contains_iff_mem, List.mem_filter, ← h.plainKey]
  by_cases hr : r ∈ s.definedRanges <;> simp [hr]

end

theorem State.provisionOpenings_provides (domain : Key) (s : State) : s.Provides domain (s.provisionOpenings domain) := by
  obtain ⟨b, hb⟩ : ∃ b, b = s.rekeyed domain := ⟨_, rfl⟩
  have rekeyed : s.Rekeyed domain b := hb ▸ s.rekeyed_rekeyed domain
  obtain ⟨u, opens, opened⟩ := State.openPlain_eq (s := b) s.definedRanges_nodup rekeyed.bumped
  obtain ⟨rs, hrs⟩ : ∃ rs, rs = s.definedRanges.filter fun r => (b.plainKey r).isSome := ⟨_, rfl⟩
  have run : s.provisionOpenings domain = b.openPlain LockState.isLocked s.definedRanges := hb ▸ rfl
  rw [run, opened, ← hrs]
  have opens := opens.congr fun r => (rekeyed.plainKey r).symm
  have loads := State.eagerLoads_loadsAll rs u
  have last := State.eagerLoads_unchanged rs u
  have slots (r : RangeIx) : (u.rmg.ranges.get r).slot = (s.rmg.ranges.get r).slot := by
    rw [opens.ranges, ← rekeyed.slot]
    split <;> rfl
  have slotless : u.slotless rs =
      (List.finRange 16).filter fun r => (s.freshOpening r).isSome && (s.rmg.ranges.get r).slot.isNone :=
    List.filter_congr fun r _ => by rw [hrs, rekeyed.opened, slots]
  refine ⟨?_, fun r hr => ?_, fun r hr => ?_, fun r => ?_, ?_, fun fresh => ?_, fun e v k he => ?_, ?_,
    ((rekeyed.frame.append opens.frame).append last).mono⟩
  · rw [(last .armed (by decide) : _ = u.thm.armed), opens.thm, rekeyed.thm]
  · rw [loads.entry r, opens.ranges, rekeyed.entry r hr]
    split <;> rfl
  · have out : ¬ s.defined r = true := by simp [hr]
    have shut : s.freshOpening r = none := if_neg fun k => out k.1
    have absent : r ∉ u.slotless rs := by
      rw [slotless, List.mem_filter, shut]
      simp
    rw [loads.others r absent, opens.ranges, shut, rekeyed.undefined r out]
    rfl
  · rw [(last .rangeKeys (by decide) : _ = u.rmg.rangeKeys), opens.keys, rekeyed.rangeKeys]
  · rw [loads.model, opens.model, rekeyed.draws]
  · rw [(last .mapGen (by decide) : _ = u.rmg.mapGen), opens.mapGen, rekeyed.mapGen fresh]
  · have all := loads.loads k he
    rw [slotless, opens.kln, rekeyed.kln] at all
    exact all
  · rw [loads.wpc, opens.wpc, rekeyed.wpc]

/-! ## The stages (R75) -/

section
variable {u : State} {r : RecordId} {stage : Stage} {domain : Key} {waits : List Wait}

theorem State.reportEngine_stageWaits (engine : u.aut.engine = .finishing stage domain waits) (hw : waitsOn r waits = true)
    (some_ : ∃ x ∈ waits, x.record ≠ r) :
    u.reportEngine r true = u.onAut fun a => { a with engine := .finishing stage domain (servedWait r waits) } := by
  rw [State.reportEngine, engine]
  simp only [hw, if_true, servedWait_ne_nil some_]
  rfl

theorem State.reportEngine_stageEnds (engine : u.aut.engine = .finishing stage domain waits) (hw : waitsOn r waits = true)
    (all : ∀ x ∈ waits, x.record = r ∧ x.started = true) : u.reportEngine r true = u.nextStage stage domain := by
  rw [State.reportEngine, engine]
  simp only [hw, if_true, servedWait_nil all, List.isEmpty_nil]

theorem State.reportEngine_stageFails (engine : u.aut.engine = .finishing stage domain waits) (hw : waitsOn r waits = true) :
    u.reportEngine r false = (u.onAut fun a => { a with engine := .idle }).answerJob (storeFault .none) := by
  rw [State.reportEngine, engine]
  simp only [hw, if_true]
  rfl

end

/-- A write that a stage of PROVISION waits on, and no other block, is ending. -/
structure State.StageWrite (s : State) (c : RecContent) (retry : Bool) (stage : Stage) (domain : Key) (waits : List Wait) : Prop where
  powered : s.pwc.power ≠ .unpowered
  started : s.pwc.stage = .done
  inFlight : s.sto.inFlight = some (.write c retry false)
  wipe : waitsOn c.id s.wpc.waits = false
  grants : waitsOn c.id s.rmg.grants = false
  engine : s.aut.engine = .finishing stage domain waits
  waited : waitsOn c.id waits = true

section
variable {s : State} {c : RecContent} {retry first : Bool} {stage : Stage} {domain : Key} {waits : List Wait}

/-- A write of a stage that failed twice ends PROVISION where it stands. -/
theorem State.StageWrite.fails (h : s.StageWrite c true stage domain waits) : ∃ t, exec (.recordWrite false first) s = .next t ∧
    t.aut.engine = .idle ∧
    (∀ i d, s.lnk.deferred.get i = some d → d.state = .working .engine → t.Finishes i d (storeFault .none)) ∧
    Unchanged [.outbound, .pendingSet, .period, .deferred, .engine, .records, .operation, .dirty, .faulty] s t := by
  obtain ⟨hp, started, hf, wipe, grants, engine, hw⟩ := h
  have hears := s.heard_hears c false
  obtain ⟨x, hx⟩ : ∃ x, x = ((s.heard c false).onAut fun a => { a with engine := .idle }).answerJob (storeFault .none) := ⟨_, rfl⟩
  have run : (s.heard c false).reportEngine c.id false = x := by
    rw [State.reportEngine_stageFails (by rw [hears.aut]; exact engine) hw, hx]
  have answers : Unchanged [.deferred] ((s.heard c false).onAut fun a => { a with engine := .idle }) x :=
    hx ▸ State.answerJob_unchanged _ _
  have after := x.nextOp_unchanged
  refine ⟨_, execRecordWrite_engine hp hf (.inr rfl) wipe grants run (hx ▸ (congrArg Pwc.stage hears.pwc).trans started)
    (hx ▸ hears.wpc), (answers.append after).engine_idle rfl, fun i d hd hs => ?_,
    (((hears.frame.append (State.setEngine_unchanged _ _)).append answers).append after).mono⟩
  have finished : x.Finishes i d (storeFault .none) := hx ▸ State.answerJob_finishes
    (s := (s.heard c false).onAut fun a => { a with engine := .idle }) _ (hears.entry i d hd hs) hs
  exact finished.step x.nextOp_told

/-- A write of a stage that verified good, others still to be written. -/
theorem State.StageWrite.othersLeft (h : s.StageWrite c retry stage domain waits) (some_ : ∃ x ∈ waits, x.record ≠ c.id) :
    ∃ t, exec (.recordWrite true first) s = .next t ∧
      t.aut.engine.plain = .finishing stage domain (waitsFor ((servedWait c.id waits).map Wait.record)) ∧
      Unchanged [.outbound, .deferred, .engine, .records, .operation, .dirty, .faulty] s t := by
  obtain ⟨hp, started, hf, wipe, grants, engine, hw⟩ := h
  have hears := s.heard_hears c true
  obtain ⟨x, hx⟩ : ∃ x, x = (s.heard c true).onAut fun a =>
    { a with engine := .finishing stage domain (servedWait c.id waits) } := ⟨_, rfl⟩
  have run : (s.heard c true).reportEngine c.id true = x := by
    rw [State.reportEngine_stageWaits (by rw [hears.aut]; exact engine) hw some_, hx]
  have sets : Unchanged [.engine] (s.heard c true) x := hx ▸ State.setEngine_unchanged _ _
  have after := x.nextOp_unchanged
  exact ⟨_, execRecordWrite_engine hp hf (.inl rfl) wipe grants run (hx ▸ (congrArg Pwc.stage hears.pwc).trans started)
    (hx ▸ hears.wpc), (after .engine (by decide)).trans (hx ▸ rfl), (((hears.quiet rfl).append sets).append after).mono⟩

/-- The stage's last write verified good: the next stage is taken. -/
theorem State.StageWrite.run {x : State} (h : s.StageWrite c retry stage domain waits)
    (all : ∀ y ∈ waits, y.record = c.id ∧ y.started = true) (next : (s.heard c true).nextStage stage domain = x)
    (started : x.pwc.stage = .done) (wpc : x.wpc = s.wpc) :
    exec (.recordWrite true first) s = .next x.operationOver.beginOp.settle := by
  have hears := s.heard_hears c true
  refine execRecordWrite_engine h.powered h.inFlight (.inl rfl) h.wipe h.grants ?_ started wpc
  rw [State.reportEngine_stageEnds (by rw [hears.aut]; exact h.engine) h.waited all, next]

/-- After the authorities, the lifecycle. -/
theorem State.StageWrite.lifecycle (h : s.StageWrite c retry .authorities domain waits)
    (all : ∀ x ∈ waits, x.record = c.id ∧ x.started = true) : ∃ t, exec (.recordWrite true first) s = .next t ∧
      t.aut.lifecycle = .provisioned ∧ t.aut.tryCount = 0 ∧ t.aut.lastSignIn = s.pscNow ∧ t.Marked .counters ∧
      t.aut.engine.plain = .finishing .lifecycle domain (waitsFor [.counters]) ∧
      Unchanged [.outbound, .deferred, .lifecycle, .tryCount, .lastSignIn, .engine, .records, .operation, .dirty, .faulty] s t := by
  have hears := s.heard_hears c true
  obtain ⟨u, hu⟩ : ∃ u, u = (s.heard c true).onAut fun a =>
    { a with
      lifecycle := .provisioned, tryCount := 0, lastSignIn := (s.heard c true).pscNow
      engine := .finishing .lifecycle domain (waitsFor [.counters]) } := ⟨_, rfl⟩
  have sets : Unchanged [.lifecycle, .tryCount, .lastSignIn, .engine] (s.heard c true) u := by
    rw [hu]
    intro p hp; cases p <;> simp_all [Part.same]
  have busy : u.sto.inFlight.isSome = true := by
    have same : u.sto.inFlight = s.sto.inFlight := hu ▸ hears.inFlight
    rw [same, h.inFlight]
    rfl
  have lists : u.Lists [.counters] (u.markAll [.counters]) := State.markAll_lists busy _
  have next : (s.heard c true).nextStage .authorities domain = u.markAll [.counters] := hu ▸ rfl
  have after := (u.markAll [.counters]).nextOp_unchanged
  have late := lists.frame.append after
  have psc : (s.heard c true).pscNow = s.pscNow := by rw [State.pscNow, State.pscNow, hears.tmb]
  refine ⟨_, h.run all next ?_ ?_, (late .lifecycle (by decide) : _ = _).trans (hu ▸ rfl),
    (late .tryCount (by decide) : _ = _).trans (hu ▸ rfl), (late .lastSignIn (by decide) : _ = _).trans (hu ▸ psc),
    State.marked_nextOp (lists.listed _ (.inl (by simp))), (late .engine (by decide) : _ = _).trans (hu ▸ rfl),
    (((hears.quiet rfl).append sets).append late).mono⟩
  · rw [lists.pwc]
    exact hu ▸ (congrArg Pwc.stage hears.pwc).trans h.started
  · rw [lists.wpc]
    exact hu ▸ hears.wpc

/-- After the range keys, the reply. -/
theorem State.StageWrite.provisioned (h : s.StageWrite c retry .rangeKeys domain waits)
    (all : ∀ x ∈ waits, x.record = c.id ∧ x.started = true) : ∃ t, exec (.recordWrite true first) s = .next t ∧
      t.aut.engine = .idle ∧
      (∀ i d, s.lnk.deferred.get i = some d → d.state = .working .engine → t.Finishes i d (okWith
        (.provisioned s.aut.lifecycle (s.definedRanges.map fun r => (r, (s.rmg.ranges.get r).generation))))) ∧
      Unchanged [.outbound, .deferred, .engine, .records, .operation, .dirty, .faulty] s t := by
  have hears := s.heard_hears c true
  obtain ⟨reply, hreply⟩ : ∃ reply, reply = okWith
      (.provisioned s.aut.lifecycle (s.definedRanges.map fun r => (r, (s.rmg.ranges.get r).generation))) := ⟨_, rfl⟩
  obtain ⟨x, hx⟩ : ∃ x, x = ((s.heard c true).onAut fun a => { a with engine := .idle }).answerJob reply := ⟨_, rfl⟩
  have next : (s.heard c true).nextStage .rangeKeys domain = x := by
    have lifecycle : (s.heard c true).aut.lifecycle = s.aut.lifecycle := by rw [hears.aut]
    have ranges : (s.heard c true).rmg.ranges = s.rmg.ranges := by rw [hears.rmg]
    rw [hx, hreply, ← lifecycle, ← ranges]
    rfl
  have answers : Unchanged [.deferred] ((s.heard c true).onAut fun a => { a with engine := .idle }) x :=
    hx ▸ State.answerJob_unchanged _ _
  have after := x.nextOp_unchanged
  rw [← hreply]
  refine ⟨_, h.run all next (hx ▸ (congrArg Pwc.stage hears.pwc).trans h.started) (hx ▸ hears.wpc),
    (answers.append after).engine_idle rfl, fun i d hd hs => ?_,
    ((((hears.quiet rfl).append (State.setEngine_unchanged _ _)).append answers).append after).mono⟩
  have finished : x.Finishes i d reply := hx ▸ State.answerJob_finishes
    (s := (s.heard c true).onAut fun a => { a with engine := .idle }) _ (hears.entry i d hd hs) hs
  exact finished.step x.nextOp_told

/-- After the lifecycle, a fresh key for every defined range. -/
structure State.KeysProvided (domain : Key) (s t : State) : Prop where
  engine : t.aut.engine.plain = .finishing .rangeKeys domain (waitsFor (s.definedRanges.map .rangeKey))
  armed : t.thm.armed = true
  marked : ∀ r, s.defined r = true → t.Marked (.rangeKey r)
  fresh : ∀ r, s.defined r = true → t.rmg.ranges.get r =
    { (s.rmg.ranges.get r).freshened domain (s.keyNumber r) with
      lock := if (s.freshOpening r).isSome then .opened else (s.rmg.ranges.get r).lock
      slot := (t.rmg.ranges.get r).slot }
  undefined : ∀ r, s.defined r = false → t.rmg.ranges.get r = s.rmg.ranges.get r
  rangeKeys : ∀ r, t.rmg.rangeKeys.get r = (s.freshOpening r).or (s.rmg.rangeKeys.get r)
  draws : t.model.draws = s.model.draws + s.definedRanges.length
  mapGen : s.model.bumped = false → t.rmg.mapGen = nextMapGen s.rmg.mapGen
  loads : t.Loads ((List.finRange 16).filter fun r => (s.freshOpening r).isSome && (s.rmg.ranges.get r).slot.isNone)
    s.kln.slots s.kln.queue s.kln.lane
  frame : Unchanged [.outbound, .deferred, .ranges, .rangeKeys, .mapGen, .slots, .lane, .armed, .engine, .draws, .records,
    .operation, .dirty, .faulty] s t

theorem State.StageWrite.keys (h : s.StageWrite c retry .lifecycle domain waits)
    (all : ∀ x ∈ waits, x.record = c.id ∧ x.started = true) :
    ∃ t, exec (.recordWrite true first) s = .next t ∧ s.KeysProvided domain t := by
  have hears := s.heard_hears c true
  obtain ⟨u, hu⟩ : ∃ u, u = s.heard c true := ⟨_, rfl⟩
  rw [← hu] at hears
  have defined (r : RangeIx) : u.defined r = s.defined r := by rw [State.defined, State.defined, hears.rmg]
  have listed : u.definedRanges = s.definedRanges := by simp only [State.definedRanges, defined]
  have number (r : RangeIx) : u.keyNumber r = s.keyNumber r := by rw [State.keyNumber, State.keyNumber, listed, hears.model]
  have opening (r : RangeIx) : u.freshOpening r = s.freshOpening r := by
    rw [State.freshOpening, State.freshOpening, number, defined, hears.rmg, hears.thm]
  obtain ⟨armed, fresh, undefined, rangeKeys, draws, mapGen, loads, wpc, frame⟩ := u.provisionOpenings_provides domain
  obtain ⟨y, hy⟩ : ∃ y, y = u.provisionOpenings domain := ⟨_, rfl⟩
  rw [← hy] at armed fresh undefined rangeKeys draws mapGen loads wpc frame
  simp only [defined, number, opening, listed, hears.rmg, hears.model, hears.kln] at fresh undefined rangeKeys draws mapGen loads
  obtain ⟨v, hv⟩ : ∃ v, v = y.onAut fun a =>
    { a with engine := .finishing .rangeKeys domain (waitsFor (s.definedRanges.map .rangeKey)) } := ⟨_, rfl⟩
  have sets : Unchanged [.engine] y v := hv ▸ State.setEngine_unchanged _ _
  have busy : v.sto.inFlight.isSome = true := by
    have same : y.sto.inFlight = u.sto.inFlight := (frame .operation (by decide)).1
    have keeps : v.sto.inFlight = y.sto.inFlight := hv ▸ rfl
    rw [keeps, same, hears.inFlight, h.inFlight]
    rfl
  obtain ⟨x, hx⟩ : ∃ x, x = v.markAll (s.definedRanges.map .rangeKey) := ⟨_, rfl⟩
  have lists : v.Lists (s.definedRanges.map .rangeKey) x := hx ▸ State.markAll_lists busy _
  have next : (s.heard c true).nextStage .lifecycle domain = x := by
    rw [← hu, hx, hv, hy, ← listed]
    rfl
  have stage : y.pwc.stage = u.pwc.stage := (frame .stage (by decide)).1
  have after := lists.frame.append x.nextOp_unchanged
  have late := sets.append after
  refine ⟨_, h.run all next ?_ ?_, (after .engine (by decide) : _ = _).trans ?_, (late .armed (by decide) : _ = _).trans armed,
    fun r hr => State.marked_nextOp (lists.listed _ (.inl ?_)), fun r hr => ?_, fun r hr => ?_, fun r => ?_,
    (late .draws (by decide) : _ = _).trans draws, fun k => (late .mapGen (by decide) : _ = _).trans (mapGen k),
    loads _ _ late (by decide), (((hears.quiet rfl).append frame).append late).mono⟩
  · rw [lists.pwc, hv]
    exact stage.trans ((congrArg Pwc.stage hears.pwc).trans h.started)
  · rw [lists.wpc, hv]
    exact wpc.trans hears.wpc
  · rw [hv]
    simp [Engine.plain, waitsFor]
  · exact List.mem_map_of_mem (State.mem_definedRanges.mpr hr)
  · rw [(late .ranges (by decide) : _ = y.rmg.ranges)]
    exact fresh r hr
  · rw [(late .ranges (by decide) : _ = y.rmg.ranges)]
    exact undefined r hr
  · rw [(late .rangeKeys (by decide) : _ = y.rmg.rangeKeys)]
    exact rangeKeys r

end

/-! ## The range keys in the terms of the statement -/

section
variable {s t : State} {domain : Key} {r : RangeIx}

theorem State.freshOpening_defined (hr : s.defined r = true) : s.freshOpening r =
    if (s.rmg.ranges.get r).flags.lockEnabled = false ∧ (s.rmg.ranges.get r).lock = .locked ∧
      (s.thm.level = .calm ∨ s.thm.level = .wary) then some (.drawn (s.keyNumber r)) else none := by
  simp only [State.freshOpening, hr, true_and]

/-- Every key is a new one. -/
theorem State.KeysProvided.number (h : s.KeysProvided domain t) (hr : s.defined r = true) :
    s.model.draws ≤ s.keyNumber r ∧ s.keyNumber r < t.model.draws := by
  have position := List.idxOf_lt_length_of_mem (State.mem_definedRanges.mpr hr)
  rw [h.draws, State.keyNumber]
  omega

/-- What a defined range has with its fresh key. -/
theorem State.KeysProvided.entry (h : s.KeysProvided domain t) (hr : s.defined r = true) : ∃ n, s.model.draws ≤ n ∧
    n < t.model.draws ∧ t.Marked (.rangeKey r) ∧ (t.rmg.ranges.get r).keyState = .keyed ∧
    (t.rmg.ranges.get r).generation = ((s.rmg.ranges.get r).generation + 1) % 65536 ∧
    (t.rmg.ranges.get r).domainWrap = some (wrapped domain (.drawn n)) ∧
    (t.rmg.ranges.get r).geometry = (s.rmg.ranges.get r).geometry ∧
    (t.rmg.ranges.get r).flags = (s.rmg.ranges.get r).flags ∧
    (t.rmg.ranges.get r).deviceWrap =
      (if (s.rmg.ranges.get r).flags.lockEnabled then none else some (wrapped .device (.drawn n))) ∧
    (if (s.rmg.ranges.get r).flags.lockEnabled = false ∧ (s.rmg.ranges.get r).lock = .locked ∧
        (s.thm.level = .calm ∨ s.thm.level = .wary) then
      (t.rmg.ranges.get r).lock = .opened ∧ t.rmg.rangeKeys.get r = some (.drawn n)
    else (t.rmg.ranges.get r).lock = (s.rmg.ranges.get r).lock ∧ t.rmg.rangeKeys.get r = s.rmg.rangeKeys.get r) := by
  obtain ⟨least, most⟩ := h.number hr
  refine ⟨s.keyNumber r, least, most, h.marked r hr, ?_, ?_, ?_, ?_, ?_, ?_, ?_⟩
  all_goals rw [h.fresh r hr]
  any_goals rfl
  rw [h.rangeKeys, State.freshOpening_defined hr]
  split <;> exact ⟨rfl, rfl⟩

/-- The ranges that take a slot are those that have opened. -/
theorem State.KeysProvided.opened (h : s.KeysProvided domain t) (r : RangeIx) :
    (s.defined r && (s.rmg.ranges.get r).lock == .locked && (t.rmg.ranges.get r).lock == .opened) = (s.freshOpening r).isSome := by
  by_cases hr : s.defined r = true
  · rw [h.fresh r hr, State.freshOpening_defined hr]
    split
    · next may => simp [hr, may.2.1]
    · by_cases locked : (s.rmg.ranges.get r).lock = .locked <;> simp [locked]
  · simp [State.freshOpening, hr]

end

/-- Settles O36: the engine hears of the write, goes on, fails or takes the next stage, and STO then starts its next operation. -/
theorem chargesAndProvisionGoOnAsTheirWritesEnd : Obligations.ChargesAndProvisionGoOnAsTheirWritesEnd := by
  refine fun s w good retry first hp started hf ends wipe grants => ⟨fun job waits engine hw => ?_,
    fun stage domain waits engine hw => ?_⟩
  · cases good with
    | true =>
      obtain ⟨t, run, done, left, frame⟩ := charge_goesOn (first := first) hp started hf wipe grants engine hw
      exact ⟨t, run, fun _ => done, fun _ => left, fun _ => frame, nofun⟩
    | false =>
      obtain rfl : retry = true := ends.resolve_left nofun
      obtain ⟨t, run, fails⟩ := charge_fails (first := first) hp started hf wipe grants engine hw
      exact ⟨t, run, nofun, nofun, nofun, fun _ => fails⟩
  · have write : s.StageWrite w retry stage domain waits := ⟨hp, started, hf, wipe, grants, engine, hw⟩
    cases good with
    | false =>
      obtain rfl : retry = true := ends.resolve_left nofun
      obtain ⟨t, run, fails⟩ := write.fails (first := first)
      exact ⟨t, run, fun _ => fails, nofun, nofun⟩
    | true =>
      by_cases some_ : ∃ x ∈ waits, x.record ≠ w.id
      · obtain ⟨t, run, left⟩ := write.othersLeft (first := first) some_
        obtain ⟨x, hx, ne⟩ := some_
        exact ⟨t, run, nofun, fun _ _ => left, fun _ all => absurd (all x hx).1 ne⟩
      · by_cases all : ∀ x ∈ waits, x.record = w.id ∧ x.started = true
        · cases stage with
          | authorities =>
            obtain ⟨t, run, next⟩ := write.lifecycle (first := first) all
            exact ⟨t, run, nofun, fun _ k => absurd k some_, fun _ _ => ⟨fun _ => next, nofun, nofun⟩⟩
          | rangeKeys =>
            obtain ⟨t, run, next⟩ := write.provisioned (first := first) all
            exact ⟨t, run, nofun, fun _ k => absurd k some_, fun _ _ => ⟨nofun, nofun, fun _ => next⟩⟩
          | lifecycle =>
            obtain ⟨t, run, keys⟩ := write.keys (first := first) all
            refine ⟨t, run, nofun, fun _ k => absurd k some_, fun _ _ => ⟨nofun, fun _ => ⟨keys.armed, keys.engine, keys.mapGen,
              keys.undefined, fun r hr => keys.entry hr, ?_, fun q r ne hq hr => ?_, keys.frame⟩, nofun⟩⟩
            · simp only [keys.opened]
              exact keys.loads
            · rw [keys.fresh q hq, keys.fresh r hr]
              intro same
              have numbers : s.keyNumber q = s.keyNumber r := by simpa [RangeEntry.freshened, wrapped] using same
              have positions : s.definedRanges.idxOf q = s.definedRanges.idxOf r := Nat.add_left_cancel numbers
              exact ne ((List.idxOf_inj (State.mem_definedRanges.mpr hq)).mp positions)
        · obtain ⟨t, run⟩ : ∃ t, exec (.recordWrite true first) s = .next t := ⟨_, execRecordWrite_ends hp hf (.inl rfl)⟩
          exact ⟨t, run, nofun, fun _ k => absurd k some_, fun _ k => absurd k all⟩

end Sys2Proof.Machine
end

end
